-- ==== Sys2Proof/Word.lean ====
section
/-!
DEFINITION. The word types of the BX216, tables of fixed length, and the plain arithmetic of the manual's
conventions (00_scope.md, 6.2): division that truncates toward zero and clamping to a range.
-/

namespace Sys2Proof

/-- One byte of a link frame, and every 8-bit wrapping counter (R4 sample sequence, R145 occurrence count). -/
abbrev Byte := BitVec 8

/-- A 16-bit figure: a condition parameter, a page id, a rack number. -/
abbrev Half := BitVec 16

/-- A 32-bit figure: an uptime, a round number, the travel counter. -/
abbrev Word := BitVec 32

/-- A table of exactly `n` records, numbered from 0 (00_scope.md, 6.3). -/
structure Table (α : Type) (n : Nat) where
  items : List α
  size  : items.length = n
deriving DecidableEq, Repr

namespace Table

variable {α β : Type} {n : Nat}

/-- The record at index `i`. -/
def get (t : Table α n) (i : Fin n) : α :=
  t.items[i.val]'(by rw [t.size]; exact i.isLt)

/-- The table with the record at index `i` replaced. -/
def set (t : Table α n) (i : Fin n) (a : α) : Table α n :=
  ⟨t.items.set i.val a, by rw [List.length_set, t.size]⟩

/-- The table whose record at index `i` is `f i`. -/
def ofFn (f : Fin n → α) : Table α n :=
  ⟨List.ofFn f, List.length_ofFn⟩

/-- Every record changed by `f`. -/
def map (f : α → β) (t : Table α n) : Table β n :=
  ⟨t.items.map f, by rw [List.length_map, t.size]⟩

end Table

/-- `x` clamped to `[lo, hi]`: a value below `lo` is taken as `lo`, one above `hi` as `hi` (00_scope.md, 6.2). -/
def clamp (lo hi x : Int) : Int :=
  if x < lo then lo else if hi < x then hi else x

/-- Division truncating toward zero, the manual's `trunc(x / y)` (00_scope.md, 6.2). -/
def trunc (x y : Int) : Int := Int.tdiv x y

/-- A signed quantity as a 16-bit two's complement figure (08_conditions.md, 8.1). -/
def signed16 (x : Int) : Half := BitVec.ofInt 16 x

end Sys2Proof
end

