-- ==== Sys2Proof/Config.lean ====
section
/-!
DEFINITION. What an implementation fixes: the free values. The manual gives each of them no value, so each is a
constant with no body: nothing in Lean can evaluate it.
-/

namespace Sys2Proof

/-- The source of a page (09_staff_paging.md, section 9.2): a condition slot, an oven (PROGRAM_DONE), a wave slot
(WAVE_READY), a cabinet (PLATES_LOW), or the host with its tag. -/
inductive Source where
  | slot (i : Fin 87)
  | oven (i : Fin 6)
  | wave (i : Fin 12)
  | cabinet (i : Fin 8)
  | host (tag : Byte)
deriving DecidableEq, Repr, Inhabited

/-- FREE VALUE. What the 32-bit uptime counter holds one second after 4,294,967,295. 00_scope.md section 3 gives the
width and says neither "wraps" nor "saturates" (6.2). Log entry 1. -/
opaque Config.uptimeAfterLargest : Word

/-- FREE VALUE. The group byte of a TRANSMIT to one pager, by its page id. R164 gives the group number only for a
broadcast, and R194 lays out the byte in every TRANSMIT. Log entry 2. -/
opaque Config.singleTransmitGroup : Half → Byte

/-- FREE VALUE. The source in the outcome record of a late answer, by the page id answered. R173 gives every record a
source; R169 has a late answer recorded when its page is in the queue no more, and states no source for it. Log
entry 3. -/
opaque Config.lateAnswerSource : Half → Source

end Sys2Proof
end

