-- ==== Sys2Proof/Syntax.lean ====
section
/-!
DEFINITION. The commands of the BX216: one constructor for each row of spec/opcode_table.json, in the table's order.

A request row carries the tag of its frame and then its fields in the order of R192, each as wide as R194 makes it on
the wire; a field that no wire value can spell is thus no operand. An event row carries what the outside world
supplies with the event: a raw reading, a byte, which of several like timers ran out.
-/

namespace Sys2Proof

/-- The twelve filtered inputs (R177, table of section 10.1). -/
inductive Line where
  | hoodTrip
  | ovenDoor (oven : Fin 6)
  | dishDoor
  | conveyorOverload
  | feederReduce
  | rackEntry
  | rackExit
deriving DecidableEq, Repr

/-- One step as STORE PROGRAM carries it: 7 bytes (R188, R192). -/
structure WireStep where
  kind       : Byte
  setpoint   : Half
  duration   : Half
  coreTarget : Half
deriving DecidableEq, Repr

/-- The fourteen configuration fields of CONFIGURE LOOP, in the order of section 2.1.1 (R38, R192). -/
structure LoopFields where
  tcyc        : Half
  kc          : Word
  ti          : Word
  td          : Word
  b           : Byte
  c           : Byte
  n           : Byte
  a           : Half
  w           : Half
  satLow      : Half
  satHigh     : Half
  maxSetpoint : Half
  highLimit   : Half
  hysteresis  : Byte
deriving DecidableEq, Repr

/-- The seven configuration fields of CONFIGURE CABINET, in the order of section 5.1 (R81, R192). -/
structure CabinetFields where
  kind      : Byte
  capacity  : Half
  standbySp : Half
  serviceSp : Half
  readyTemp : Half
  warmTime  : Half
  lowMark   : Half
deriving DecidableEq, Repr

/-- The fields of CONFIGURE DISH, in the order of section 6.1, each zone as start then end (R100, R192). -/
structure DishFields where
  washSp        : Half
  washMin       : Half
  boosterSp     : Half
  rinseReady    : Half
  dose          : Half
  tunnelLength  : Half
  washStart     : Half
  washEnd       : Half
  rinseStart    : Half
  rinseEnd      : Half
  exitTolerance : Half
deriving DecidableEq, Repr

/-- The fields of CREATE (R128, R192); each list stands on the wire behind its count byte. -/
structure CreateFields where
  number   : Byte
  ballroom : Byte
  covers   : Half
  kind     : Byte
  cabinets : List Byte
  ovens    : List Byte
  due      : Word
  lead     : Half
deriving DecidableEq, Repr

/-- A command of the block: a request taken by its owning block, or an event of a link, a timer or a line. -/
inductive Instr where
  -- starts, and the control link's frames
  | powerOn
  | controlFrameComplete (kind tag : Byte) (payload : List Byte)
  | replySent
  -- chapter 1
  | readChannel (tag channel : Byte)
  | readChannels (tag first count : Byte)
  | configureChannel (tag channel : Byte) (gain offset : Half) (enable : Byte)
  -- chapter 2
  | readLoop (tag loop : Byte)
  | setLoopMode (tag loop mode : Byte)
  | setManualOutput (tag loop : Byte) (output ramp : Half)
  | setLoopSetpoint (tag loop : Byte) (setpoint : Half)
  | configureLoop (tag loop : Byte) (fields : LoopFields)
  -- chapter 3
  | configureHeater (tag heater : Byte) (rated : Half)
  | configureFeeder (tag : Byte) (limit reduced : Word) (starveTime : Half)
  | readHeater (tag heater : Byte)
  | readFeeder (tag : Byte)
  -- chapter 4
  | storeProgram (tag program stepCount : Byte) (hold band : Half) (steps : List WireStep)
  | readProgram (tag program : Byte)
  | startProgram (tag oven program : Byte)
  | foodLoaded (tag oven : Byte)
  | unload (tag oven : Byte)
  | abort (tag oven : Byte)
  | readOven (tag oven : Byte)
  -- chapter 5
  | configureCabinet (tag cabinet : Byte) (fields : CabinetFields)
  | setCabinetMode (tag cabinet mode : Byte)
  | stockAdd (tag kind : Byte) (count : Half)
  | writeOff (tag kind location : Byte) (count : Half)
  | load (tag cabinet : Byte) (count : Half)
  | issue (tag cabinet : Byte) (count : Half)
  | unloadPlates (tag cabinet : Byte) (count : Half)
  | returnPlates (tag kind : Byte) (count : Half)
  | readCabinet (tag cabinet : Byte)
  | readStock (tag kind : Byte)
  -- chapter 6
  | configureDish (tag : Byte) (fields : DishFields)
  | dishOn (tag : Byte)
  | run (tag : Byte)
  | stop (tag : Byte)
  | dishOff (tag : Byte)
  | declareRack (tag kind count : Byte)
  | takeRacks (tag maximum : Byte)
  | clearRingCount (tag : Byte)
  | readDish (tag : Byte)
  | readTunnel (tag : Byte)
  -- chapter 7
  | create (tag : Byte) (fields : CreateFields)
  | amend (tag slot number : Byte) (covers : Half) (due : Word) (lead : Half)
  | release (tag slot number : Byte)
  | close (tag slot number : Byte)
  | delete (tag slot number : Byte)
  | readWave (tag slot number : Byte)
  | readWaves (tag : Byte)
  -- chapter 8
  | acknowledge (tag slot count : Byte)
  | readCondition (tag slot : Byte)
  | readConditions (tag first count : Byte)
  | readPending (tag : Byte)
  -- chapter 9
  | setPager (tag entry : Byte) (address : Half) (groups duty : Byte)
  | clearPager (tag entry : Byte)
  | setGroup (tag group escalation limit : Byte) (timeout : Half)
  | setRoute (tag route enabled group priority code : Byte)
  | page (tag hostTag group priority code : Byte) (param : Half)
  | cancelPage (tag : Byte) (id : Half)
  | configureRadio (tag : Byte) (backoff : Half)
  | takeOutcomes (tag maximum : Byte)
  | readPages (tag : Byte)
  | readPager (tag entry : Byte)
  | readGroup (tag group : Byte)
  | readRoute (tag route : Byte)
  | readRadio (tag : Byte)
  -- chapters 10 and 11
  | clearTrip (tag : Byte)
  | readInterlocks (tag : Byte)
  | poll (tag : Byte)
  | restart (tag : Byte)
  -- events
  | scanVisit (raw : Half)
  | loopCycle (loop : Fin 16)
  | allocationRound
  | heaterBurstStep
  | ovenTimingTick (oven : Fin 6)
  | warmTick (cabinet : Fin 8)
  | temperatureCheck
  | washColdJudgement
  | encoderPulse
  | countdownTick (slot : Fin 12)
  | accepted (tag : Byte) (id : Half)
  | backoff (tag : Byte) (id : Half)
  | backoffEnd
  | silenceTimeout
  | statusTimer
  | statusReply (tag : Byte)
  | answerAccept (address id : Half)
  | answerDecline (address id : Half)
  | pageDeadline (id : Half)
  | rawLineChange (line : Line) (asserted : Bool)
  | filterTimerExpiry (line : Line)
  | controlLinkByte (late : Bool) (byte : Byte)
  | pagerLinkByte (late : Bool) (byte : Byte)
  | attentionSent
  | uptimeSecond
deriving DecidableEq, Repr

end Sys2Proof
end

