-- ==== Sys2Proof/Machine/State.lean ====
section
/-!
DEFINITION. The state of the BX216: every table, record, list, counter, flag and line the manual gives it, as plain
data, with the power-on values of each, and the queue of commands that are waiting.
-/

namespace Sys2Proof.Machine

/-! ## Chapter 1: the measurement table -/

/-- Status of a measurement-table entry (section 1.3). -/
inductive ChStatus where
  | unscanned | ok | openFault | shortFault | disabled
deriving DecidableEq, Repr

/-- The kind of one sample (R2). -/
inductive SampleKind where
  | good | openBad | shortBad
deriving DecidableEq, Repr

/-- One measurement-table entry (section 1.3). `runKind` is `none` for the run kind "none". -/
structure Entry where
  value   : Int := 0
  status  : ChStatus := .unscanned
  seq     : Byte := 0
  fresh   : Bool := false
  gain    : Nat := 4500
  offset  : Int := -500
  enabled : Bool := true
  runKind : Option SampleKind := none
  runLen  : Nat := 0
deriving DecidableEq, Repr

/-- The probe scanner: the measurement table, the channel of the next visit (R1), and the channel-select output to the
converter (section 1.1.1, step 1; its power-on value is a DESIGN CHOICE, log entry 14). -/
structure Scanner where
  entries : Table Entry 23 := Table.ofFn fun _ => ({} : Entry)
  next    : Fin 23 := 0
  select  : Fin 23 := 0
deriving DecidableEq, Repr

/-! ## Chapter 2: loop records -/

/-- The base mode of a loop (section 2.1.2). -/
inductive BaseMode where
  | off | auto | manual
deriving DecidableEq, Repr

/-- The reported mode of a loop (R17). -/
inductive LoopMode where
  | off | auto | manual | fault | inhibited
deriving DecidableEq, Repr

/-- The configuration of a loop (section 2.1.1), in the units of that table. -/
structure LoopConfig where
  tcyc        : Nat := 20
  kc          : Nat := 100
  ti          : Nat := 0
  td          : Nat := 0
  b           : Nat := 255
  c           : Nat := 0
  n           : Nat := 1
  a           : Nat := 0
  w           : Nat := 16384
  satLow      : Nat := 0
  satHigh     : Nat := 1000
  maxSetpoint : Nat
  highLimit   : Nat
  hysteresis  : Nat := 50
deriving DecidableEq, Repr

/-- A loop record (section 2.1). The reported mode is derived (R17) and not stored. `demand` is also the demand of the
heater's entry: R30 writes it there "at once", so the two are one figure, stored once. `timer` is the period the
running cycle timer was last started with (R18; log entry 7). -/
structure Loop where
  cfg        : LoopConfig
  base       : BaseMode := .off
  inhibit    : Bool := false
  chFault    : Bool := false
  sp         : Int := 0
  spf        : Int := 0
  manOut     : Nat := 0
  ramp       : Int := 0
  integ      : Int := 0
  deriv      : Int := 0
  yPrev      : Int := 0
  uLast      : Int := 0
  demand     : Nat := 0
  grant      : Nat := 0
  grantRound : Word := 0
  usedRound  : Word := 0
  latch      : Bool := false
  timer      : Nat := 20
deriving DecidableEq, Repr

/-- Power-on maximum setpoint and high limit by loop (section 2.1.1, second table). -/
def LoopConfig.powerOn (n : Fin 16) : LoopConfig :=
  if n.val < 6 then { maxSetpoint := 3000, highLimit := 3200 }
  else if n.val < 14 then { maxSetpoint := 1000, highLimit := 1100 }
  else if n.val = 14 then { maxSetpoint := 800, highLimit := 900 }
  else { maxSetpoint := 950, highLimit := 990 }

/-! ## Chapter 3: the heater table and the budget state -/

/-- The power class of a heater (section 3.1). -/
inductive HeaterClass where
  | sanitise | service | standby
deriving DecidableEq, Repr

/-- A heater-table entry (section 3.1) but for the demand, which the loop record holds. `assigned` is the watts `g_h`
the last round assigned (R50), which the granted total sums and a rating change takes out of it (R43; log entry 26).
`output` is the allocator's burst output, before the heater drive enable (R53, section 10.5). -/
structure Heater where
  rated      : Nat := 0
  cls        : HeaterClass := .standby
  grant      : Nat := 0
  grantRound : Word := 0
  assigned   : Nat := 0
  delivered  : Nat := 0
  starve     : Nat := 0
  starved    : Bool := false
  locked     : Bool := false
  output     : Bool := false
deriving DecidableEq, Repr

/-- The feeder allocator: the heater table, the budget state (section 3.1), the REDUCED_ACK output (R47), and the number
of the next 2 ms step of the window, 1000 when the window has no step left (R53). -/
structure Feeder where
  heaters        : Table Heater 16 :=
    Table.ofFn fun n => { cls := if n.val < 14 then .standby else .sanitise }
  limit          : Nat := 0
  reduced        : Nat := 0
  starveTime     : Nat := 300
  requested      : Nat := 0
  applied        : Nat := 0
  pending        : Bool := false
  round          : Word := 0
  grantedTotal   : Nat := 0
  deliveredTotal : Nat := 0
  reducedAck     : Bool := false
  nextStep       : Nat := 0
deriving DecidableEq, Repr

/-! ## Chapter 4: programs and ovens -/

/-- One step of a stored program (section 4.1): the core target is present in CORE steps alone. -/
inductive Step where
  | timed (setpoint duration : Nat)
  | core (setpoint duration target : Nat)
deriving DecidableEq, Repr

/-- A program record (section 4.1). -/
structure Program where
  steps : List Step := []
  hold  : Nat := 0
  band  : Nat := 100
deriving DecidableEq, Repr

inductive OvenState where
  | idle | preheating | loadWait | cooking | holding | finished
deriving DecidableEq, Repr

inductive StepEnd where
  | none | timed | coreTarget | coreLimit | coreFallback
deriving DecidableEq, Repr

inductive OvenOutcome where
  | none | done | aborted | tripped
deriving DecidableEq, Repr

/-- An oven record (section 4.2). -/
structure Oven where
  state    : OvenState := .idle
  program  : Fin 16 := 0
  step     : Nat := 0
  elapsed  : Nat := 0
  stepEnd  : StepEnd := .none
  doorOpen : Bool := false
  start    : Word := 0
  outcome  : OvenOutcome := .none
deriving DecidableEq, Repr

/-! ## Chapter 5: cabinets and plate stock -/

inductive CabinetMode where
  | off | standby | service
deriving DecidableEq, Repr

/-- A batch of plates in a cabinet (R84). -/
structure Batch where
  count : Nat
  load  : Word
  dwell : Nat
deriving DecidableEq, Repr

/-- A cabinet record (section 5.1); the batch list is oldest first. -/
structure Cabinet where
  kind      : Fin 4 := 0
  capacity  : Nat := 120
  standbySp : Nat := 500
  serviceSp : Nat := 800
  readyTemp : Nat := 650
  warmTime  : Nat := 1200
  lowMark   : Nat := 20
  mode      : CabinetMode := .off
  waveSlot  : Option (Fin 12) := none
  waveSet   : Bool := false
  batches   : List Batch := []
deriving DecidableEq, Repr

/-- The plate stock counts of one kind (section 5.4). -/
structure Stock where
  total  : Nat := 0
  soiled : Nat := 0
  tunnel : Nat := 0
  clean  : Nat := 0
  issued : Nat := 0
deriving DecidableEq, Repr

/-! ## Chapter 6: the dish tunnel -/

inductive DishState where
  | off | warming | ready | running | held
deriving DecidableEq, Repr

/-- The set of hold reasons (section 6.1). -/
structure HoldReasons where
  door     : Bool := false
  overload : Bool := false
  lost     : Bool := false
  trip     : Bool := false
deriving DecidableEq, Repr

inductive RackOutcome where
  | passed | failedDose | failedWash | lost | unverified
deriving DecidableEq, Repr

/-- A rack record (section 6.3); `kind` is `none` for NONE. -/
structure Rack where
  number   : Half
  kind     : Option (Fin 4)
  count    : Nat
  entry    : Word
  interval : Option Word
  position : Nat := 0
  washMin  : Option Int := none
  dose     : Nat := 0
  outcome  : Option RackOutcome := none
  removal  : Option Word := none
deriving DecidableEq, Repr

/-- A rack declaration (R112). -/
structure Declaration where
  kind  : Fin 4
  count : Nat
deriving DecidableEq, Repr

/-- The tunnel's configuration (section 6.1, first table); the rack length is fixed at 500 mm. -/
structure DishConfig where
  washSp        : Nat := 650
  washMin       : Nat := 600
  boosterSp     : Nat := 850
  rinseReady    : Nat := 820
  dose          : Nat := 1100
  tunnelLength  : Nat := 3000
  washStart     : Nat := 600
  washEnd       : Nat := 1800
  rinseStart    : Nat := 2200
  rinseEnd      : Nat := 2600
  exitTolerance : Nat := 150
deriving DecidableEq, Repr

/-- The dish record with its lists (sections 6.1 and 6.3), each oldest first. -/
structure Dish where
  cfg         : DishConfig := {}
  state       : DishState := .off
  reasons     : HoldReasons := {}
  tankWarm    : Bool := false
  boosterHot  : Bool := false
  coldTimer   : Nat := 0
  washCold    : Bool := false
  rinseFail   : Bool := false
  conveyor    : Bool := false
  gateOpen    : Bool := false
  valveOpen   : Bool := false
  rackCounter : Half := 0
  lastEntry   : Option Word := none
  declared    : List Declaration := []
  queue       : List Rack := []
  ring        : List Rack := []
  overwrites  : Nat := 0
deriving DecidableEq, Repr

/-! ## Chapter 7: waves -/

/-- The state of a slot that holds a wave; an EMPTY slot is `none` in the table (section 7.1). -/
inductive WaveState where
  | planned | preparing | ready | late | serving | closed
deriving DecidableEq, Repr

/-- A wave record (section 7.1). -/
structure Wave where
  state     : WaveState := .planned
  number    : Byte
  ballroom  : Nat
  covers    : Nat
  kind      : Fin 4
  cabinets  : List (Fin 8)
  ovens     : List (Fin 6)
  due       : Nat
  lead      : Nat
  issued    : Nat := 0
  readyLate : Bool := false
  short     : Bool := false
  late      : Bool := false
deriving DecidableEq, Repr

/-! ## Chapter 8: condition slots -/

inductive CondState where
  | normal | active | acked | returned
deriving DecidableEq, Repr

/-- A condition slot (section 8.1). -/
structure Slot where
  state : CondState := .normal
  count : Byte := 0
  first : Word := 0
  last  : Word := 0
  param : Half := 0
deriving DecidableEq, Repr

/-! ## Chapter 9: paging -/

/-- A pager directory entry (section 9.1.1); radio address 0 means the entry is unused; bit `g` of `groups` is group
`g`. -/
structure PagerEntry where
  address     : Nat := 0
  groups      : Byte := 0
  duty        : Bool := false
  outstanding : Nat := 0
deriving DecidableEq, Repr

/-- A group entry (section 9.1.2). -/
structure Group where
  escalation : Option (Fin 8) := none
  limit      : Nat := 3
  timeout    : Nat := 60
  pointer    : Fin 64 := 63
deriving DecidableEq, Repr

/-- A route entry (section 9.1.3). -/
structure Route where
  enabled  : Bool := false
  group    : Fin 8 := 0
  priority : Fin 4 := 3
  code     : Byte := 0
deriving DecidableEq, Repr

inductive PageState where
  | queued | onAir | awaiting
deriving DecidableEq, Repr

/-- A page record (section 9.2). `latch` is the latch of the page's source: "A latch is set only while its source has
a page in the queue" (R159), so the page is its home (log entry 22). -/
structure Page where
  id          : Half
  source      : Source
  group       : Fin 8
  current     : Fin 8
  priority    : Fin 4
  code        : Byte
  param       : Half
  state       : PageState := .queued
  attempts    : Nat := 0
  tried       : List (Fin 64) := []
  target      : Option (Fin 64) := none
  broadcast   : Bool := false
  escalated   : Bool := false
  deadline    : Option Word := none
  declineMark : Bool := false
  cancelMark  : Bool := false
  latch       : Option Half := none
deriving DecidableEq, Repr

inductive PageOutcome where
  | acked | declinedOut | expired | cancelled | dropped | lateAnswer
deriving DecidableEq, Repr

/-- An outcome record (R173). -/
structure OutcomeRecord where
  id      : Half
  source  : Source
  outcome : PageOutcome
  pager   : Option (Fin 64)
  uptime  : Word
deriving DecidableEq, Repr

/-- The radio port (R164); SENDING holds the page id, the tag sent and whether the TRANSMIT has been repeated. -/
inductive Port where
  | idle
  | sending (id : Half) (tag : Byte) (repeated : Bool)
  | waiting
  | down
deriving DecidableEq, Repr

/-! ## Chapter 11: the links -/

/-- A frame on either link, without its sync byte, length and CRC (R185). -/
structure Frame where
  kind    : Byte
  tag     : Byte
  payload : List Byte
deriving DecidableEq, Repr

/-- The receiver of either link (R186), with the bytes of the frame in progress. -/
inductive Receiver where
  | hunt
  | length
  | header (len : Byte) (kind : Option Byte)
  | body (len kind tag : Byte) (got : List Byte)
  | check (len kind tag : Byte) (payload : List Byte) (high : Option Byte)
deriving DecidableEq, Repr

/-- Reply statuses (R188). -/
inductive Status where
  | ok | okTaken | unknown | length | range | state | busy | conflict | empty | faultPending | tripped | stale | full
deriving DecidableEq, Repr

/-- A reply that has been built and whose last byte has not yet been sent. `pieces` are the fields after the
continuation byte, cut where R188 lets a long reply be cut. `buffered` says that the request holds a receive buffer. -/
structure Reply where
  kind     : Byte
  tag      : Byte
  status   : Status
  pieces   : List (List Byte)
  buffered : Bool
deriving DecidableEq, Repr

/-- A receive buffer that holds a frame; `taken` once the frame has been taken as a request (R187). -/
structure Buffer where
  frame : Frame
  taken : Bool
deriving DecidableEq, Repr

/-- What the control link's transmitter is sending (R185): the oldest reply built, or an ATTENTION with its payload. -/
inductive Transmitter where
  | idle
  | reply
  | attention (marks : Nat)
deriving DecidableEq, Repr

/-- The classes of the change set, in the order of their codes (R189). -/
inductive MarkClass where
  | channel | loop | heater | oven | program | cabinet | stock | dish | ring | wave | condition | outcomes
deriving DecidableEq, Repr

/-- A mark of the change set (R189). -/
structure Mark where
  cls   : MarkClass
  index : Nat
deriving DecidableEq, Repr

/-- The control link (sections 11.1 to 11.3). `replies` are oldest first, the first of them on the air while `tx` is
`reply`; `attentions` are the payloads of the ATTENTION frames built and waiting for the transmitter. -/
structure Link where
  rx         : Receiver := .hunt
  buffers    : List Buffer := []
  replies    : List Reply := []
  tx         : Transmitter := .idle
  attentions : List Nat := []
  changeSet  : List Mark := []
  attention  : Bool := false
deriving DecidableEq, Repr

/-- The pager controller (chapter 9) with the receiver of the pager base link (R195). `lastSent` is the frame last
handed to that link's transmitter (log entry 17). -/
structure Pager where
  directory   : Table PagerEntry 64 := Table.ofFn fun _ => ({} : PagerEntry)
  groups      : Table Group 8 := Table.ofFn fun _ => ({} : Group)
  routes      : Table Route 16 := Table.ofFn fun _ => ({} : Route)
  queue       : List Page := []
  outcomes    : List OutcomeRecord := []
  port        : Port := .idle
  backoff     : Nat := 1000
  pageCounter : Half := 0
  tagCounter  : Byte := 0
  rx          : Receiver := .hunt
  lastSent    : Option Frame := none
deriving DecidableEq, Repr

/-- The three blocks to which every other block reports: the condition table, the pager controller, the control
link. -/
structure Desk where
  conds : Table Slot 87 := Table.ofFn fun _ => ({} : Slot)
  pager : Pager := {}
  link  : Link := {}
deriving DecidableEq, Repr

/-! ## Chapter 10: lines and the trip state -/

/-- One filtered input (R177): the raw level found on the line, the filtered state, and whether the 20 ms stability
timer is running. -/
structure LineState where
  raw      : Bool := false
  filtered : Bool := false
  timing   : Bool := true
deriving DecidableEq, Repr

/-- The interlock unit (chapter 10). -/
structure Interlock where
  lines       : Table LineState 12 := Table.ofFn fun _ => ({} : LineState)
  trip        : Bool := false
  driveEnable : Bool := true
  travel      : Word := 0
deriving DecidableEq, Repr

/-! ## The part -/

/-- The whole part: what its eleven blocks own (00_scope.md, section 3), the uptime counter, and the model's own
`justClosed`: the slot of the wave that an issue notice closed in the command before, none after any other command. A
CLOSE of that wave taken next has arrived together with the notice (R139; log entry 41). -/
structure Part where
  uptime    : Word := 0
  scan      : Scanner := {}
  loops     : Table Loop 16 := Table.ofFn fun n => { cfg := LoopConfig.powerOn n }
  feeder    : Feeder := {}
  programs  : Table Program 16 := Table.ofFn fun _ => ({} : Program)
  ovens     : Table Oven 6 := Table.ofFn fun _ => ({} : Oven)
  cabinets  : Table Cabinet 8 := Table.ofFn fun _ => ({} : Cabinet)
  stock     : Table Stock 4 := Table.ofFn fun _ => ({} : Stock)
  dish      : Dish := {}
  waves     : Table (Option Wave) 12 := Table.ofFn fun _ => none
  interlock : Interlock := {}
  desk      : Desk := {}
  justClosed : Option (Fin 12) := none
deriving DecidableEq, Repr

/-- The machine: the part, and the commands that are waiting, first in first out. -/
structure State where
  part    : Part
  pending : List Instr
deriving DecidableEq, Repr

/-- Reasons to stop with a fault: none. The manual gives every command an effect or a reply in every state, so no
meaning faults. -/
inductive Fault where
deriving DecidableEq, Repr

/-- Reasons to refuse a command. -/
inductive Refusal where
  /-- Raised by `exec` alone, for a row of the table that has no meaning yet; safe. No arm of this model raises it. -/
  | notModelled (mnemonic : String)
deriving DecidableEq, Repr

/-- The machine right after power-on (R15, R41, R60, R79, R98, R125, R143, R155, R175, R177, R183, R185, R195): every
field at its power-on value, the raw lines at the deasserted level (log entry 14), no command waiting. -/
def State.reset : State := { part := {}, pending := [] }

end Sys2Proof.Machine
end

