-- ==== Sys2Proof/Machine/Flags.lean ====
section
/-!
DEFINITION. The marks of the change set with the attention state (R189, R190), the numbers and kinds of the condition
slots, and what a raise and a return do to a slot (R145 to R147).
-/

namespace Sys2Proof.Machine

/-! ## The change set and attention -/

/-- Attention is judged: where the set is not empty and attention is clear, one ATTENTION is built, whose payload is the
number of marks held, and attention becomes outstanding (R190). -/
def Link.judgeAttention (k : Link) : Link :=
  if k.attention || k.changeSet.isEmpty then k
  else { k with attention := true, attentions := k.attentions ++ [k.changeSet.length] }

/-- A mark: a pair that is not held joins at the newest end and attention is judged, one that is held keeps its place
(R189). -/
def Link.mark (c : MarkClass) (i : Nat) (k : Link) : Link :=
  if Mark.mk c i ∈ k.changeSet then k
  else ({ k with changeSet := k.changeSet ++ [Mark.mk c i] }).judgeAttention

/-- The class codes of R189. -/
def MarkClass.code : MarkClass → Byte
  | .channel => 1
  | .loop => 2
  | .heater => 3
  | .oven => 4
  | .program => 5
  | .cabinet => 6
  | .stock => 7
  | .dish => 8
  | .ring => 9
  | .wave => 10
  | .condition => 11
  | .outcomes => 12

/-! ## Slot numbers (section 8.1) -/

def probeSlot (channel : Fin 23) : Fin 87 := ⟨channel.val, by omega⟩

def overtempSlot (loop : Fin 16) : Fin 87 := ⟨23 + loop.val, by omega⟩

def starvedSlot (heater : Fin 16) : Fin 87 := ⟨39 + heater.val, by omega⟩

def washColdSlot : Fin 87 := 55

def rinseFailSlot : Fin 87 := 56

def rackLostSlot : Fin 87 := 57

def exitUnmatchedSlot : Fin 87 := 58

def platesShortSlot (wave : Fin 12) : Fin 87 := ⟨59 + wave.val, by omega⟩

def waveLateSlot (wave : Fin 12) : Fin 87 := ⟨71 + wave.val, by omega⟩

def unansweredSlot : Fin 87 := 83

def radioDownSlot : Fin 87 := 84

def hoodTripSlot : Fin 87 := 85

def overloadSlot : Fin 87 := 86

/-- The kind of a slot: the number of its row in the table of section 8.1, which is also its route's number (section
9.1.3). -/
def slotKind (slot : Fin 87) : Fin 16 :=
  if slot.val ≤ 22 then 0
  else if slot.val ≤ 38 then 1
  else if slot.val ≤ 54 then 2
  else if slot.val = 55 then 3
  else if slot.val = 56 then 4
  else if slot.val = 57 then 5
  else if slot.val = 58 then 6
  else if slot.val ≤ 70 then 7
  else if slot.val ≤ 82 then 8
  else if slot.val = 83 then 9
  else if slot.val = 84 then 10
  else if slot.val = 85 then 11
  else 12

/-- RINSE_FAIL, RACK_LOST, EXIT_UNMATCHED and PAGE_UNANSWERED are event kinds (R147). -/
def isEventKind (slot : Fin 87) : Bool :=
  decide (slot = rinseFailSlot) || decide (slot = rackLostSlot) || decide (slot = exitUnmatchedSlot) ||
    decide (slot = unansweredSlot)

/-! ## Raise and return -/

/-- A slot is pending while it stands in ACTIVE or RETURNED (R152). -/
def Slot.pending (c : Slot) : Bool :=
  match c.state with
  | .active | .returned => true
  | .normal | .acked => false

/-- A raise (R145). -/
def Slot.raise (now : Word) (param : Half) (c : Slot) : Slot :=
  match c.state with
  | .normal => { state := .active, count := c.count + 1, first := now, last := now, param := param }
  | .returned => { c with state := .active, count := c.count + 1, last := now, param := param }
  | .active | .acked => { c with last := now, param := param }

/-- A raise is an occurrence where it takes the slot from NORMAL or RETURNED to ACTIVE (R145). -/
def Slot.occurs (c : Slot) : Bool :=
  match c.state with
  | .normal | .returned => true
  | .active | .acked => false

/-- A return (R146). -/
def Slot.ret (c : Slot) : Slot :=
  match c.state with
  | .active => { c with state := .returned }
  | .acked => { c with state := .normal }
  | .normal | .returned => c

/-- What an acknowledgement that is taken makes of a slot (R149). -/
def Slot.acknowledged (c : Slot) : Slot :=
  match c.state with
  | .active => { c with state := .acked }
  | .returned => { c with state := .normal }
  | .normal | .acked => c

end Sys2Proof.Machine
end

