-- ==== Sys2Proof/Decode.lean ====
section
/-!
DEFINITION. Decoding and encoding of requests on the control link: the catalogue of R192 over the field sizes of R194,
total on any bytes. A kind outside the catalogue is UNKNOWN, a payload of the wrong length is LENGTH (R188, checks 1
and 2). The rows of spec/opcode_table.json give no bits, so no table word spells a command.
-/

namespace Sys2Proof

/-! ## Field sizes (R194): most significant byte first -/

def half (b1 b0 : Byte) : Half := b1 ++ b0

def word (b3 b2 b1 b0 : Byte) : Word := half b3 b2 ++ half b1 b0

def bytes16 (x : Half) : List Byte := [x.extractLsb' 8 8, x.extractLsb' 0 8]

def bytes32 (x : Word) : List Byte :=
  [x.extractLsb' 24 8, x.extractLsb' 16 8, x.extractLsb' 8 8, x.extractLsb' 0 8]

/-! ## Requests with a record of fields or a list -/

/-- CONFIGURE LOOP: the loop, then the fourteen fields of section 2.1.1 in table order. The limit hysteresis is taken as
one byte, by its range of 0 to 200, and not as a temperature of two: the model's choice (log entry 37). -/
def parseLoop (tag : Byte) : List Byte → Option Instr
  | [l, t1, t0, k3, k2, k1, k0, i3, i2, i1, i0, d3, d2, d1, d0, b, c, n, a1, a0, w1, w0, s1, s0, h1, h0, m1, m0, g1, g0,
      y] =>
    some (.configureLoop tag l
      { tcyc := half t1 t0, kc := word k3 k2 k1 k0, ti := word i3 i2 i1 i0, td := word d3 d2 d1 d0, b, c, n,
        a := half a1 a0, w := half w1 w0, satLow := half s1 s0, satHigh := half h1 h0, maxSetpoint := half m1 m0,
        highLimit := half g1 g0, hysteresis := y })
  | _ => none

def loopBytes (f : LoopFields) : List Byte :=
  bytes16 f.tcyc ++ bytes32 f.kc ++ bytes32 f.ti ++ bytes32 f.td ++ [f.b, f.c, f.n] ++ bytes16 f.a ++ bytes16 f.w ++
    bytes16 f.satLow ++ bytes16 f.satHigh ++ bytes16 f.maxSetpoint ++ bytes16 f.highLimit ++ [f.hysteresis]

/-- The steps of STORE PROGRAM: a whole number of 7-byte steps (R188). -/
def parseSteps : List Byte → Option (List WireStep)
  | [] => some []
  | k :: s1 :: s0 :: d1 :: d0 :: t1 :: t0 :: rest =>
    match parseSteps rest with
    | some steps => some (⟨k, half s1 s0, half d1 d0, half t1 t0⟩ :: steps)
    | none => none
  | _ => none

def stepBytes (s : WireStep) : List Byte :=
  s.kind :: (bytes16 s.setpoint ++ bytes16 s.duration ++ bytes16 s.coreTarget)

/-- STORE PROGRAM: 6 bytes plus a whole number of steps; the step count is not judged here (R188). -/
def parseProgram (tag : Byte) : List Byte → Option Instr
  | p :: k :: h1 :: h0 :: b1 :: b0 :: rest =>
    match parseSteps rest with
    | some steps => some (.storeProgram tag p k (half h1 h0) (half b1 b0) steps)
    | none => none
  | _ => none

/-- CONFIGURE CABINET: the cabinet, then the seven fields of section 5.1 in table order. -/
def parseCabinet (tag : Byte) : List Byte → Option Instr
  | [c, k, p1, p0, y1, y0, s1, s0, r1, r0, w1, w0, l1, l0] =>
    some (.configureCabinet tag c
      { kind := k, capacity := half p1 p0, standbySp := half y1 y0, serviceSp := half s1 s0, readyTemp := half r1 r0,
        warmTime := half w1 w0, lowMark := half l1 l0 })
  | _ => none

def cabinetBytes (f : CabinetFields) : List Byte :=
  f.kind :: (bytes16 f.capacity ++ bytes16 f.standbySp ++ bytes16 f.serviceSp ++ bytes16 f.readyTemp ++
    bytes16 f.warmTime ++ bytes16 f.lowMark)

/-- CONFIGURE DISH: the fields of section 6.1 in table order, each zone as start then end. -/
def parseDish (tag : Byte) : List Byte → Option Instr
  | [a1, a0, b1, b0, c1, c0, d1, d0, e1, e0, f1, f0, g1, g0, h1, h0, i1, i0, j1, j0, k1, k0] =>
    some (.configureDish tag
      { washSp := half a1 a0, washMin := half b1 b0, boosterSp := half c1 c0, rinseReady := half d1 d0,
        dose := half e1 e0, tunnelLength := half f1 f0, washStart := half g1 g0, washEnd := half h1 h0,
        rinseStart := half i1 i0, rinseEnd := half j1 j0, exitTolerance := half k1 k0 })
  | _ => none

def dishBytes (f : DishFields) : List Byte :=
  bytes16 f.washSp ++ bytes16 f.washMin ++ bytes16 f.boosterSp ++ bytes16 f.rinseReady ++ bytes16 f.dose ++
    bytes16 f.tunnelLength ++ bytes16 f.washStart ++ bytes16 f.washEnd ++ bytes16 f.rinseStart ++ bytes16 f.rinseEnd ++
    bytes16 f.exitTolerance

/-- The first `n` bytes and the rest, where there are that many. -/
def splitExactly : Nat → List Byte → Option (List Byte × List Byte)
  | 0, rest => some ([], rest)
  | _ + 1, [] => none
  | n + 1, b :: rest =>
    match splitExactly n rest with
    | some (taken, left) => some (b :: taken, left)
    | none => none

/-- CREATE: 13 bytes plus the cabinets and ovens that its two count bytes announce (R188). -/
def parseCreate (tag : Byte) : List Byte → Option Instr
  | w :: r :: v1 :: v0 :: k :: cabinetCount :: afterCount =>
    match splitExactly cabinetCount.toNat afterCount with
    | some (cabinets, ovenCount :: afterOvenCount) =>
      match splitExactly ovenCount.toNat afterOvenCount with
      | some (ovens, [d3, d2, d1, d0, l1, l0]) =>
        some (.create tag ⟨w, r, half v1 v0, k, cabinets, ovens, word d3 d2 d1 d0, half l1 l0⟩)
      | _ => none
    | _ => none
  | _ => none

def createBytes (f : CreateFields) : List Byte :=
  [f.number, f.ballroom] ++ bytes16 f.covers ++ [f.kind, BitVec.ofNat 8 f.cabinets.length] ++ f.cabinets ++
    [BitVec.ofNat 8 f.ovens.length] ++ f.ovens ++ bytes32 f.due ++ bytes16 f.lead

/-! ## The catalogue (R192) -/

/-- The catalogue's requests of chapter 1 (R192). -/
def catalogueChannel : List (Nat × (Byte → List Byte → Option Instr)) := [
  (0x10, fun tag p => match p with | [channel] => some (.readChannel tag channel) | _ => none),
  (0x11, fun tag p => match p with | [first, count] => some (.readChannels tag first count) | _ => none),
  (0x12, fun tag p => match p with
    | [channel, gain1, gain0, offset1, offset0, enable] =>
      some (.configureChannel tag channel (half gain1 gain0) (half offset1 offset0) enable)
    | _ => none)]

/-- The catalogue's requests of chapter 2 (R192). -/
def catalogueLoop : List (Nat × (Byte → List Byte → Option Instr)) := [
  (0x20, fun tag p => match p with | [loop] => some (.readLoop tag loop) | _ => none),
  (0x21, fun tag p => match p with | [loop, mode] => some (.setLoopMode tag loop mode) | _ => none),
  (0x22, fun tag p => match p with
    | [loop, output1, output0, ramp1, ramp0] =>
      some (.setManualOutput tag loop (half output1 output0) (half ramp1 ramp0))
    | _ => none),
  (0x23, fun tag p => match p with
    | [loop, setpoint1, setpoint0] =>
      some (.setLoopSetpoint tag loop (half setpoint1 setpoint0))
    | _ => none),
  (0x24, parseLoop)]

/-- The catalogue's requests of chapter 3 (R192). -/
def catalogueFeeder : List (Nat × (Byte → List Byte → Option Instr)) := [
  (0x30, fun tag p => match p with
    | [heater, rated1, rated0] =>
      some (.configureHeater tag heater (half rated1 rated0))
    | _ => none),
  (0x31, fun tag p => match p with
    | [limit3, limit2, limit1, limit0, reduced3, reduced2, reduced1, reduced0, starveTime1, starveTime0] =>
      some (.configureFeeder tag (word limit3 limit2 limit1 limit0) (word reduced3 reduced2 reduced1 reduced0) (half starveTime1 starveTime0))
    | _ => none),
  (0x32, fun tag p => match p with | [heater] => some (.readHeater tag heater) | _ => none),
  (0x33, fun tag p => match p with | [] => some (.readFeeder tag) | _ => none)]

/-- The catalogue's requests of chapter 4 (R192). -/
def catalogueOven : List (Nat × (Byte → List Byte → Option Instr)) := [
  (0x40, parseProgram),
  (0x41, fun tag p => match p with | [program] => some (.readProgram tag program) | _ => none),
  (0x42, fun tag p => match p with | [oven, program] => some (.startProgram tag oven program) | _ => none),
  (0x43, fun tag p => match p with | [oven] => some (.foodLoaded tag oven) | _ => none),
  (0x44, fun tag p => match p with | [oven] => some (.unload tag oven) | _ => none),
  (0x45, fun tag p => match p with | [oven] => some (.abort tag oven) | _ => none),
  (0x46, fun tag p => match p with | [oven] => some (.readOven tag oven) | _ => none)]

/-- The catalogue's requests of chapter 5 (R192). -/
def catalogueWarmer : List (Nat × (Byte → List Byte → Option Instr)) := [
  (0x50, parseCabinet),
  (0x51, fun tag p => match p with | [cabinet, mode] => some (.setCabinetMode tag cabinet mode) | _ => none),
  (0x52, fun tag p => match p with
    | [kind, count1, count0] =>
      some (.stockAdd tag kind (half count1 count0))
    | _ => none),
  (0x53, fun tag p => match p with
    | [kind, location, count1, count0] =>
      some (.writeOff tag kind location (half count1 count0))
    | _ => none),
  (0x54, fun tag p => match p with
    | [cabinet, count1, count0] =>
      some (.load tag cabinet (half count1 count0))
    | _ => none),
  (0x55, fun tag p => match p with
    | [cabinet, count1, count0] =>
      some (.issue tag cabinet (half count1 count0))
    | _ => none),
  (0x56, fun tag p => match p with
    | [cabinet, count1, count0] =>
      some (.unloadPlates tag cabinet (half count1 count0))
    | _ => none),
  (0x57, fun tag p => match p with
    | [kind, count1, count0] =>
      some (.returnPlates tag kind (half count1 count0))
    | _ => none),
  (0x58, fun tag p => match p with | [cabinet] => some (.readCabinet tag cabinet) | _ => none),
  (0x59, fun tag p => match p with | [kind] => some (.readStock tag kind) | _ => none)]

/-- The catalogue's requests of chapter 6 (R192). -/
def catalogueDish : List (Nat × (Byte → List Byte → Option Instr)) := [
  (0x60, parseDish),
  (0x61, fun tag p => match p with | [] => some (.dishOn tag) | _ => none),
  (0x62, fun tag p => match p with | [] => some (.run tag) | _ => none),
  (0x63, fun tag p => match p with | [] => some (.stop tag) | _ => none),
  (0x64, fun tag p => match p with | [] => some (.dishOff tag) | _ => none),
  (0x65, fun tag p => match p with | [kind, count] => some (.declareRack tag kind count) | _ => none),
  (0x66, fun tag p => match p with | [maximum] => some (.takeRacks tag maximum) | _ => none),
  (0x67, fun tag p => match p with | [] => some (.clearRingCount tag) | _ => none),
  (0x68, fun tag p => match p with | [] => some (.readDish tag) | _ => none),
  (0x69, fun tag p => match p with | [] => some (.readTunnel tag) | _ => none)]

/-- The catalogue's requests of chapter 7 (R192). -/
def catalogueWave : List (Nat × (Byte → List Byte → Option Instr)) := [
  (0x70, parseCreate),
  (0x71, fun tag p => match p with
    | [slot, number, covers1, covers0, due3, due2, due1, due0, lead1, lead0] =>
      some (.amend tag slot number (half covers1 covers0) (word due3 due2 due1 due0) (half lead1 lead0))
    | _ => none),
  (0x72, fun tag p => match p with | [slot, number] => some (.release tag slot number) | _ => none),
  (0x73, fun tag p => match p with | [slot, number] => some (.close tag slot number) | _ => none),
  (0x74, fun tag p => match p with | [slot, number] => some (.delete tag slot number) | _ => none),
  (0x75, fun tag p => match p with | [slot, number] => some (.readWave tag slot number) | _ => none),
  (0x76, fun tag p => match p with | [] => some (.readWaves tag) | _ => none)]

/-- The catalogue's requests of chapter 8 (R192). -/
def catalogueCondition : List (Nat × (Byte → List Byte → Option Instr)) := [
  (0x80, fun tag p => match p with | [slot, count] => some (.acknowledge tag slot count) | _ => none),
  (0x81, fun tag p => match p with | [slot] => some (.readCondition tag slot) | _ => none),
  (0x82, fun tag p => match p with | [first, count] => some (.readConditions tag first count) | _ => none),
  (0x83, fun tag p => match p with | [] => some (.readPending tag) | _ => none)]

/-- The catalogue's requests of chapter 9 (R192). -/
def cataloguePager : List (Nat × (Byte → List Byte → Option Instr)) := [
  (0x90, fun tag p => match p with
    | [entry, address1, address0, groups, duty] =>
      some (.setPager tag entry (half address1 address0) groups duty)
    | _ => none),
  (0x91, fun tag p => match p with | [entry] => some (.clearPager tag entry) | _ => none),
  (0x92, fun tag p => match p with
    | [group, escalation, limit, timeout1, timeout0] =>
      some (.setGroup tag group escalation limit (half timeout1 timeout0))
    | _ => none),
  (0x93, fun tag p => match p with
    | [route, enabled, group, priority, code] =>
      some (.setRoute tag route enabled group priority code)
    | _ => none),
  (0x94, fun tag p => match p with
    | [hostTag, group, priority, code, param1, param0] =>
      some (.page tag hostTag group priority code (half param1 param0))
    | _ => none),
  (0x95, fun tag p => match p with | [id1, id0] => some (.cancelPage tag (half id1 id0)) | _ => none),
  (0x96, fun tag p => match p with
    | [backoff1, backoff0] =>
      some (.configureRadio tag (half backoff1 backoff0))
    | _ => none),
  (0x97, fun tag p => match p with | [maximum] => some (.takeOutcomes tag maximum) | _ => none),
  (0x98, fun tag p => match p with | [] => some (.readPages tag) | _ => none),
  (0x99, fun tag p => match p with | [entry] => some (.readPager tag entry) | _ => none),
  (0x9A, fun tag p => match p with | [group] => some (.readGroup tag group) | _ => none),
  (0x9B, fun tag p => match p with | [route] => some (.readRoute tag route) | _ => none),
  (0x9C, fun tag p => match p with | [] => some (.readRadio tag) | _ => none)]

/-- The catalogue's requests of chapters 10 and 11 (R192). -/
def cataloguePart : List (Nat × (Byte → List Byte → Option Instr)) := [
  (0xA0, fun tag p => match p with | [] => some (.clearTrip tag) | _ => none),
  (0xA1, fun tag p => match p with | [] => some (.readInterlocks tag) | _ => none),
  (0xF0, fun tag p => match p with | [] => some (.poll tag) | _ => none),
  (0xF1, fun tag p => match p with | [] => some (.restart tag) | _ => none)]

/-- The catalogue of requests: each kind byte with the reading of its payload, `none` where the length is wrong. -/
def catalogue : List (Nat × (Byte → List Byte → Option Instr)) :=
  catalogueChannel ++ catalogueLoop ++ catalogueFeeder ++ catalogueOven ++ catalogueWarmer ++ catalogueDish ++
    catalogueWave ++ catalogueCondition ++ cataloguePager ++ cataloguePart

/-- What a frame says as a request (R188, checks 1 and 2). -/
inductive Request where
  | unknown
  | wrongLength
  | request (i : Instr)
deriving DecidableEq, Repr

/-- The request in a frame of the kind, tag and payload given. -/
def decodeRequest (kind tag : Byte) (payload : List Byte) : Request :=
  match catalogue.lookup kind.toNat with
  | none => .unknown
  | some parse =>
    match parse tag payload with
    | none => .wrongLength
    | some i => .request i

/-- The frame parts that carry a request: kind, tag and payload. -/
structure RequestFrame where
  kind    : Byte
  tag     : Byte
  payload : List Byte
deriving DecidableEq, Repr

/-- The frame in which the host sends a request; an event has none. -/
def encodeRequest : Instr → Option RequestFrame
  | .readChannel tag channel => some ⟨0x10, tag, [channel]⟩
  | .readChannels tag first count => some ⟨0x11, tag, [first, count]⟩
  | .configureChannel tag channel gain offset enable => some ⟨0x12, tag, [channel] ++ bytes16 gain ++ bytes16 offset ++ [enable]⟩
  | .readLoop tag loop => some ⟨0x20, tag, [loop]⟩
  | .setLoopMode tag loop mode => some ⟨0x21, tag, [loop, mode]⟩
  | .setManualOutput tag loop output ramp => some ⟨0x22, tag, [loop] ++ bytes16 output ++ bytes16 ramp⟩
  | .setLoopSetpoint tag loop setpoint => some ⟨0x23, tag, [loop] ++ bytes16 setpoint⟩
  | .configureLoop tag l f => some ⟨0x24, tag, l :: loopBytes f⟩
  | .configureHeater tag heater rated => some ⟨0x30, tag, [heater] ++ bytes16 rated⟩
  | .configureFeeder tag limit reduced starveTime => some ⟨0x31, tag, bytes32 limit ++ bytes32 reduced ++ bytes16 starveTime⟩
  | .readHeater tag heater => some ⟨0x32, tag, [heater]⟩
  | .readFeeder tag => some ⟨0x33, tag, []⟩
  | .storeProgram tag p k hold band steps =>
    some ⟨0x40, tag, [p, k] ++ bytes16 hold ++ bytes16 band ++ steps.flatMap stepBytes⟩
  | .readProgram tag program => some ⟨0x41, tag, [program]⟩
  | .startProgram tag oven program => some ⟨0x42, tag, [oven, program]⟩
  | .foodLoaded tag oven => some ⟨0x43, tag, [oven]⟩
  | .unload tag oven => some ⟨0x44, tag, [oven]⟩
  | .abort tag oven => some ⟨0x45, tag, [oven]⟩
  | .readOven tag oven => some ⟨0x46, tag, [oven]⟩
  | .configureCabinet tag c f => some ⟨0x50, tag, c :: cabinetBytes f⟩
  | .setCabinetMode tag cabinet mode => some ⟨0x51, tag, [cabinet, mode]⟩
  | .stockAdd tag kind count => some ⟨0x52, tag, [kind] ++ bytes16 count⟩
  | .writeOff tag kind location count => some ⟨0x53, tag, [kind, location] ++ bytes16 count⟩
  | .load tag cabinet count => some ⟨0x54, tag, [cabinet] ++ bytes16 count⟩
  | .issue tag cabinet count => some ⟨0x55, tag, [cabinet] ++ bytes16 count⟩
  | .unloadPlates tag cabinet count => some ⟨0x56, tag, [cabinet] ++ bytes16 count⟩
  | .returnPlates tag kind count => some ⟨0x57, tag, [kind] ++ bytes16 count⟩
  | .readCabinet tag cabinet => some ⟨0x58, tag, [cabinet]⟩
  | .readStock tag kind => some ⟨0x59, tag, [kind]⟩
  | .configureDish tag f => some ⟨0x60, tag, dishBytes f⟩
  | .dishOn tag => some ⟨0x61, tag, []⟩
  | .run tag => some ⟨0x62, tag, []⟩
  | .stop tag => some ⟨0x63, tag, []⟩
  | .dishOff tag => some ⟨0x64, tag, []⟩
  | .declareRack tag kind count => some ⟨0x65, tag, [kind, count]⟩
  | .takeRacks tag maximum => some ⟨0x66, tag, [maximum]⟩
  | .clearRingCount tag => some ⟨0x67, tag, []⟩
  | .readDish tag => some ⟨0x68, tag, []⟩
  | .readTunnel tag => some ⟨0x69, tag, []⟩
  | .create tag f => some ⟨0x70, tag, createBytes f⟩
  | .amend tag slot number covers due lead => some ⟨0x71, tag, [slot, number] ++ bytes16 covers ++ bytes32 due ++ bytes16 lead⟩
  | .release tag slot number => some ⟨0x72, tag, [slot, number]⟩
  | .close tag slot number => some ⟨0x73, tag, [slot, number]⟩
  | .delete tag slot number => some ⟨0x74, tag, [slot, number]⟩
  | .readWave tag slot number => some ⟨0x75, tag, [slot, number]⟩
  | .readWaves tag => some ⟨0x76, tag, []⟩
  | .acknowledge tag slot count => some ⟨0x80, tag, [slot, count]⟩
  | .readCondition tag slot => some ⟨0x81, tag, [slot]⟩
  | .readConditions tag first count => some ⟨0x82, tag, [first, count]⟩
  | .readPending tag => some ⟨0x83, tag, []⟩
  | .setPager tag entry address groups duty => some ⟨0x90, tag, [entry] ++ bytes16 address ++ [groups, duty]⟩
  | .clearPager tag entry => some ⟨0x91, tag, [entry]⟩
  | .setGroup tag group escalation limit timeout => some ⟨0x92, tag, [group, escalation, limit] ++ bytes16 timeout⟩
  | .setRoute tag route enabled group priority code => some ⟨0x93, tag, [route, enabled, group, priority, code]⟩
  | .page tag hostTag group priority code param => some ⟨0x94, tag, [hostTag, group, priority, code] ++ bytes16 param⟩
  | .cancelPage tag id => some ⟨0x95, tag, bytes16 id⟩
  | .configureRadio tag backoff => some ⟨0x96, tag, bytes16 backoff⟩
  | .takeOutcomes tag maximum => some ⟨0x97, tag, [maximum]⟩
  | .readPages tag => some ⟨0x98, tag, []⟩
  | .readPager tag entry => some ⟨0x99, tag, [entry]⟩
  | .readGroup tag group => some ⟨0x9A, tag, [group]⟩
  | .readRoute tag route => some ⟨0x9B, tag, [route]⟩
  | .readRadio tag => some ⟨0x9C, tag, []⟩
  | .clearTrip tag => some ⟨0xA0, tag, []⟩
  | .readInterlocks tag => some ⟨0xA1, tag, []⟩
  | .poll tag => some ⟨0xF0, tag, []⟩
  | .restart tag => some ⟨0xF1, tag, []⟩
  | .powerOn => none
  | .controlFrameComplete _ _ _ => none
  | .replySent => none
  | .scanVisit _ => none
  | .loopCycle _ => none
  | .allocationRound => none
  | .heaterBurstStep => none
  | .ovenTimingTick _ => none
  | .warmTick _ => none
  | .temperatureCheck => none
  | .washColdJudgement => none
  | .encoderPulse => none
  | .countdownTick _ => none
  | .accepted _ _ => none
  | .backoff _ _ => none
  | .backoffEnd => none
  | .silenceTimeout => none
  | .statusTimer => none
  | .statusReply _ => none
  | .answerAccept _ _ => none
  | .answerDecline _ _ => none
  | .pageDeadline _ => none
  | .rawLineChange _ _ => none
  | .filterTimerExpiry _ => none
  | .controlLinkByte _ _ => none
  | .pagerLinkByte _ _ => none
  | .attentionSent => none
  | .uptimeSecond => none

/-! ## Words of the opcode table -/

/-- The command that a word of the opcode table spells. No row of the table gives bits (every row's "fields" is empty and
none has "fixed"), so no word spells a command. -/
def decodeTableWord (_nbits _w : Nat) : Option Instr := none

end Sys2Proof
end

