-- ==== Sys2Proof/Machine/Operands.lean ====
section
/-!
DEFINITION. The fields of replies (R194), the frames of either link with their CRC (R185), the cutting of a long reply
into frames (R188), and the receiver (R186).
-/

namespace Sys2Proof.Machine

/-! ## Fields (R194), most significant byte first -/

def u8 (n : Nat) : List Byte := [BitVec.ofNat 8 n]

def u16 (n : Nat) : List Byte := bytes16 (BitVec.ofNat 16 n)

def u32 (n : Nat) : List Byte := bytes32 (BitVec.ofNat 32 n)

/-- A field with negative values within 16 bits, in two's complement. -/
def s16 (x : Int) : List Byte := bytes16 (signed16 x)

/-- A larger field where negatives occur, in two's complement. D and u_last have no stated range and can pass 32 bits;
what the field then carries is stated nowhere, and the model sends the low 32 bits (log entry 34). -/
def s32 (x : Int) : List Byte := bytes32 (BitVec.ofInt 32 x)

/-- A flag: 0 for disabled, off or clear, 1 for the other value. -/
def flag (b : Bool) : List Byte := [if b then 1 else 0]

/-- A field that may be absent: a presence byte, then the field, which is zeros when absent. -/
def optField {α : Type} (size : Nat) (field : α → List Byte) : Option α → List Byte
  | some a => 1 :: field a
  | none => 0 :: List.replicate size 0

/-- A list in a reply: its count byte travels with its first item, and each item is one piece (R188). -/
def listPieces : List (List Byte) → List (List Byte)
  | [] => [[0]]
  | first :: rest => (u8 (rest.length + 1) ++ first) :: rest

/-- A set: one bit per member in listed order, from the least significant bit. -/
def bitSet (members : List Bool) : List Byte :=
  [members.foldr (fun b acc => (acc <<< 1) ||| (if b then 1 else 0)) 0]

/-! ## Reading a request's bytes -/

/-- A one-byte code that stands for off or on. -/
def onOff (b : Byte) : Option Bool :=
  if b = 0 then some false else if b = 1 then some true else none

/-- An index below `n`, where the byte names one. -/
def index (n : Nat) (b : Byte) : Option (Fin n) :=
  if h : b.toNat < n then some ⟨b.toNat, h⟩ else none

/-- `x` lies within `lo` to `hi`. -/
def within (lo hi x : Nat) : Bool := decide (lo ≤ x) && decide (x ≤ hi)

/-! ## The CRC (R185) -/

def crcBit (r : Half) : Half :=
  if r.msb then (r <<< 1) ^^^ 0x1021 else r <<< 1

def crcByte (r : Half) (b : Byte) : Half :=
  crcBit (crcBit (crcBit (crcBit (crcBit (crcBit (crcBit (crcBit (r ^^^ (b ++ (0 : Byte))))))))))

/-- The CRC over bytes in line order: polynomial 0x1021, most significant bit first, starting at 0xFFFF. -/
def crc (bytes : List Byte) : Half := bytes.foldl crcByte 0xFFFF

/-- The bytes of a frame on the line, sync byte to CRC (R185). -/
def Frame.bytes (f : Frame) : List Byte :=
  let body := BitVec.ofNat 8 f.payload.length :: f.kind :: f.tag :: f.payload
  0x5A :: (body ++ bytes16 (crc body))

/-! ## Replies (R188) -/

/-- The status codes of R188. -/
def Status.code : Status → Byte
  | .ok => 0x00
  | .okTaken => 0x01
  | .unknown => 0x10
  | .length => 0x11
  | .range => 0x12
  | .state => 0x13
  | .busy => 0x14
  | .conflict => 0x15
  | .empty => 0x16
  | .faultPending => 0x17
  | .tripped => 0x18
  | .stale => 0x19
  | .full => 0x1A

/-- Pieces gathered in order into frames of at most 238 bytes, each frame filled before the next is begun (log entry
13). -/
def gather : List Byte → List (List Byte) → List (List Byte)
  | current, [] => [current]
  | current, piece :: rest =>
    if current.length + piece.length ≤ 238 then gather (current ++ piece) rest
    else current :: gather piece rest

/-- One frame of a reply for each part: every frame but the last carries continuation 1 (R188). -/
def Reply.framesOf (r : Reply) : List (List Byte) → List Frame
  | [] => []
  | [last] => [⟨r.kind, r.tag, r.status.code :: 0 :: last⟩]
  | part :: rest => ⟨r.kind, r.tag, r.status.code :: 1 :: part⟩ :: r.framesOf rest

/-- The frames of a reply, in the order they are sent. -/
def Reply.frames (r : Reply) : List Frame := r.framesOf (gather [] r.pieces)

/-- An ATTENTION frame with the number of marks held when it was built (R190, R194). -/
def attentionFrame (marks : Nat) : Frame := ⟨0xFF, 0, u8 marks⟩

/-- The frames that the control link's transmitter is sending, in order: those of the oldest reply, or one ATTENTION
(R185, R188, R190). -/
def Link.onAir (k : Link) : List Frame :=
  match k.tx with
  | .idle => []
  | .reply => (k.replies.take 1).flatMap Reply.frames
  | .attention marks => [attentionFrame marks]

/-! ## The receiver (R186) -/

/-- The table of R186: the receiver after a byte, and the frame that the byte completes. -/
def Receiver.take : Receiver → Byte → Receiver × Option Frame
  | .hunt, b => (if b = 0x5A then .length else .hunt, none)
  | .length, b => (if b.toNat ≤ 240 then .header b none else .hunt, none)
  | .header len none, b => (.header len (some b), none)
  | .header len (some kind), b =>
    (if len = 0 then .check len kind b [] none else .body len kind b [], none)
  | .body len kind tag got, b =>
    (if got.length + 1 = len.toNat then .check len kind tag (got ++ [b]) none else .body len kind tag (got ++ [b]),
      none)
  | .check len kind tag payload none, b => (.check len kind tag payload (some b), none)
  | .check len kind tag payload (some high), b =>
    (.hunt, if crc (len :: kind :: tag :: payload) = half high b then some ⟨kind, tag, payload⟩ else none)

/-- A byte at the receiver. One that comes more than 10 ms after the byte before it abandons the frame in progress and is
judged in HUNT. -/
def Receiver.byte (rx : Receiver) (late : Bool) (b : Byte) : Receiver × Option Frame :=
  (if late then Receiver.hunt else rx).take b

end Sys2Proof.Machine
end

