-- ==== Sys2Proof/Machine/Paging.lean ====
section
/-!
DEFINITION. The desk: what a raise, a return, a trigger and a cancel notice do to the condition table, the page queue
and the radio port (chapters 8 and 9), and the radio arbiter. Every function takes the present uptime where a record
needs it.
-/

namespace Sys2Proof.Machine

/-! ## Marks and slots -/

def Desk.mark (c : MarkClass) (i : Nat) (d : Desk) : Desk := { d with link := d.link.mark c i }

/-- A slot replaced, with its mark where a field changed (R154). -/
def Desk.setSlot (slot : Fin 87) (c : Slot) (d : Desk) : Desk :=
  if c = d.conds.get slot then d
  else ({ d with conds := d.conds.set slot c }).mark .condition slot.val

/-! ## The page queue -/

/-- The route of a source's kind (sections 9.1.3 and 9.2); the host has none. -/
def routeOf : Source → Option (Fin 16)
  | .slot i => some (slotKind i)
  | .oven _ => some 13
  | .wave _ => some 14
  | .cabinet _ => some 15
  | .host _ => none

/-- The page id after `counter`: ids that pages of the queue hold are passed over (R159). `fuel` exceeds the number of
pages. -/
def nextPageId (held : List Half) : Nat → Half → Half
  | 0, counter => counter + 1
  | fuel + 1, counter =>
    if counter + 1 ∈ held then nextPageId held fuel (counter + 1) else counter + 1

/-- A page joins behind every page of its priority or a more urgent one (R159). -/
def joinQueue (page : Page) : List Page → List Page
  | [] => [page]
  | first :: rest =>
    if first.priority ≤ page.priority then first :: joinQueue page rest else page :: first :: rest

/-- The worst page still QUEUED: the largest priority number, and among those the newest (R161), which is the last one
in queue order. -/
def worstQueued : List Page → Option Page
  | [] => none
  | first :: rest =>
    match worstQueued rest with
    | some page => some page
    | none => if first.state = .queued then some first else none

def findPage (id : Half) (queue : List Page) : Option Page := queue.find? (fun page => decide (page.id = id))

def findSource (source : Source) (queue : List Page) : Option Page :=
  queue.find? (fun page => decide (page.source = source))

/-- The first QUEUED page in queue order (R165). -/
def firstQueued (queue : List Page) : Option Page := queue.find? (fun page => decide (page.state = .queued))

/-- The page of id `id` changed by `f`. -/
def updatePage (id : Half) (f : Page → Page) (queue : List Page) : List Page :=
  queue.map (fun page => if page.id = id then f page else page)

def removePage (id : Half) (queue : List Page) : List Page := queue.filter (fun page => decide (page.id ≠ id))

/-- The pager controller changed by `f`. -/
def Desk.onPager (f : Pager → Pager) (d : Desk) : Desk := { d with pager := f d.pager }

def Desk.updatePage (id : Half) (f : Page → Page) (d : Desk) : Desk :=
  d.onPager fun g => { g with queue := Machine.updatePage id f g.queue }

/-- A record joins the outcome list, from which the oldest of 16 goes unread (R173). -/
def appendOutcome (r : OutcomeRecord) (outcomes : List OutcomeRecord) : List OutcomeRecord :=
  (if outcomes.length < 16 then outcomes else outcomes.drop 1) ++ [r]

/-- A record made in the outcome list, with its mark (R173). -/
def Desk.record (r : OutcomeRecord) (d : Desk) : Desk :=
  (d.onPager fun g => { g with outcomes := appendOutcome r g.outcomes }).mark .outcomes 0

/-- A page created: it takes the next page id, and joins the queue or meets a full one (R160, R161). The id is chosen
before a worst page leaves, so that page's id still counts as held: the model's choice (log entry 35). The arbiter is
not judged here. -/
def Desk.createPage (now : Word) (source : Source) (group : Fin 8) (priority : Fin 4) (code : Byte) (param : Half)
    (d : Desk) : Desk :=
  let g := d.pager
  let id := nextPageId (g.queue.map Page.id) 33 g.pageCounter
  let page : Page := { id, source, group, current := group, priority, code, param }
  let counted := d.onPager fun g => { g with pageCounter := id }
  if g.queue.length < 32 then counted.onPager fun g => { g with queue := joinQueue page g.queue }
  else
    match worstQueued g.queue with
    | some worst =>
      if priority < worst.priority then
        (counted.onPager fun g => { g with queue := joinQueue page (removePage worst.id g.queue) }).record
          { id := worst.id, source := worst.source, outcome := .dropped, pager := none, uptime := now }
      else counted.record { id, source, outcome := .dropped, pager := none, uptime := now }
    | none => counted.record { id, source, outcome := .dropped, pager := none, uptime := now }

/-- A page created for a source by the route of its kind, where the route is enabled (R160, R162). -/
def Desk.createRouted (now : Word) (source : Source) (param : Half) (d : Desk) : Desk :=
  match routeOf source with
  | none => d
  | some kind =>
    let route := d.pager.routes.get kind
    if route.enabled then d.createPage now source route.group route.priority route.code param else d

/-- What a trigger does before the arbiter is judged (R160). -/
def Desk.triggerCore (now : Word) (source : Source) (param : Half) (d : Desk) : Desk :=
  match routeOf source with
  | none => d
  | some kind =>
    if (d.pager.routes.get kind).enabled then
      match findSource source d.pager.queue with
      | some page => d.updatePage page.id fun q => { q with latch := some param }
      | none => d.createRouted now source param
    else d

/-- A raise with its trigger, before the arbiter is judged (R145, R147, R148). -/
def Desk.raiseCore (now : Word) (slot : Fin 87) (param : Half) (d : Desk) : Desk :=
  let c := d.conds.get slot
  let raised := c.raise now param
  let after := d.setSlot slot (if isEventKind slot then raised.ret else raised)
  if c.occurs then after.triggerCore now (.slot slot) param else after

/-- A return (R146). -/
def Desk.ret (slot : Fin 87) (d : Desk) : Desk := d.setSlot slot (d.conds.get slot).ret

/-- A terminal outcome: the record, the page leaving the queue, and its source's latch turned into a page (R162). The
arbiter is not judged here. -/
def Desk.finish (now : Word) (page : Page) (outcome : PageOutcome) (pager : Option (Fin 64)) (d : Desk) : Desk :=
  let gone := (d.record { id := page.id, source := page.source, outcome, pager, uptime := now }).onPager
    fun g => { g with queue := removePage page.id g.queue }
  match page.latch with
  | none => gone
  | some param => gone.createRouted now page.source param

/-! ## Attempts -/

/-- The current target's count goes down by 1 where it was raised for this attempt: the page is AWAITING after a
transmission to one pager (R166, R171). -/
def Desk.releaseTarget (page : Page) (d : Desk) : Desk :=
  match page.state, page.broadcast, page.target with
  | .awaiting, false, some e =>
    d.onPager fun g =>
      { g with directory :=
          g.directory.set e { g.directory.get e with outstanding := (g.directory.get e).outstanding - 1 } }
  | _, _, _ => d

/-- Step (4) of R171: the page moved to its escalation group, where it may move. -/
def Page.escalate (groups : Table Group 8) (page : Page) : Option Page :=
  if page.escalated then none
  else
    match (groups.get page.current).escalation with
    | none => none
    | some next =>
      some { page with
        current := next, attempts := 0, tried := [], target := none, escalated := true, state := .queued }

/-- Step (5) of R171: the page ends, and PAGE_UNANSWERED is raised but for a page of slot 83 itself. -/
def Desk.endUnanswered (now : Word) (page : Page) (outcome : PageOutcome) (d : Desk) : Desk :=
  let ended := d.finish now page outcome none
  if page.source = .slot unansweredSlot then ended else ended.raiseCore now unansweredSlot page.id

/-- Steps (4) and (5) of R171. -/
def Desk.escalateOrEnd (now : Word) (page : Page) (outcome : PageOutcome) (d : Desk) : Desk :=
  match page.escalate d.pager.groups with
  | some moved => d.updatePage page.id fun _ => moved
  | none => d.endUnanswered now page outcome

/-- An attempt ends unanswered (R171), before the arbiter is judged. -/
def Desk.endAttempt (now : Word) (page : Page) (declined : Bool) (d : Desk) : Desk :=
  let released := d.releaseTarget page
  let ended := { page with deadline := none, declineMark := false, attempts := page.attempts + 1 }
  if ended.attempts < (d.pager.groups.get page.current).limit then
    released.updatePage page.id fun _ => { ended with state := .queued }
  else
    released.escalateOrEnd now ended (if declined then .declinedOut else .expired)

/-! ## The radio arbiter (R165) -/

/-- The entries in the order a search visits them: those after the pointer, wrapping, the pointer's own last. -/
def searchOrder (pointer : Fin 64) : List (Fin 64) :=
  (List.range 64).map fun k => ⟨(pointer.val + 1 + k) % 64, Nat.mod_lt _ (by decide)⟩

/-- A used, ON-duty member of the group. -/
def PagerEntry.onDutyIn (group : Fin 8) (e : PagerEntry) : Bool :=
  decide (e.address ≠ 0) && e.duty && e.groups.getLsbD group.val

/-- The pager chosen for a page of priority 1 to 3. -/
def Pager.choose (page : Page) (g : Pager) : Option (Fin 64) :=
  (searchOrder (g.groups.get page.current).pointer).find? fun e =>
    (g.directory.get e).onDutyIn page.current && !(page.tried.contains e) &&
      decide ((g.directory.get e).outstanding < 3)

/-- The members a broadcast of the group reaches, in entry order. -/
def Pager.members (group : Fin 8) (g : Pager) : List (Fin 64) :=
  (List.finRange 64).filter fun e => (g.directory.get e).onDutyIn group

/-- The tried list after a broadcast: members join in entry order until it holds 8. -/
def joinTried (members tried : List (Fin 64)) : List (Fin 64) :=
  members.foldl (fun acc e => if acc.contains e then acc else if acc.length < 8 then acc ++ [e] else acc) tried

/-- A TRANSMIT frame (R164, R194). -/
def transmitFrame (tag : Byte) (page : Page) (address : Nat) (group : Byte) : Frame :=
  ⟨0x01, tag, bytes16 page.id ++ u16 address ++ [group] ++ u8 page.priority.val ++ [page.code] ++ bytes16 page.param⟩

/-- A page put on the air: the port is SENDING under a fresh tag (R164, R165). -/
def Desk.transmit (page : Page) (address : Nat) (group : Byte) (d : Desk) : Desk :=
  let tag := d.pager.tagCounter + 1
  d.onPager fun g => { g with
    queue := Machine.updatePage page.id (fun _ => { page with state := .onAir }) g.queue
    port := .sending page.id tag false
    tagCounter := tag
    lastSent := some (transmitFrame tag page address group) }

/-- A transmission to one pager: the pointer moves, and the entry joins the tried list and becomes the target. -/
def Desk.transmitTo (page : Page) (e : Fin 64) (d : Desk) : Desk :=
  let moved := d.onPager fun g => { g with
    groups := g.groups.set page.current { g.groups.get page.current with pointer := e } }
  moved.transmit { page with tried := page.tried ++ [e], target := some e, broadcast := false }
    (d.pager.directory.get e).address (Config.singleTransmitGroup page.id)

/-- A broadcast to the current group. -/
def Desk.transmitAll (page : Page) (members : List (Fin 64)) (d : Desk) : Desk :=
  d.transmit { page with tried := joinTried members page.tried, target := none, broadcast := true } 0
    (BitVec.ofNat 8 page.current.val)

/-- The transmission of a page worked out, where it has one. -/
def Desk.send? (page : Page) (d : Desk) : Option Desk :=
  if page.priority = 0 then
    match d.pager.members page.current with
    | [] => none
    | e :: rest => some (d.transmitAll page (e :: rest))
  else
    match d.pager.choose page with
    | none => none
    | some e => some (d.transmitTo page e)

/-- The radio arbiter. Each turn sends a page or moves or ends one that cannot be sent. `fuel` exceeds the turns that
the queue can take (log entry 27). -/
def arbitrate (now : Word) : Nat → Desk → Desk
  | 0, d => d
  | fuel + 1, d =>
    match d.pager.port with
    | .idle =>
      match firstQueued d.pager.queue with
      | none => d
      | some page =>
        match d.send? page with
        | some sent => sent
        | none => arbitrate now fuel (d.escalateOrEnd now page .expired)
    | .sending _ _ _ | .waiting | .down => d

/-- The radio arbiter is judged. -/
def Desk.arbiter (now : Word) (d : Desk) : Desk := arbitrate now 300 d

/-! ## What other blocks send -/

/-- A trigger (R160). -/
def Desk.trigger (now : Word) (source : Source) (param : Half) (d : Desk) : Desk :=
  (d.triggerCore now source param).arbiter now

/-- A raise (R145, R147). -/
def Desk.raise (now : Word) (slot : Fin 87) (param : Half) (d : Desk) : Desk :=
  (d.raiseCore now slot param).arbiter now

/-- A page cancelled by its state, before the arbiter is judged (R172). -/
def Desk.cancelPage (now : Word) (page : Page) (d : Desk) : Desk :=
  match page.state with
  | .queued | .awaiting => (d.releaseTarget page).finish now page .cancelled none
  | .onAir => d.updatePage page.id fun q => { q with cancelMark := true }

/-- A cancel notice: the source's latch is cleared, then its page is cancelled (R172). -/
def Desk.cancelNotice (now : Word) (source : Source) (d : Desk) : Desk :=
  match findSource source d.pager.queue with
  | none => d
  | some page =>
    let clear := d.updatePage page.id fun q => { q with latch := none }
    (clear.cancelPage now { page with latch := none }).arbiter now

end Sys2Proof.Machine
end

