-- ==== Sys2Proof/Machine/Ops.lean ====
section
/-!
DEFINITION. The operations that every block shares: the part's raise, return, trigger, cancel notice and mark, the
control link's transmitter, and the answer to a request.
-/

namespace Sys2Proof.Machine

/-! ## What a block hands to the desk -/

def Part.mark (c : MarkClass) (i : Nat) (p : Part) : Part := { p with desk := p.desk.mark c i }

/-- A raise at the present uptime (R145, R147). -/
def Part.raise (slot : Fin 87) (param : Half) (p : Part) : Part :=
  { p with desk := p.desk.raise p.uptime slot param }

/-- A return (R146). -/
def Part.ret (slot : Fin 87) (p : Part) : Part := { p with desk := p.desk.ret slot }

/-- A trigger that no condition sends: PROGRAM_DONE, WAVE_READY, PLATES_LOW (R160). -/
def Part.trigger (source : Source) (param : Half) (p : Part) : Part :=
  { p with desk := p.desk.trigger p.uptime source param }

/-- A cancel notice (R172). -/
def Part.cancelNotice (source : Source) (p : Part) : Part :=
  { p with desk := p.desk.cancelNotice p.uptime source }

/-- Whether a slot is pending, as the table holds it (R152). -/
def Part.isPending (slot : Fin 87) (p : Part) : Bool := (p.desk.conds.get slot).pending

/-! ## The measurement table, as the blocks read it (R8) -/

/-- The value of a channel where it is a current measurement: the status is OK. -/
def Part.reading (channel : Fin 23) (p : Part) : Option Int :=
  let e := p.scan.entries.get channel
  match e.status with
  | .ok => some e.value
  | .unscanned | .openFault | .shortFault | .disabled => none

/-- A channel reads OK at or above a temperature. -/
def Part.readsAtLeast (channel : Fin 23) (floor : Int) (p : Part) : Bool :=
  match p.reading channel with
  | some value => decide (floor ≤ value)
  | none => false

/-! ## The filtered lines (R177) -/

/-- The inputs in the order of the table of section 10.1, in which READ INTERLOCKS sends them: the model's choice (log
entry 38). -/
def lineIndex : Line → Fin 12
  | .hoodTrip => 0
  | .ovenDoor oven => ⟨1 + oven.val, by omega⟩
  | .dishDoor => 7
  | .conveyorOverload => 8
  | .feederReduce => 9
  | .rackEntry => 10
  | .rackExit => 11

/-- The filtered state of a line: asserted. -/
def Part.asserted (line : Line) (p : Part) : Bool := (p.interlock.lines.get (lineIndex line)).filtered

/-! ## The control link's transmitter (R185) -/

/-- An idle transmitter takes the oldest reply, and without a reply the oldest ATTENTION. -/
def Link.kick (k : Link) : Link :=
  match k.tx with
  | .idle =>
    match k.replies with
    | _ :: _ => { k with tx := .reply }
    | [] =>
      match k.attentions with
      | marks :: rest => { k with tx := .attention marks, attentions := rest }
      | [] => k
  | .reply | .attention _ => k

def Part.onLink (f : Link → Link) (p : Part) : Part :=
  { p with desk := { p.desk with link := f p.desk.link } }

/-! ## Answers -/

/-- The answer to a request: its status, and the fields after the continuation byte in pieces (R188). -/
structure Answer where
  status : Status
  pieces : List (List Byte) := []
deriving DecidableEq, Repr

/-- A reply built (R187, R188). `buffered` says that its request holds a receive buffer. -/
def Part.reply (kind tag : Byte) (buffered : Bool) (a : Answer) (p : Part) : Part :=
  p.onLink fun k => { k with replies := k.replies ++ [{ kind, tag, status := a.status, pieces := a.pieces, buffered }] }

/-- The slot of the wave that an issue notice has closed between two wave tables: it stood in SERVING, is CLOSED, and its
issued count has gone up, which CLOSE leaves as it is (R138, R139). -/
def closedByIssue (before after : Table (Option Wave) 12) : Option (Fin 12) :=
  (List.finRange 12).find? fun w =>
    match before.get w, after.get w with
    | some v, some u => decide (v.state = .serving) && decide (u.state = .closed) && decide (v.issued < u.issued)
    | _, _ => false

/-- A part as a command leaves it, for the waves that the command found: what became ready is handed to the transmitter,
and the wave that an issue notice closed is known to the next command alone (log entry 41). -/
def Part.settled (found : Table (Option Wave) 12) (after : Part) : Part :=
  { after.onLink Link.kick with justClosed := closedByIssue found after.waves }

/-- A request that its owning block has taken or refused: the part it leaves, with the reply built and handed on. -/
def State.answer (kind tag : Byte) (taken : Part × Answer) (s : State) : State :=
  { s with part := (taken.1.reply kind tag false taken.2).settled s.part.waves }

/-- An event: the part it leaves, with what became ready handed to the transmitter. -/
def State.event (after : Part) (s : State) : State := { s with part := after.settled s.part.waves }

end Sys2Proof.Machine
end

