-- ==== Sys2Proof/Machine/Feeder.lean ====
section
/-!
DEFINITION. Feeder allocation (chapter 3): the heater table, the budget, the allocation round, the burst-fired outputs,
and the requests CONFIGURE HEATER, CONFIGURE FEEDER, READ HEATER and READ FEEDER.
-/

namespace Sys2Proof.Machine

/-! ## The heater table -/

def HeaterClass.code : HeaterClass → Nat
  | .sanitise => 0
  | .service => 1
  | .standby => 2

/-- What a change of which marks the heater (R59). -/
def Heater.shown (h : Heater) : HeaterClass × Nat × Nat × Bool × Bool :=
  (h.cls, h.grant, h.delivered, h.locked, h.starved)

/-- A heater entry replaced, marked where R59 has it marked. -/
def Part.setHeater (n : Fin 16) (h : Heater) (p : Part) : Part :=
  let q := { p with feeder := { p.feeder with heaters := p.feeder.heaters.set n h } }
  if h.shown = (p.feeder.heaters.get n).shown then q else q.mark .heater n.val

/-- A class notice (R44). -/
def Part.classNotice (n : Fin 16) (c : HeaterClass) (p : Part) : Part :=
  p.setHeater n { p.feeder.heaters.get n with cls := c }

/-- A valve notice: the lock of heater 15 (R49). -/
def Part.valveNotice (isOpen : Bool) (p : Part) : Part :=
  p.setHeater 15 { p.feeder.heaters.get 15 with locked := isOpen }

/-- A grant cut to 0 within the window, with the output off (R53). -/
def Heater.cut (h : Heater) : Heater := { h with grant := 0, assigned := 0, delivered := 0, output := false }

/-! ## The budget -/

/-- The requested budget derived anew (R46). -/
def Part.deriveRequested (p : Part) : Part :=
  { p with feeder := { p.feeder with
      requested := if p.asserted .feederReduce then p.feeder.reduced else p.feeder.limit } }

/-- REDUCED_ACK judged anew (R47). -/
def Part.judgeReducedAck (p : Part) : Part :=
  { p with feeder := { p.feeder with
      reducedAck := p.asserted .feederReduce && decide (p.feeder.applied = p.feeder.reduced) } }

/-- A change of the filtered FEEDER_REDUCE line (R46, R47). -/
def Part.reduceChange (p : Part) : Part := p.deriveRequested.judgeReducedAck

/-- The first step of a round: the round number and the applied budget (R48). -/
def Feeder.applyBudget (f : Feeder) : Feeder :=
  let f := { f with round := f.round + 1 }
  if f.requested < f.applied && (f.heaters.get 15).locked then { f with pending := true }
  else { f with applied := f.requested, pending := false }

/-! ## Dividing the budget (R50) -/

/-- The demand power D = floor(P × d / 1000). -/
def Heater.power (h : Heater) (demand : Nat) : Nat := h.rated * demand / 1000

/-- The demand power of each heater. -/
def Part.power (p : Part) (n : Fin 16) : Nat := (p.feeder.heaters.get n).power (p.loops.get n).demand

/-- T, the sum of the demand powers of a class. -/
def Part.classTotal (p : Part) (c : HeaterClass) : Nat :=
  ((List.finRange 16).map fun n => if (p.feeder.heaters.get n).cls = c then p.power n else 0).sum

/-- A heater's watts in a class that is served with `left` watts against the class's total; `served` is false once an
earlier class has been scaled. -/
def shareOf (served : Bool) (left total power : Nat) : Nat :=
  if served then (if total ≤ left then power else power * left / total) else 0

/-- The assigned watts g of a heater outside the trip state. -/
def Part.assignedWatts (p : Part) (n : Fin 16) : Nat :=
  let budget := p.feeder.applied
  let sanitise := p.classTotal .sanitise
  let service := p.classTotal .service
  let standby := p.classTotal .standby
  match (p.feeder.heaters.get n).cls with
  | .sanitise => shareOf true budget sanitise (p.power n)
  | .service => shareOf (decide (sanitise ≤ budget)) (budget - sanitise) service (p.power n)
  | .standby =>
    shareOf (decide (sanitise ≤ budget) && decide (service ≤ budget - sanitise)) (budget - sanitise - service) standby
      (p.power n)

/-- The assigned watts of a heater at a round: 0 in the trip state (R56). -/
def Part.roundWatts (p : Part) (n : Fin 16) : Nat := if p.interlock.trip then 0 else p.assignedWatts n

/-! ## Grants and outputs -/

/-- The grant q = floor(g × 1000 / P), 0 where P is 0 (R51). -/
def grantOf (watts rated : Nat) : Nat := if rated = 0 then 0 else watts * 1000 / rated

/-- A heater with grant `q` is on in step `k` of the window (R53). -/
def burstOn (q k : Nat) : Bool := decide (k * q / 1000 < (k + 1) * q / 1000)

/-- A heater's entry after a round that assigns it `watts` (R51), its output at step 0 of the window (R53). -/
def Heater.granted (round : Word) (watts : Nat) (h : Heater) : Heater :=
  let q := grantOf watts h.rated
  { h with
    grant := q, grantRound := round, assigned := watts, delivered := h.rated * q / 1000, output := burstOn q 0 }

/-- The heaters 0 to 15 taken in ascending order. -/
def Part.eachHeater (f : Fin 16 → Part → Part) (p : Part) : Part :=
  (List.finRange 16).foldl (fun q n => f n q) p

/-- The totals formed from the table (R50, R51). -/
def Feeder.withTotals (f : Feeder) : Feeder :=
  { f with
    grantedTotal := (f.heaters.items.map Heater.assigned).sum
    deliveredTotal := (f.heaters.items.map Heater.delivered).sum }

/-- The grants of a round stored with the totals, and the window begun anew (R50, R51, R53). -/
def Part.storeGrants (p : Part) : Part :=
  let stored := p.eachHeater fun n q =>
    q.setHeater n ((q.feeder.heaters.get n).granted p.feeder.round (p.roundWatts n))
  { stored with feeder := { stored.feeder.withTotals with nextStep := 0 } }

/-- Each loop receives its grant and the round number (R29, R52). -/
def Part.reportGrants (p : Part) : Part :=
  { p with loops := Table.ofFn fun n =>
      { p.loops.get n with grant := (p.feeder.heaters.get n).grant, grantRound := p.feeder.round } }

/-- Starvation of one heater judged (R54, R56). -/
def Part.judgeStarved (n : Fin 16) (p : Part) : Part :=
  let h := p.feeder.heaters.get n
  let short := !p.interlock.trip && decide (0 < h.rated) && decide (h.grant + 50 < (p.loops.get n).demand)
  if short then
    let timer := min 1800 (h.starve + 2)
    if p.feeder.starveTime ≤ timer && !h.starved then
      (p.setHeater n { h with starve := timer, starved := true }).raise (starvedSlot n) (BitVec.ofNat 16 h.grant)
    else p.setHeater n { h with starve := timer }
  else if h.starved then (p.setHeater n { h with starve := 0, starved := false }).ret (starvedSlot n)
  else p.setHeater n { h with starve := 0 }

/-- An allocation round (R48 to R54, R56). -/
def Part.allocationRound (p : Part) : Part :=
  let applied := { p with feeder := p.feeder.applyBudget }.judgeReducedAck
  applied.storeGrants.reportGrants.eachHeater Part.judgeStarved

/-- One 2 ms step of the window: every output by its grant (R53). -/
def Feeder.burstStep (f : Feeder) : Feeder :=
  if f.nextStep < 1000 then
    { f with
      heaters := f.heaters.map fun h => { h with output := burstOn h.grant f.nextStep }
      nextStep := f.nextStep + 1 }
  else f

/-! ## Trip and restart -/

/-- Every grant cut (R55, R61). -/
def Part.cutGrants (p : Part) : Part :=
  let cut := p.eachHeater fun n q => q.setHeater n (q.feeder.heaters.get n).cut
  { cut with feeder := { cut.feeder with grantedTotal := 0, deliveredTotal := 0 } }

/-- A warm restart of the allocator (R61). -/
def Part.restartFeeder (p : Part) : Part :=
  let cut := p.cutGrants
  let cleared := cut.eachHeater fun n q =>
    q.setHeater n { q.feeder.heaters.get n with starve := 0, starved := false }
  { cleared with feeder := { cleared.feeder with pending := false } }.judgeReducedAck

/-! ## Requests -/

/-- CONFIGURE HEATER (R43). -/
def configureHeater (heater : Byte) (rated : Half) (p : Part) : Part × Answer :=
  match index 16 heater with
  | none => (p, { status := .range })
  | some n =>
    if 60000 < rated.toNat then (p, { status := .range })
    else
      match (p.loops.get n).base with
      | .auto | .manual => (p, { status := .state })
      | .off =>
        let h := p.feeder.heaters.get n
        let q := p.setHeater n { h.cut with rated := rated.toNat }
        let r := { q with feeder := { q.feeder with
          grantedTotal := q.feeder.grantedTotal - h.assigned
          deliveredTotal := q.feeder.deliveredTotal - h.delivered } }
        (r.mark .heater n.val, { status := .ok })

/-- CONFIGURE FEEDER (R45). -/
def configureFeeder (limit reduced : Word) (starveTime : Half) (p : Part) : Part × Answer :=
  if 600000 < limit.toNat || 600000 < reduced.toNat || limit.toNat < reduced.toNat ||
      !within 60 1800 starveTime.toNat then (p, { status := .range })
  else
    (({ p with feeder := { p.feeder with
        limit := limit.toNat, reduced := reduced.toNat, starveTime := starveTime.toNat } }).reduceChange,
      { status := .ok })

/-- READ HEATER's fields after the heater number, in the order of R57. -/
def Heater.bytes (demand : Nat) (h : Heater) : List Byte :=
  u16 h.rated ++ u8 h.cls.code ++ u16 demand ++ u16 h.grant ++ bytes32 h.grantRound ++ u16 h.delivered ++
    u16 h.starve ++ flag h.starved ++ flag h.locked

def readHeater (heater : Byte) (p : Part) : Part × Answer :=
  match index 16 heater with
  | none => (p, { status := .range })
  | some n =>
    (p, { status := .ok, pieces := [u8 n.val ++ (p.feeder.heaters.get n).bytes (p.loops.get n).demand] })

/-- READ FEEDER's fields, in the order of R58. FEEDER_REDUCE and REDUCED_ACK are sent as 1 where they are asserted and
0 where they are deasserted: the model's choice (log entry 36). -/
def readFeeder (p : Part) : Part × Answer :=
  let f := p.feeder
  (p, { status := .ok, pieces :=
    [u32 f.limit ++ u32 f.reduced ++ u16 f.starveTime ++ flag (p.asserted .feederReduce) ++ u32 f.requested ++
      u32 f.applied ++ flag f.pending ++ flag f.reducedAck ++ flag (f.heaters.get 15).locked ++ bytes32 f.round ++
      u32 f.grantedTotal ++ u32 f.deliveredTotal] })

/-! ## Commands -/

def execConfigureHeater (tag heater : Byte) (rated : Half) (s : State) : Host.Outcome State Fault Refusal :=
  .next (s.answer 0x30 tag (configureHeater heater rated s.part))

def execConfigureFeeder (tag : Byte) (limit reduced : Word) (starveTime : Half) (s : State) :
    Host.Outcome State Fault Refusal :=
  .next (s.answer 0x31 tag (configureFeeder limit reduced starveTime s.part))

def execReadHeater (tag heater : Byte) (s : State) : Host.Outcome State Fault Refusal :=
  .next (s.answer 0x32 tag (readHeater heater s.part))

def execReadFeeder (tag : Byte) (s : State) : Host.Outcome State Fault Refusal :=
  .next (s.answer 0x33 tag (readFeeder s.part))

/-- ALLOCATION_ROUND: the window timer runs out (R48). -/
def execAllocationRound (s : State) : Host.Outcome State Fault Refusal :=
  .next (s.event s.part.allocationRound)

/-- HEATER_BURST_STEP: the next 2 ms step of the window (R53). -/
def execHeaterBurstStep (s : State) : Host.Outcome State Fault Refusal :=
  .next (s.event { s.part with feeder := s.part.feeder.burstStep })

end Sys2Proof.Machine
end

