-- ==== Sys2Proof/Machine/Loops.lean ====
section
/-!
DEFINITION. Heat loops (chapter 2): the cycle with its six AUTO stages, what the owning units ask of a loop, and the
requests READ LOOP, SET LOOP MODE, SET MANUAL OUTPUT, SET LOOP SETPOINT and CONFIGURE LOOP.
-/

namespace Sys2Proof.Machine

/-! ## The record -/

/-- The reported mode (R17). -/
def Loop.mode (l : Loop) : LoopMode :=
  if l.chFault then .fault
  else if l.inhibit then .inhibited
  else
    match l.base with
    | .off => .off
    | .auto => .auto
    | .manual => .manual

/-- The codes of the reported mode, in the order of section 2.1.2 (R194). -/
def LoopMode.code : LoopMode → Nat
  | .off => 0
  | .auto => 1
  | .manual => 2
  | .fault => 3
  | .inhibited => 4

def BaseMode.code : BaseMode → Nat
  | .off => 0
  | .auto => 1
  | .manual => 2

/-- The channel that a loop measures (00_scope.md, section 7). -/
def loopChannel (n : Fin 16) : Fin 23 :=
  if h : n.val < 6 then ⟨n.val, by omega⟩
  else if h : n.val < 14 then ⟨n.val + 6, by omega⟩
  else if n.val = 14 then 20
  else 21

/-- What a change of which marks the loop (R40). -/
def Loop.shown (l : Loop) : LoopMode × BaseMode × Int × Nat × Bool := (l.mode, l.base, l.sp, l.demand, l.latch)

/-- A loop record replaced, marked where R40 has it marked. -/
def Part.setLoop (n : Fin 16) (l : Loop) (p : Part) : Part :=
  let q := { p with loops := p.loops.set n l }
  if l.shown = (p.loops.get n).shown then q else q.mark .loop n.val

/-! ## The arithmetic of the stages -/

/-- I is bounded to −1,000,000 to +1,000,000 (R23). -/
def clampI (x : Int) : Int := clamp (-1000000) 1000000 x

/-- An output held to the loop's limits. -/
def LoopConfig.limit (g : LoopConfig) (x : Int) : Nat := (clamp g.satLow g.satHigh x).toNat

/-- A demand, 0 while the overtemp latch is set (R20). -/
def Loop.post (l : Loop) (demand : Nat) : Nat := if l.latch then 0 else demand

/-- The setpoint filter (R22): the next SPf. -/
def Loop.filtered (l : Loop) : Int :=
  let delta := trunc ((l.sp - l.spf) * (65536 - (l.cfg.a : Int))) 65536
  if delta = 0 then
    if l.spf < l.sp then l.spf + 1 else if l.sp < l.spf then l.spf - 1 else l.spf
  else l.spf + delta

/-- The derivative input y = trunc(c × SPf / 255) − PV (R24). -/
def LoopConfig.derivInput (g : LoopConfig) (spf pv : Int) : Int := trunc ((g.c : Int) * spf) 255 - pv

/-- The proportional term P = trunc(Kc × (trunc(b × SPf / 255) − PV) / 100) (R23, R36). -/
def LoopConfig.proportional (g : LoopConfig) (spf pv : Int) : Int :=
  trunc ((g.kc : Int) * (trunc ((g.b : Int) * spf) 255 - pv)) 100

/-- Stage 1, windup correction (R21). -/
def Loop.correct (l : Loop) : Loop :=
  if l.grantRound = l.usedRound then l
  else
    { l with
      integ := if 0 < l.cfg.ti then
          clampI (l.integ + trunc (((l.grant : Int) - l.uLast) * 1000 * (l.cfg.w : Int)) 65536)
        else l.integ
      usedRound := l.grantRound }

/-- Stage 4, the integral term, with the SPf of stage 2 (R23). -/
def Loop.integrate (l : Loop) (spf pv : Int) : Int :=
  clampI (if 0 < l.cfg.ti then
      l.integ + trunc ((l.cfg.kc : Int) * (spf - pv) * (l.cfg.tcyc : Int) * 100) l.cfg.ti
    else l.integ)

/-- Stage 5, the derivative term from the input `y` and the previous input `prev` (R24). -/
def Loop.differentiate (l : Loop) (y prev : Int) : Int :=
  if 0 < l.cfg.td then
    let raw := trunc ((l.cfg.kc : Int) * (l.cfg.td : Int) * (y - prev)) (1000 * (l.cfg.tcyc : Int))
    l.deriv + trunc (raw - l.deriv) l.cfg.n
  else 0

/-! ## The cycle -/

/-- The six stages of an AUTO cycle (R21 to R25). `resumed` marks the cycle that cleared the channel fault, in which
y_prev is taken equal to y (R19). -/
def Loop.autoCycle (l : Loop) (pv : Int) (resumed : Bool) : Loop :=
  let c := l.correct
  let spf := c.filtered
  let integ := c.integrate spf pv
  let y := c.cfg.derivInput spf pv
  let deriv := c.differentiate y (if resumed then y else c.yPrev)
  let u := c.cfg.proportional spf pv + trunc integ 1000 + deriv
  { c with
    spf, integ, deriv
    yPrev := y
    uLast := u
    demand := c.post (c.cfg.limit u) }

/-- A MANUAL cycle (R26). -/
def Loop.manualCycle (l : Loop) (pv : Int) : Loop :=
  let out := l.cfg.limit ((l.manOut : Int) + l.ramp)
  let spf := l.filtered
  { l with
    usedRound := l.grantRound
    manOut := out
    demand := l.post out
    uLast := out
    spf
    yPrev := l.cfg.derivInput spf pv }

/-- An OFF cycle (R27). -/
def Loop.offCycle (l : Loop) (pv : Int) : Loop :=
  { l with usedRound := l.grantRound, integ := 0, deriv := 0, yPrev := 0, uLast := 0, spf := pv, demand := 0 }

/-- A FAULT cycle (R28). -/
def Loop.faultCycle (l : Loop) : Loop := { l with chFault := true, usedRound := l.grantRound, demand := 0 }

/-- An INHIBITED cycle with the channel OK (R28). -/
def Loop.inhibitedCycle (l : Loop) (pv : Int) : Loop :=
  let spf := l.filtered
  { l with usedRound := l.grantRound, demand := 0, spf, yPrev := l.cfg.derivInput spf pv }

/-- The overtemp latch judged against the PV (R20). -/
def Loop.judgeLatch (l : Loop) (pv : Int) : Loop :=
  { l with
    latch := if l.latch then decide ((l.cfg.highLimit : Int) - l.cfg.hysteresis ≤ pv)
      else decide ((l.cfg.highLimit : Int) ≤ pv) }

/-- One cycle on the channel's reading, `none` where it is not a current measurement; the timer starts again (R18 to
R20, R25 to R28). -/
def Loop.cycle (reading : Option Int) (l : Loop) : Loop :=
  let t := { l with timer := l.cfg.tcyc }
  match reading with
  | none => t.faultCycle
  | some pv =>
    let j := { t with chFault := false }.judgeLatch pv
    match j.mode with
    | .auto => (if l.chFault then { j with usedRound := j.grantRound } else j).autoCycle pv l.chFault
    | .manual => j.manualCycle pv
    | .off => j.offCycle pv
    | .inhibited => j.inhibitedCycle pv
    | .fault => j.faultCycle

/-- A loop takes a cycle: its record, then the raise or the return of its OVERTEMP condition (R20). -/
def Part.loopCycle (n : Fin 16) (p : Part) : Part :=
  let before := p.loops.get n
  let reading := p.reading (loopChannel n)
  let after := before.cycle reading
  let q := p.setLoop n after
  if after.latch && !before.latch then
    match reading with
    | some pv => q.raise (overtempSlot n) (signed16 pv)
    | none => q
  else if before.latch && !after.latch then q.ret (overtempSlot n)
  else q

/-! ## What the owning units ask -/

/-- A setpoint held to 0 to the maximum setpoint (R31). -/
def LoopConfig.takenSetpoint (g : LoopConfig) (sp : Int) : Int := clamp 0 g.maxSetpoint sp

/-- A setpoint request (R31). -/
def Part.requestSetpoint (n : Fin 16) (sp : Int) (p : Part) : Part :=
  let l := p.loops.get n
  p.setLoop n { l with sp := l.cfg.takenSetpoint sp }

/-- An owner's OFF request (R32). -/
def Part.ownerOff (n : Fin 16) (p : Part) : Part :=
  p.setLoop n { p.loops.get n with base := .off, integ := 0, deriv := 0, yPrev := 0, uLast := 0, demand := 0 }

/-- An owner's AUTO request (R33). -/
def Part.ownerAuto (n : Fin 16) (p : Part) : Part :=
  let l := p.loops.get n
  match l.base with
  | .auto | .manual => p
  | .off =>
    let a := { l with base := .auto, integ := 0, deriv := 0, uLast := 0, usedRound := l.grantRound }
    match a.mode with
    | .auto =>
      match p.reading (loopChannel n) with
      | some pv => (p.setLoop n { a with spf := pv, yPrev := a.cfg.derivInput pv pv }).loopCycle n
      | none => (p.setLoop n a).loopCycle n
    | .off | .manual | .fault | .inhibited => p.setLoop n a

/-- An inhibit request (R34). -/
def Part.inhibitLoop (n : Fin 16) (p : Part) : Part :=
  let l := p.loops.get n
  if l.inhibit then p
  else p.setLoop n { l with inhibit := true, demand := if l.chFault then l.demand else 0 }

/-- A release request (R34). -/
def Part.releaseLoop (n : Fin 16) (p : Part) : Part :=
  let l := p.loops.get n
  if !l.inhibit then p
  else
    let r := { l with inhibit := false }
    match r.mode with
    | .auto => (p.setLoop n { r with usedRound := r.grantRound }).loopCycle n
    | .manual => p.setLoop n { r with demand := r.post r.manOut }
    | .off | .fault | .inhibited => p.setLoop n r

/-! ## Requests -/

/-- The configuration of a loop as a reply carries it, in table order; the limit hysteresis as one byte is the model's
choice (log entry 37). -/
def LoopConfig.bytes (g : LoopConfig) : List Byte :=
  u16 g.tcyc ++ u32 g.kc ++ u32 g.ti ++ u32 g.td ++ u8 g.b ++ u8 g.c ++ u8 g.n ++ u16 g.a ++ u16 g.w ++ u16 g.satLow ++
    u16 g.satHigh ++ u16 g.maxSetpoint ++ u16 g.highLimit ++ u8 g.hysteresis

/-- READ LOOP's fields, in the order of R39. D and u_last beyond 32 bits are log entry 34. -/
def Loop.bytes (l : Loop) : List Byte :=
  u8 l.mode.code ++ u8 l.base.code ++ flag l.inhibit ++ flag l.chFault ++ s16 l.sp ++ s16 l.spf ++ u16 l.demand ++
    s32 l.uLast ++ s32 l.integ ++ s32 l.deriv ++ u16 l.manOut ++ s16 l.ramp ++ u16 l.grant ++ bytes32 l.grantRound ++
    bytes32 l.usedRound ++ flag l.latch ++ l.cfg.bytes

def readLoop (loop : Byte) (p : Part) : Part × Answer :=
  match index 16 loop with
  | none => (p, { status := .range })
  | some n => (p, { status := .ok, pieces := [(p.loops.get n).bytes] })

/-- From AUTO to MANUAL (R35). -/
def Loop.toManual (l : Loop) : Loop :=
  let out := l.cfg.limit l.demand
  { l with base := .manual, manOut := out, ramp := 0, uLast := out, demand := l.post out }

/-- From MANUAL to AUTO (R36), on the channel's reading. -/
def Loop.toAuto (reading : Option Int) (l : Loop) : Loop :=
  match reading with
  | none => { l with base := .auto, chFault := true, demand := 0 }
  | some pv =>
    { l with
      base := .auto
      integ := clampI (((l.manOut : Int) - l.cfg.proportional l.spf pv - l.deriv) * 1000)
      uLast := l.manOut
      usedRound := l.grantRound }

/-- SET LOOP MODE (R35, R36). -/
def setLoopMode (loop mode : Byte) (p : Part) : Part × Answer :=
  match index 16 loop with
  | none => (p, { status := .range })
  | some n =>
    let l := p.loops.get n
    if mode = 1 then
      match l.mode with
      | .auto => (p, { status := .ok })
      | .manual => (p.setLoop n (l.toAuto (p.reading (loopChannel n))), { status := .ok })
      | .off | .fault | .inhibited => (p, { status := .state })
    else if mode = 2 then
      match l.mode with
      | .manual => (p, { status := .ok })
      | .auto => (p.setLoop n l.toManual, { status := .ok })
      | .off | .fault | .inhibited => (p, { status := .state })
    else (p, { status := .range })

/-- SET MANUAL OUTPUT (R37). -/
def setManualOutput (loop : Byte) (output ramp : Half) (p : Part) : Part × Answer :=
  match index 16 loop with
  | none => (p, { status := .range })
  | some n =>
    let l := p.loops.get n
    if within 0 1000 output.toNat && decide (-1000 ≤ ramp.toInt) && decide (ramp.toInt ≤ 1000) then
      match l.mode with
      | .manual =>
        let out := l.cfg.limit output.toNat
        let q := (p.setLoop n { l with manOut := out, ramp := ramp.toInt, uLast := out, demand := l.post out }).mark
          .loop n.val
        (q, if out = output.toNat then { status := .ok } else { status := .okTaken, pieces := [u16 out] })
      | .off | .auto | .fault | .inhibited => (p, { status := .state })
    else (p, { status := .range })

/-- SET LOOP SETPOINT (R31). -/
def setLoopSetpoint (loop : Byte) (setpoint : Half) (p : Part) : Part × Answer :=
  match index 16 loop with
  | none => (p, { status := .range })
  | some n =>
    let taken := (p.loops.get n).cfg.takenSetpoint setpoint.toInt
    (p.requestSetpoint n setpoint.toInt,
      if taken = setpoint.toInt then { status := .ok } else { status := .okTaken, pieces := [s16 taken] })

/-- The configuration that a CONFIGURE LOOP carries, where it is one (R38): every field in range, and the low limit below
the high limit. -/
def loopConfigOf (f : LoopFields) : Option LoopConfig :=
  if within 10 600 f.tcyc.toNat && within 1 99999 f.kc.toNat && within 0 99999 f.ti.toNat &&
      within 0 99999 f.td.toNat && within 1 255 f.n.toNat && within 1 65535 f.w.toNat && within 0 999 f.satLow.toNat &&
      within 1 1000 f.satHigh.toNat && within 0 4000 f.maxSetpoint.toNat && within 0 4000 f.highLimit.toNat &&
      within 0 200 f.hysteresis.toNat && decide (f.satLow.toNat < f.satHigh.toNat) then
    some
      { tcyc := f.tcyc.toNat, kc := f.kc.toNat, ti := f.ti.toNat, td := f.td.toNat, b := f.b.toNat, c := f.c.toNat,
        n := f.n.toNat, a := f.a.toNat, w := f.w.toNat, satLow := f.satLow.toNat, satHigh := f.satHigh.toNat,
        maxSetpoint := f.maxSetpoint.toNat, highLimit := f.highLimit.toNat, hysteresis := f.hysteresis.toNat }
  else none

/-- A loop under a new configuration (R38). -/
def Loop.configured (g : LoopConfig) (l : Loop) : Loop :=
  let m := { l with
    cfg := g
    timer := g.tcyc
    sp := if (g.maxSetpoint : Int) < l.sp then g.maxSetpoint else l.sp
    manOut := g.limit l.manOut }
  match m.mode with
  | .manual => { m with demand := m.post m.manOut }
  | .auto => { m with demand := m.post (g.limit m.uLast) }
  | .off | .fault | .inhibited => m

/-- CONFIGURE LOOP (R38). -/
def configureLoop (loop : Byte) (f : LoopFields) (p : Part) : Part × Answer :=
  match index 16 loop, loopConfigOf f with
  | some n, some g => ((p.setLoop n ((p.loops.get n).configured g)).mark .loop n.val, { status := .ok })
  | _, _ => (p, { status := .range })

/-! ## Warm restart (R42) -/

def Loop.restarted (l : Loop) : Loop := { cfg := l.cfg, manOut := l.cfg.satLow, timer := l.cfg.tcyc }

/-- The loops take their restart values, each marked. -/
def Part.restartLoops (p : Part) : Part :=
  (List.finRange 16).foldl (fun q n => q.mark .loop n.val) { p with loops := p.loops.map Loop.restarted }

/-! ## Commands -/

def execReadLoop (tag loop : Byte) (s : State) : Host.Outcome State Fault Refusal :=
  .next (s.answer 0x20 tag (readLoop loop s.part))

def execSetLoopMode (tag loop mode : Byte) (s : State) : Host.Outcome State Fault Refusal :=
  .next (s.answer 0x21 tag (setLoopMode loop mode s.part))

def execSetManualOutput (tag loop : Byte) (output ramp : Half) (s : State) : Host.Outcome State Fault Refusal :=
  .next (s.answer 0x22 tag (setManualOutput loop output ramp s.part))

def execSetLoopSetpoint (tag loop : Byte) (setpoint : Half) (s : State) : Host.Outcome State Fault Refusal :=
  .next (s.answer 0x23 tag (setLoopSetpoint loop setpoint s.part))

def execConfigureLoop (tag loop : Byte) (f : LoopFields) (s : State) : Host.Outcome State Fault Refusal :=
  .next (s.answer 0x24 tag (configureLoop loop f s.part))

/-- LOOP_CYCLE: a loop's timer runs out (R18). -/
def execLoopCycle (loop : Fin 16) (s : State) : Host.Outcome State Fault Refusal :=
  .next (s.event (s.part.loopCycle loop))

end Sys2Proof.Machine
end

