-- ==== Sys2Proof/Machine/Cabinets.lean ====
section
/-!
DEFINITION. Cabinet records and the plate stock table (chapter 5): derived counts, mode changes, the wave table's
notices to a cabinet, and the evaluation of PLATES_LOW.
-/

namespace Sys2Proof.Machine

/-! ## Derived counts (sections 5.1 and 5.3) -/

/-- The sum of the counts of the batches. -/
def heldIn (batches : List Batch) : Nat := (batches.map Batch.count).sum

/-- A batch is ready while its dwell is at or above the warm time (R86). -/
def Batch.isReady (warmTime : Nat) (b : Batch) : Bool := decide (warmTime ≤ b.dwell)

def Cabinet.held (c : Cabinet) : Nat := heldIn c.batches

def Cabinet.ready (c : Cabinet) : Nat := heldIn (c.batches.filter (Batch.isReady c.warmTime))

/-- The loop and heater of a cabinet (00_scope.md, section 7). -/
def cabinetLoop (c : Fin 8) : Fin 16 := ⟨c.val + 6, by omega⟩

/-- The channel of a cabinet (R85). -/
def cabinetChannel (c : Fin 8) : Fin 23 := ⟨c.val + 12, by omega⟩

/-! ## Records -/

/-- What a change of which marks the cabinet (R97): mode, wave slot, wave-set flag, the batches with their counts, and
the ready count. -/
def Cabinet.shown (c : Cabinet) : CabinetMode × Option (Fin 12) × Bool × List Nat × Nat :=
  (c.mode, c.waveSlot, c.waveSet, c.batches.map Batch.count, c.ready)

/-- A cabinet record replaced, marked where R97 has it marked. -/
def Part.setCabinet (n : Fin 8) (c : Cabinet) (p : Part) : Part :=
  let q := { p with cabinets := p.cabinets.set n c }
  if c.shown = (p.cabinets.get n).shown then q else q.mark .cabinet n.val

/-- The stock counts of a kind replaced, marked where one of them changes (R97). -/
def Part.setStock (kind : Fin 4) (s : Stock) (p : Part) : Part :=
  if s = p.stock.get kind then p else { p with stock := p.stock.set kind s }.mark .stock kind.val

/-- The plates of a kind held in cabinets (R87, R96). -/
def Part.heldOfKind (kind : Fin 4) (p : Part) : Nat :=
  (p.cabinets.items.map fun c => if c.kind = kind then c.held else 0).sum

/-! ## Modes (R82) -/

/-- The heater class of a cabinet mode (section 5.2). -/
def CabinetMode.heaterClass : CabinetMode → HeaterClass
  | .off | .standby => .standby
  | .service => .service

def CabinetMode.code : CabinetMode → Nat
  | .off => 0
  | .standby => 1
  | .service => 2

/-- The loop requests of a cabinet's new mode: OFF, or the setpoint and then AUTO (R82). -/
def Part.runCabinetLoop (n : Fin 8) (mode : CabinetMode) (p : Part) : Part :=
  let c := p.cabinets.get n
  match mode with
  | .off => p.ownerOff (cabinetLoop n)
  | .standby => (p.requestSetpoint (cabinetLoop n) c.standbySp).ownerAuto (cabinetLoop n)
  | .service => (p.requestSetpoint (cabinetLoop n) c.serviceSp).ownerAuto (cabinetLoop n)

/-- A cabinet's mode takes a value, with its effects where it is a new one; `waveSet` is what the wave-set flag becomes
(R82, R83). -/
def Part.changeMode (n : Fin 8) (mode : CabinetMode) (waveSet : Bool) (p : Part) : Part :=
  let c := p.cabinets.get n
  let q := p.setCabinet n { c with mode, waveSet }
  if mode = c.mode then q
  else (q.runCabinetLoop n mode).classNotice (cabinetLoop n) mode.heaterClass

/-! ## PLATES_LOW (R95) -/

/-- The wave in a slot stands in SERVING. -/
def Part.isServing (w : Fin 12) (p : Part) : Bool :=
  match p.waves.get w with
  | some wave => decide (wave.state = .serving)
  | none => false

/-- PLATES_LOW evaluated for a cabinet. -/
def Part.evaluateLow (n : Fin 8) (p : Part) : Part :=
  let c := p.cabinets.get n
  match c.waveSlot with
  | some w =>
    if p.isServing w && decide (c.ready < c.lowMark) then p.trigger (.cabinet n) (BitVec.ofNat 16 c.ready) else p
  | none => p

/-! ## Notices of the wave table (R83) -/

def Part.holdNotice (w : Fin 12) (n : Fin 8) (p : Part) : Part :=
  p.setCabinet n { p.cabinets.get n with waveSlot := some w }

def Part.serviceNotice (n : Fin 8) (p : Part) : Part :=
  match (p.cabinets.get n).mode with
  | .off | .standby => p.changeMode n .service true
  | .service => p

/-- A serving notice: none to the record, PLATES_LOW is evaluated. -/
def Part.servingNotice (n : Fin 8) (p : Part) : Part := p.evaluateLow n

def Part.releaseNotice (n : Fin 8) (p : Part) : Part :=
  let c := p.cabinets.get n
  let q := p.setCabinet n { c with waveSlot := none }
  if c.waveSet && decide (c.mode = .service) then q.changeMode n .standby false
  else q.setCabinet n { q.cabinets.get n with waveSet := false }

/-! ## Warm restart (R99) -/

/-- A cabinet takes its restart values: one that was in SERVICE sends its class notice. -/
def Part.restartCabinet (n : Fin 8) (p : Part) : Part :=
  let c := p.cabinets.get n
  let q := p.setCabinet n { c with mode := .off, waveSlot := none, waveSet := false }
  if c.mode = .service then q.classNotice (cabinetLoop n) .standby else q

def Part.restartCabinets (p : Part) : Part := (List.finRange 8).foldl (fun q n => q.restartCabinet n) p

end Sys2Proof.Machine
end

