-- ==== Sys2Proof/Machine/Waves.lean ====
section
/-!
DEFINITION. Service waves (chapter 7): the judgement of a wave with its actions, the notices of the other units, and
the requests CREATE, AMEND, RELEASE, CLOSE, DELETE, READ WAVE and READ WAVES.
-/

namespace Sys2Proof.Machine

/-! ## Records -/

/-- The state codes of section 7.1, EMPTY being 0. -/
def WaveState.code : WaveState → Nat
  | .planned => 1
  | .preparing => 2
  | .ready => 3
  | .late => 4
  | .serving => 5
  | .closed => 6

/-- What a change of which marks the wave (R142). -/
def Wave.shown (v : Wave) : WaveState × Nat × Bool × Bool × Bool := (v.state, v.issued, v.readyLate, v.short, v.late)

/-- A wave slot replaced, marked where R142 has it marked. -/
def Part.setWave (w : Fin 12) (v : Option Wave) (p : Part) : Part :=
  let q := { p with waves := p.waves.set w v }
  if v.map Wave.shown = (p.waves.get w).map Wave.shown then q else q.mark .wave w.val

/-- The parameter of WAVE_READY and WAVE_LATE: ballroom code times 256 plus wave number (R134, R135). -/
def Wave.param (v : Wave) : Half := BitVec.ofNat 16 (v.ballroom * 256 + v.number.toNat)

/-- The heater of an oven (00_scope.md, section 7). -/
def ovenLoop (oven : Fin 6) : Fin 16 := ⟨oven.val, by omega⟩

/-- A wave that holds its cabinets and ovens: PLANNED, PREPARING, READY, LATE or SERVING (R128). -/
def Wave.holds (v : Wave) : Bool := decide (v.state ≠ .closed)

/-! ## Figures of a wave (R133, R134) -/

/-- The potential: the held counts of the listed cabinets, plus the clean count of the kind. -/
def Part.potential (v : Wave) (p : Part) : Nat :=
  (v.cabinets.map fun n => (p.cabinets.get n).held).sum + (p.stock.get v.kind).clean

/-- The need: the covers less the issued count, not below 0. -/
def Wave.need (v : Wave) : Nat := v.covers - v.issued

/-- The added ready counts of the listed cabinets. -/
def Part.waveReady (v : Wave) (p : Part) : Nat := (v.cabinets.map fun n => (p.cabinets.get n).ready).sum

/-- An oven stands in HOLDING or FINISHED. -/
def Oven.isDone (o : Oven) : Bool :=
  match o.state with
  | .holding | .finished => true
  | .idle | .preheating | .loadWait | .cooking => false

/-- The number of listed ovens standing in HOLDING or FINISHED. -/
def Part.ovensDone (v : Wave) (p : Part) : Nat := (v.ovens.filter fun n => (p.ovens.get n).isDone).length

/-- The wave is ready (R134). -/
def Part.isReady (v : Wave) (p : Part) : Bool :=
  v.ovens.all (fun n => (p.ovens.get n).isDone) && decide (v.covers ≤ p.waveReady v)

/-! ## The actions of a judgement -/

/-- Something done to the wave in a slot; an EMPTY slot is left as it is. -/
def Part.onWave (w : Fin 12) (f : Wave → Part → Part) (p : Part) : Part :=
  match p.waves.get w with
  | some v => f v p
  | none => p

/-- The plate check (R133). -/
def Part.plateCheck (w : Fin 12) (p : Part) : Part :=
  p.onWave w fun v p =>
    if v.short then
      if v.need ≤ p.potential v then (p.setWave w (some { v with short := false })).ret (platesShortSlot w) else p
    else if p.potential v < v.need then
      (p.setWave w (some { v with short := true })).raise (platesShortSlot w)
        (BitVec.ofNat 16 (v.need - p.potential v))
    else p

/-- A class notice for the heater of each listed oven, in list order. -/
def Part.ovenClasses (v : Wave) (c : HeaterClass) (p : Part) : Part :=
  v.ovens.foldl (fun q n => q.classNotice (ovenLoop n) c) p

/-- The wave enters PREPARING (R132). -/
def Part.enterPreparing (w : Fin 12) (v : Wave) (p : Part) : Part :=
  let q := p.setWave w (some { v with state := .preparing })
  ((v.cabinets.foldl (fun q n => q.serviceNotice n) q).ovenClasses v .service).plateCheck w

/-- The wave enters READY (R134). -/
def Part.enterReady (w : Fin 12) (v : Wave) (p : Part) : Part :=
  let q := p.setWave w
    (some { v with state := .ready, readyLate := v.readyLate || decide (v.state = .late), late := false })
  (if v.late then q.ret (waveLateSlot w) else q).trigger (.wave w) v.param

/-- The wave enters LATE (R135). -/
def Part.enterLate (w : Fin 12) (v : Wave) (p : Part) : Part :=
  (p.setWave w (some { v with state := .late, late := true })).raise (waveLateSlot w) v.param

/-- Step (1) of R130. -/
def Part.judgePlanned (w : Fin 12) (p : Part) : Part :=
  p.onWave w fun v p => if v.state = .planned && decide (v.due ≤ v.lead) then p.enterPreparing w v else p

/-- Readiness judged, the second half of step (2) of R130. -/
def Part.judgeReadiness (w : Fin 12) (p : Part) : Part :=
  p.onWave w fun v p => if p.isReady v then p.enterReady w v else p

/-- Step (2) of R130. -/
def Part.judgePreparing (w : Fin 12) (p : Part) : Part :=
  p.onWave w fun v p =>
    match v.state with
    | .preparing | .late => (p.plateCheck w).judgeReadiness w
    | .planned | .ready | .serving | .closed => p

/-- Step (3) of R130. -/
def Part.judgeDue (w : Fin 12) (p : Part) : Part :=
  p.onWave w fun v p => if v.state = .preparing && decide (v.due = 0) then p.enterLate w v else p

/-- Step (4) of R130. -/
def Part.judgeStanding (w : Fin 12) (p : Part) : Part :=
  p.onWave w fun v p =>
    match v.state with
    | .ready | .serving => p.plateCheck w
    | .planned | .preparing | .late | .closed => p

/-- The wave in a slot is judged (R130). -/
def Part.judgeWave (w : Fin 12) (p : Part) : Part :=
  (((p.judgePlanned w).judgePreparing w).judgeDue w).judgeStanding w

/-- The wave closes (R139). -/
def Part.closeWave (w : Fin 12) (v : Wave) (p : Part) : Part :=
  let closed := p.setWave w (some { v with state := .closed })
  let released := v.cabinets.foldl (fun q n => q.releaseNotice n) closed
  let classed := if v.state = .planned then released else released.ovenClasses v .standby
  let unshort :=
    if v.short then
      (classed.setWave w (some { v with state := .closed, short := false })).ret (platesShortSlot w)
    else classed
  let unlate :=
    if v.late then
      (unshort.setWave w (some { v with state := .closed, short := false, late := false })).ret (waveLateSlot w)
    else unshort
  unlate.cancelNotice (.wave w)

/-! ## Notices of the other units (R141) -/

/-- The slots taken in ascending order. -/
def Part.eachSlot (f : Fin 12 → Part → Part) (p : Part) : Part :=
  (List.finRange 12).foldl (fun q w => f w q) p

/-- An oven state notice. -/
def Part.ovenNotice (oven : Fin 6) (p : Part) : Part :=
  p.eachSlot fun w q => q.onWave w fun v r =>
    match v.state with
    | .preparing | .late => if oven ∈ v.ovens then r.judgeWave w else r
    | .planned | .ready | .serving | .closed => r

/-- A plate notice. -/
def Part.plateNotice (kind : Fin 4) (p : Part) : Part :=
  p.eachSlot fun w q => q.onWave w fun v r =>
    match v.state with
    | .preparing | .late | .ready | .serving => if v.kind = kind then r.judgeWave w else r
    | .planned | .closed => r

/-- An issue notice (R138). -/
def Part.issueNotice (w : Fin 12) (count : Nat) (p : Part) : Part :=
  p.onWave w fun v p =>
    if v.state = .serving then
      ((p.setWave w (some { v with issued := min 65535 (v.issued + count) })).judgeWave w).onWave w
        fun v q => if v.covers ≤ v.issued then q.closeWave w v else q
    else p

/-! ## The countdown (R131) -/

/-- A wave in a state that takes countdown ticks. -/
def Wave.counts (v : Wave) : Bool :=
  match v.state with
  | .planned | .preparing | .ready | .late => true
  | .serving | .closed => false

def Part.countdownTick (w : Fin 12) (p : Part) : Part :=
  p.onWave w fun v p =>
    if v.counts then (p.setWave w (some { v with due := v.due - 1 })).judgeWave w else p

/-! ## Requests -/

/-- The bytes of a list as indexes below `n`, where every one of them is. -/
def indexes (n : Nat) : List Byte → Option (List (Fin n))
  | [] => some []
  | b :: rest =>
    match index n b, indexes n rest with
    | some i, some is => some (i :: is)
    | _, _ => none

/-- A cabinet or oven is listed in a wave that holds it (R128). -/
def Part.listed (cabinets : List (Fin 8)) (ovens : List (Fin 6)) (p : Part) : Bool :=
  p.waves.items.any fun slot =>
    match slot with
    | some v => v.holds && (v.cabinets.any (cabinets.contains ·) || v.ovens.any (ovens.contains ·))
    | none => false

/-- The wave number is held by a slot that is not EMPTY. -/
def Part.numberHeld (number : Byte) (p : Part) : Bool :=
  p.waves.items.any fun slot =>
    match slot with
    | some v => decide (v.number = number)
    | none => false

/-- The EMPTY slot with the lowest number (R129). -/
def Part.lowestEmpty (p : Part) : Option (Fin 12) := (List.finRange 12).find? fun w => (p.waves.get w).isNone

/-- The wave of a CREATE, where every field is in its range (R128, first check). -/
def waveOf (f : CreateFields) : Option Wave :=
  match index 4 f.kind, indexes 8 f.cabinets, indexes 6 f.ovens with
  | some kind, some cabinets, some ovens =>
    if f.number ≠ 0 ∧ f.ballroom.toNat ≤ 15 ∧ within 1 3000 f.covers.toNat ∧ within 1 4 cabinets.length ∧
        ovens.length ≤ 6 ∧ cabinets.Nodup ∧ ovens.Nodup ∧ f.due.toNat ≤ 86400 ∧ f.lead.toNat ≤ 7200 then
      some
        { number := f.number, ballroom := f.ballroom.toNat, covers := f.covers.toNat, kind, cabinets, ovens,
          due := f.due.toNat, lead := f.lead.toNat }
    else none
  | _, _, _ => none

/-- The state code that stands in a slot. -/
def Part.slotCode (w : Fin 12) (p : Part) : Nat :=
  match p.waves.get w with
  | some v => v.state.code
  | none => 0

/-- A wave created in a slot: the hold notices, then the judgement (R129). -/
def Part.createWave (w : Fin 12) (v : Wave) (p : Part) : Part :=
  (v.cabinets.foldl (fun q n => q.holdNotice w n) (p.setWave w (some v))).judgeWave w

/-- CREATE (R128, R129). -/
def create (f : CreateFields) (p : Part) : Part × Answer :=
  match waveOf f with
  | none => (p, { status := .range })
  | some v =>
    if v.cabinets.any fun n => decide ((p.cabinets.get n).kind ≠ v.kind) then (p, { status := .range })
    else if p.numberHeld v.number then (p, { status := .conflict })
    else if p.listed v.cabinets v.ovens then (p, { status := .conflict })
    else
      match p.lowestEmpty with
      | none => (p, { status := .full })
      | some w =>
        let q := p.createWave w v
        (q, { status := .ok, pieces := [u8 w.val ++ u8 (q.slotCode w)] })

/-- What the slot and wave number of a request name (R127). -/
inductive Named where
  | refused (status : Status)
  | wave (w : Fin 12) (v : Wave)
deriving DecidableEq, Repr

/-- The judgement of R127. -/
def Part.named (slot number : Byte) (p : Part) : Named :=
  match index 12 slot with
  | none => .refused .range
  | some w =>
    if number = 0 then .refused .range
    else
      match p.waves.get w with
      | none => .refused .state
      | some v => if v.number = number then .wave w v else .refused .conflict

/-- A wave as an AMEND leaves it before the judgement (R136). -/
def Wave.amended (covers due lead : Nat) (v : Wave) : Wave :=
  let putBack := decide (v.state = .late) && decide (0 < due)
  { v with
    covers, due, lead
    state := if putBack then .preparing else v.state
    late := if putBack then false else v.late }

/-- AMEND (R136). -/
def amend (slot number : Byte) (covers : Half) (due : Word) (lead : Half) (p : Part) : Part × Answer :=
  match p.named slot number with
  | .refused status => (p, { status })
  | .wave w v =>
    if within 1 3000 covers.toNat && decide (due.toNat ≤ 86400) && decide (lead.toNat ≤ 7200) then
      match v.state with
      | .planned | .preparing | .late =>
        let a := v.amended covers.toNat due.toNat lead.toNat
        let set := (p.setWave w (some a)).mark .wave w.val
        let returned := if v.late && !a.late then set.ret (waveLateSlot w) else set
        let q := returned.judgeWave w
        (q, { status := .ok, pieces := [u8 (q.slotCode w)] })
      | .ready | .serving | .closed => (p, { status := .state })
    else (p, { status := .range })

/-- RELEASE (R137). -/
def release (slot number : Byte) (p : Part) : Part × Answer :=
  match p.named slot number with
  | .refused status => (p, { status })
  | .wave w v =>
    match v.state with
    | .ready | .late =>
      let served := v.cabinets.foldl (fun q n => q.servingNotice n) (p.setWave w (some { v with state := .serving }))
      (served.judgeWave w, { status := .ok })
    | .planned | .preparing | .serving | .closed => (p, { status := .state })

/-- CLOSE (R139). It is refused for a CLOSED wave, but for one that an issue notice has closed in the command before: the
two arrived together, and "the reply to CLOSE is OK in both cases" (log entry 41). -/
def close (slot number : Byte) (p : Part) : Part × Answer :=
  match p.named slot number with
  | .refused status => (p, { status })
  | .wave w v =>
    match v.state with
    | .planned | .preparing | .ready | .late | .serving => (p.closeWave w v, { status := .ok })
    | .closed => (p, { status := if p.justClosed = some w then .ok else .state })

/-- DELETE (R140). -/
def delete (slot number : Byte) (p : Part) : Part × Answer :=
  match p.named slot number with
  | .refused status => (p, { status })
  | .wave w v =>
    match v.state with
    | .planned =>
      ((v.cabinets.foldl (fun q n => q.releaseNotice n) p).setWave w none, { status := .ok })
    | .closed => (p.setWave w none, { status := .ok })
    | .preparing | .ready | .late | .serving => (p, { status := .state })

/-- READ WAVE's fields: the record, then the figures (R142). -/
def Part.waveBytes (v : Wave) (p : Part) : List Byte :=
  u8 v.state.code ++ [v.number] ++ u8 v.ballroom ++ u16 v.covers ++ u8 v.kind.val ++ u8 v.cabinets.length ++
    v.cabinets.flatMap (fun n => u8 n.val) ++ u8 v.ovens.length ++ v.ovens.flatMap (fun n => u8 n.val) ++ u32 v.due ++
    u16 v.lead ++ u16 v.issued ++ flag v.readyLate ++ flag v.short ++ flag v.late ++ u32 (p.potential v) ++
    u16 v.need ++ u16 (p.waveReady v) ++ u8 (p.ovensDone v)

def readWave (slot number : Byte) (p : Part) : Part × Answer :=
  match p.named slot number with
  | .refused status => (p, { status })
  | .wave _ v => (p, { status := .ok, pieces := [p.waveBytes v] })

/-- READ WAVES' fields of one slot: the state, then number, ballroom code and countdown or their absence (R142). -/
def slotBytes (slot : Option Wave) : List Byte :=
  u8 (match slot with | some v => v.state.code | none => 0) ++ optField 1 (fun v : Wave => [v.number]) slot ++
    optField 1 (fun v : Wave => u8 v.ballroom) slot ++ optField 4 (fun v : Wave => u32 v.due) slot

def readWaves (p : Part) : Part × Answer := (p, { status := .ok, pieces := p.waves.items.map slotBytes })

/-! ## Warm restart (R143) -/

/-- A slot becomes EMPTY, the ovens of a wave that held their class becoming STANDBY. -/
def Part.restartWave (w : Fin 12) (p : Part) : Part :=
  p.onWave w fun v p =>
    let q := p.setWave w none
    match v.state with
    | .preparing | .ready | .late | .serving => q.ovenClasses v .standby
    | .planned | .closed => q

def Part.restartWaves (p : Part) : Part := p.eachSlot Part.restartWave

/-! ## Commands -/

def execCreate (tag : Byte) (f : CreateFields) (s : State) : Host.Outcome State Fault Refusal :=
  .next (s.answer 0x70 tag (create f s.part))

def execAmend (tag slot number : Byte) (covers : Half) (due : Word) (lead : Half) (s : State) :
    Host.Outcome State Fault Refusal :=
  .next (s.answer 0x71 tag (amend slot number covers due lead s.part))

def execRelease (tag slot number : Byte) (s : State) : Host.Outcome State Fault Refusal :=
  .next (s.answer 0x72 tag (release slot number s.part))

def execClose (tag slot number : Byte) (s : State) : Host.Outcome State Fault Refusal :=
  .next (s.answer 0x73 tag (close slot number s.part))

def execDelete (tag slot number : Byte) (s : State) : Host.Outcome State Fault Refusal :=
  .next (s.answer 0x74 tag (delete slot number s.part))

def execReadWave (tag slot number : Byte) (s : State) : Host.Outcome State Fault Refusal :=
  .next (s.answer 0x75 tag (readWave slot number s.part))

def execReadWaves (tag : Byte) (s : State) : Host.Outcome State Fault Refusal :=
  .next (s.answer 0x76 tag (readWaves s.part))

/-- COUNTDOWN_TICK: a second of a wave's countdown (R131). -/
def execCountdownTick (slot : Fin 12) (s : State) : Host.Outcome State Fault Refusal :=
  .next (s.event (s.part.countdownTick slot))

end Sys2Proof.Machine
end

