-- ==== Sys2Proof/Machine/Plates.lean ====
section
/-!
DEFINITION. Plate warmers and plate stock (chapter 5): the plate moves of the host and of the dish tunnel unit, the warm
tick, and the requests of the chapter.
-/

namespace Sys2Proof.Machine

/-! ## Batches -/

/-- Plates taken from the oldest batch first: a batch emptied leaves the list, a partly taken one keeps its dwell and
load uptime (R88). -/
def takeOldest : Nat → List Batch → List Batch
  | _, [] => []
  | n, b :: rest => if b.count ≤ n then takeOldest (n - b.count) rest else { b with count := b.count - n } :: rest

/-- How many of the plates taken come from batches that are not ready (R90). -/
def takenNotReady (warmTime : Nat) : Nat → List Batch → Nat
  | _, [] => 0
  | n, b :: rest =>
    (if b.isReady warmTime then 0 else min n b.count) +
      (if b.count ≤ n then takenNotReady warmTime (n - b.count) rest else 0)

/-- Plates loaded: a new batch at the newest end, or the newest of 8 takes them and starts its dwell again (R89). -/
def loadBatch (now : Word) (count : Nat) (batches : List Batch) : List Batch :=
  if batches.length < 8 then batches ++ [{ count, load := now, dwell := 0 }]
  else
    match batches.getLast? with
    | none => batches
    | some newest => batches.dropLast ++ [{ count := newest.count + count, load := now, dwell := 0 }]

/-- A warm second: every dwell increases by 1, saturating (R85). -/
def Batch.dwelt (b : Batch) : Batch := { b with dwell := min 65535 (b.dwell + 1) }

/-! ## After a move (R94, R95) -/

/-- The notices after a move that changed a cabinet's batches: the plate notice, then PLATES_LOW. -/
def Part.cabinetMoved (n : Fin 8) (p : Part) : Part := (p.plateNotice (p.cabinets.get n).kind).evaluateLow n

/-- The answer to a plate move: the counts moved and not moved, behind the taken value where the move was clamped (R87,
R188). -/
def moveAnswer (asked moved : Nat) (more : List Byte) : Answer :=
  let fields := u16 moved ++ u16 (asked - moved) ++ more
  if moved = asked then { status := .ok, pieces := [fields] }
  else { status := .okTaken, pieces := [u16 moved ++ fields] }

/-! ## Moves asked for by the host (R88 to R91) -/

/-- STOCK ADD (R88). -/
def stockAdd (kind : Byte) (count : Half) (p : Part) : Part × Answer :=
  match index 4 kind with
  | none => (p, { status := .range })
  | some k =>
    let s := p.stock.get k
    if count = 0 ∨ 65535 < s.total + count.toNat then (p, { status := .range })
    else
      ((p.setStock k { s with total := s.total + count.toNat, clean := s.clean + count.toNat }).plateNotice k,
        moveAnswer count.toNat count.toNat [])

/-- A location that WRITE OFF names (R192). -/
inductive Place where
  | cabinet (n : Fin 8)
  | soiled
  | clean
  | issued
deriving DecidableEq, Repr

def placeOf (location : Byte) : Option Place :=
  match index 8 location with
  | some n => some (.cabinet n)
  | none => if location = 8 then some .soiled else if location = 9 then some .clean
    else if location = 10 then some .issued else none

/-- Plates of a kind that a location holds. -/
def Part.heldAt (kind : Fin 4) (place : Place) (p : Part) : Nat :=
  match place with
  | .cabinet n => (p.cabinets.get n).held
  | .soiled => (p.stock.get kind).soiled
  | .clean => (p.stock.get kind).clean
  | .issued => (p.stock.get kind).issued

/-- Plates taken from a cabinet's oldest batches. -/
def Part.takeFromCabinet (n : Fin 8) (count : Nat) (p : Part) : Part :=
  let c := p.cabinets.get n
  p.setCabinet n { c with batches := takeOldest count c.batches }

/-- Plates written off: the location and the total each decrease (R88). -/
def Part.writeOffAt (kind : Fin 4) (place : Place) (count : Nat) (p : Part) : Part :=
  let s := p.stock.get kind
  match place with
  | .cabinet n => ((p.takeFromCabinet n count).setStock kind { s with total := s.total - count }).cabinetMoved n
  | .soiled => (p.setStock kind { s with total := s.total - count, soiled := s.soiled - count }).plateNotice kind
  | .clean => (p.setStock kind { s with total := s.total - count, clean := s.clean - count }).plateNotice kind
  | .issued => (p.setStock kind { s with total := s.total - count, issued := s.issued - count }).plateNotice kind

/-- A cabinet whose plate kind is not the one carried. -/
def Part.wrongCabinet (kind : Fin 4) (place : Place) (p : Part) : Bool :=
  match place with
  | .cabinet n => decide ((p.cabinets.get n).kind ≠ kind)
  | .soiled | .clean | .issued => false

/-- WRITE OFF (R88). -/
def writeOff (kind location : Byte) (count : Half) (p : Part) : Part × Answer :=
  match index 4 kind, placeOf location with
  | some k, some place =>
    if count = 0 ∨ p.wrongCabinet k place then (p, { status := .range })
    else
      let moved := min count.toNat (p.heldAt k place)
      (if moved = 0 then p else p.writeOffAt k place moved, moveAnswer count.toNat moved [])
  | _, _ => (p, { status := .range })

/-- Plates moved from clean into a cabinet (R89). -/
def Part.loadCabinet (n : Fin 8) (count : Nat) (p : Part) : Part :=
  let c := p.cabinets.get n
  let s := p.stock.get c.kind
  ((p.setStock c.kind { s with clean := s.clean - count }).setCabinet n
    { c with batches := loadBatch p.uptime count c.batches }).cabinetMoved n

/-- LOAD (R89). -/
def load (cabinet : Byte) (count : Half) (p : Part) : Part × Answer :=
  match index 8 cabinet with
  | none => (p, { status := .range })
  | some n =>
    if count = 0 then (p, { status := .range })
    else if p.interlock.trip then (p, { status := .tripped })
    else
      let c := p.cabinets.get n
      let moved := min count.toNat (min (p.stock.get c.kind).clean (c.capacity - c.held))
      (if moved = 0 then p else p.loadCabinet n moved, moveAnswer count.toNat moved [])

/-- Plates issued from a cabinet: the move, the issue notice where its wave is serving, then the plate notice and
PLATES_LOW (R90, R94, R95). -/
def Part.issueFrom (n : Fin 8) (count : Nat) (p : Part) : Part :=
  let c := p.cabinets.get n
  let s := p.stock.get c.kind
  let moved := (p.takeFromCabinet n count).setStock c.kind { s with issued := s.issued + count }
  let noticed :=
    match c.waveSlot with
    | some w => if p.isServing w then moved.issueNotice w count else moved
    | none => moved
  noticed.cabinetMoved n

/-- ISSUE (R90). -/
def issue (cabinet : Byte) (count : Half) (p : Part) : Part × Answer :=
  match index 8 cabinet with
  | none => (p, { status := .range })
  | some n =>
    if count = 0 then (p, { status := .range })
    else
      let c := p.cabinets.get n
      let moved := min count.toNat c.held
      (if moved = 0 then p else p.issueFrom n moved,
        moveAnswer count.toNat moved (u16 (takenNotReady c.warmTime moved c.batches)))

/-- Plates moved from a cabinet back to clean (R91). -/
def Part.unloadFrom (n : Fin 8) (count : Nat) (p : Part) : Part :=
  let c := p.cabinets.get n
  let s := p.stock.get c.kind
  ((p.takeFromCabinet n count).setStock c.kind { s with clean := s.clean + count }).cabinetMoved n

/-- UNLOAD PLATES (R91). -/
def unloadPlates (cabinet : Byte) (count : Half) (p : Part) : Part × Answer :=
  match index 8 cabinet with
  | none => (p, { status := .range })
  | some n =>
    if count = 0 then (p, { status := .range })
    else
      let moved := min count.toNat (p.cabinets.get n).held
      (if moved = 0 then p else p.unloadFrom n moved, moveAnswer count.toNat moved [])

/-- RETURN (R91). -/
def returnPlates (kind : Byte) (count : Half) (p : Part) : Part × Answer :=
  match index 4 kind with
  | none => (p, { status := .range })
  | some k =>
    if count = 0 then (p, { status := .range })
    else
      let s := p.stock.get k
      let moved := min count.toNat s.issued
      (if moved = 0 then p
        else (p.setStock k { s with issued := s.issued - moved, soiled := s.soiled + moved }).plateNotice k,
        moveAnswer count.toNat moved [])

/-! ## Moves asked for by the dish tunnel unit (R92, R93) -/

/-- The plates that a rack entry move takes: none for a rack of kind NONE (R92). -/
def Part.entryCount (kind : Option (Fin 4)) (declared : Nat) (p : Part) : Nat :=
  match kind with
  | none => 0
  | some k => min declared (p.stock.get k).soiled

/-- A rack entry move of `count` plates, from soiled to tunnel (R92). -/
def Part.rackEntryMove (kind : Option (Fin 4)) (count : Nat) (p : Part) : Part :=
  match kind with
  | none => p
  | some k =>
    if count = 0 then p
    else
      let s := p.stock.get k
      (p.setStock k { s with soiled := s.soiled - count, tunnel := s.tunnel + count }).plateNotice k

/-- The stock counts after a rack exit move: to clean where the rack PASSED, to soiled otherwise (R93). -/
def Stock.afterExit (outcome : RackOutcome) (count : Nat) (s : Stock) : Stock :=
  match outcome with
  | .passed => { s with tunnel := s.tunnel - count, clean := s.clean + count }
  | .failedDose | .failedWash | .lost | .unverified =>
    { s with tunnel := s.tunnel - count, soiled := s.soiled + count }

/-- A rack exit move. `notice` is false at a warm restart, at which the unit sends no plate notice (R93, R99). -/
def Part.rackExitMove (kind : Option (Fin 4)) (count : Nat) (outcome : RackOutcome) (notice : Bool) (p : Part) : Part :=
  match kind with
  | none => p
  | some k =>
    if count = 0 then p
    else
      let q := p.setStock k ((p.stock.get k).afterExit outcome count)
      if notice then q.plateNotice k else q

/-! ## Configuration, modes, ticks and reads -/

/-- The configuration that a CONFIGURE CABINET carries, given to a record, where every field is in range (R81). -/
def Cabinet.configured (f : CabinetFields) (c : Cabinet) : Option Cabinet :=
  match index 4 f.kind with
  | none => none
  | some kind =>
    if within 1 300 f.capacity.toNat && within 0 4000 f.standbySp.toNat && within 0 4000 f.serviceSp.toNat &&
        within 0 4000 f.readyTemp.toNat && within 60 5400 f.warmTime.toNat && within 0 300 f.lowMark.toNat then
      some { c with
        kind, capacity := f.capacity.toNat, standbySp := f.standbySp.toNat, serviceSp := f.serviceSp.toNat,
        readyTemp := f.readyTemp.toNat, warmTime := f.warmTime.toNat, lowMark := f.lowMark.toNat }
    else none

/-- A changed setpoint of the mode that the cabinet stands in is asked for (R81). -/
def Part.trimCabinetLoop (n : Fin 8) (before after : Cabinet) (p : Part) : Part :=
  match after.mode with
  | .off => p
  | .standby =>
    if after.standbySp = before.standbySp then p else p.requestSetpoint (cabinetLoop n) after.standbySp
  | .service =>
    if after.serviceSp = before.serviceSp then p else p.requestSetpoint (cabinetLoop n) after.serviceSp

/-- The notices after a change of readiness alone: the plate notice where the ready count changed (R94). -/
def Part.readinessNotice (before after : Cabinet) (p : Part) : Part :=
  if after.ready = before.ready then p else p.plateNotice after.kind

/-- CONFIGURE CABINET (R81, R94, R95). -/
def configureCabinet (cabinet : Byte) (f : CabinetFields) (p : Part) : Part × Answer :=
  match index 8 cabinet with
  | none => (p, { status := .range })
  | some n =>
    let before := p.cabinets.get n
    match before.configured f with
    | none => (p, { status := .range })
    | some after =>
      if before.batches ≠ [] ∧ (after.kind ≠ before.kind ∨ after.capacity ≠ before.capacity) then
        (p, { status := .state })
      else if after.kind ≠ before.kind ∧ before.waveSlot.isSome then (p, { status := .state })
      else
        let stored := (p.setCabinet n after).mark .cabinet n.val
        (((stored.trimCabinetLoop n before after).readinessNotice before after).evaluateLow n, { status := .ok })

/-- The mode a byte names. -/
def cabinetModeOf (b : Byte) : Option CabinetMode :=
  if b = 0 then some .off else if b = 1 then some .standby else if b = 2 then some .service else none

/-- SET CABINET MODE (R82). -/
def setCabinetMode (cabinet mode : Byte) (p : Part) : Part × Answer :=
  match index 8 cabinet, cabinetModeOf mode with
  | some n, some m => (p.changeMode n m false, { status := .ok })
  | _, _ => (p, { status := .range })

/-- A warm tick (R85, R86, R94, R95). -/
def Part.warmTick (n : Fin 8) (p : Part) : Part :=
  let before := p.cabinets.get n
  if before.batches ≠ [] ∧ p.readsAtLeast (cabinetChannel n) before.readyTemp then
    let after := { before with batches := before.batches.map Batch.dwelt }
    let q := p.setCabinet n after
    if after.ready = before.ready then q else (q.plateNotice after.kind).evaluateLow n
  else p

/-- READ CABINET's fields ahead of the batches (R96). -/
def Cabinet.bytes (c : Cabinet) : List Byte :=
  u8 c.kind.val ++ u16 c.capacity ++ u16 c.standbySp ++ u16 c.serviceSp ++ u16 c.readyTemp ++ u16 c.warmTime ++
    u16 c.lowMark ++ u8 c.mode.code ++ optField 1 (fun w : Fin 12 => u8 w.val) c.waveSlot ++ flag c.waveSet ++
    u16 c.held ++ u16 c.ready

def Batch.bytes (warmTime : Nat) (b : Batch) : List Byte :=
  u16 b.count ++ bytes32 b.load ++ u16 b.dwell ++ flag (b.isReady warmTime)

def readCabinet (cabinet : Byte) (p : Part) : Part × Answer :=
  match index 8 cabinet with
  | none => (p, { status := .range })
  | some n =>
    let c := p.cabinets.get n
    (p, { status := .ok, pieces := c.bytes :: listPieces (c.batches.map (Batch.bytes c.warmTime)) })

/-- READ STOCK's fields (R96). -/
def readStock (kind : Byte) (p : Part) : Part × Answer :=
  match index 4 kind with
  | none => (p, { status := .range })
  | some k =>
    let s := p.stock.get k
    (p, { status := .ok, pieces :=
      [u16 s.total ++ u16 s.soiled ++ u16 s.tunnel ++ u16 s.clean ++ u16 s.issued ++ u16 (p.heldOfKind k)] })

/-! ## Commands -/

def execConfigureCabinet (tag cabinet : Byte) (f : CabinetFields) (s : State) : Host.Outcome State Fault Refusal :=
  .next (s.answer 0x50 tag (configureCabinet cabinet f s.part))

def execSetCabinetMode (tag cabinet mode : Byte) (s : State) : Host.Outcome State Fault Refusal :=
  .next (s.answer 0x51 tag (setCabinetMode cabinet mode s.part))

def execStockAdd (tag kind : Byte) (count : Half) (s : State) : Host.Outcome State Fault Refusal :=
  .next (s.answer 0x52 tag (stockAdd kind count s.part))

def execWriteOff (tag kind location : Byte) (count : Half) (s : State) : Host.Outcome State Fault Refusal :=
  .next (s.answer 0x53 tag (writeOff kind location count s.part))

def execLoad (tag cabinet : Byte) (count : Half) (s : State) : Host.Outcome State Fault Refusal :=
  .next (s.answer 0x54 tag (load cabinet count s.part))

def execIssue (tag cabinet : Byte) (count : Half) (s : State) : Host.Outcome State Fault Refusal :=
  .next (s.answer 0x55 tag (issue cabinet count s.part))

def execUnloadPlates (tag cabinet : Byte) (count : Half) (s : State) : Host.Outcome State Fault Refusal :=
  .next (s.answer 0x56 tag (unloadPlates cabinet count s.part))

def execReturnPlates (tag kind : Byte) (count : Half) (s : State) : Host.Outcome State Fault Refusal :=
  .next (s.answer 0x57 tag (returnPlates kind count s.part))

def execReadCabinet (tag cabinet : Byte) (s : State) : Host.Outcome State Fault Refusal :=
  .next (s.answer 0x58 tag (readCabinet cabinet s.part))

def execReadStock (tag kind : Byte) (s : State) : Host.Outcome State Fault Refusal :=
  .next (s.answer 0x59 tag (readStock kind s.part))

/-- WARM_TICK: a second of a cabinet's dwell (R85). -/
def execWarmTick (cabinet : Fin 8) (s : State) : Host.Outcome State Fault Refusal :=
  .next (s.event (s.part.warmTick cabinet))

end Sys2Proof.Machine
end

