-- ==== Sys2Proof/Machine/Dish.lean ====
section
/-!
DEFINITION. The dish tunnel (chapter 6): racks and their removal, the gate and the valve, the states of the tunnel, the
encoder pulse, the two edges, the sample notices, and the requests of the chapter.
-/

namespace Sys2Proof.Machine

/-! ## Codes (R194) -/

def DishState.code : DishState → Nat
  | .off => 0
  | .warming => 1
  | .ready => 2
  | .running => 3
  | .held => 4

def RackOutcome.code : RackOutcome → Nat
  | .passed => 0
  | .failedDose => 1
  | .failedWash => 2
  | .lost => 3
  | .unverified => 4

/-! ## Records -/

/-- What a change of which marks the dish (R124); the numbers of the racks stand for the membership of the queue. -/
structure DishShown where
  state      : DishState
  reasons    : HoldReasons
  tankWarm   : Bool
  boosterHot : Bool
  washCold   : Bool
  rinseFail  : Bool
  conveyor   : Bool
  gateOpen   : Bool
  valveOpen  : Bool
  declared   : List Declaration
  racks      : List Half
deriving DecidableEq

def Dish.shown (d : Dish) : DishShown :=
  { state := d.state, reasons := d.reasons, tankWarm := d.tankWarm, boosterHot := d.boosterHot, washCold := d.washCold,
    rinseFail := d.rinseFail, conveyor := d.conveyor, gateOpen := d.gateOpen, valveOpen := d.valveOpen,
    declared := d.declared, racks := d.queue.map Rack.number }

/-- The dish record replaced, its class and the ring's marked where R124 has them marked. -/
def Part.setDish (d : Dish) (p : Part) : Part :=
  let q := { p with dish := d }
  let shown := if d.shown = p.dish.shown then q else q.mark .dish 0
  if d.ring = p.dish.ring ∧ d.overwrites = p.dish.overwrites then shown else shown.mark .ring 0

/-! ## Zones, the gate and the valve -/

/-- A rack's centre, its position less 250, lies in a zone, both ends included (R101). -/
def Rack.centreIn (start stop : Nat) (r : Rack) : Bool :=
  decide (start + 250 ≤ r.position) && decide (r.position ≤ stop + 250)

/-- The terms of the entry gate (R111). -/
def Part.gateTerms (p : Part) : Bool :=
  decide (p.dish.state = .running) && decide (p.dish.queue.length < 12) && p.dish.tankWarm && p.dish.boosterHot &&
    !p.dish.rinseFail && !p.interlock.trip

/-- The entry gate judged anew (R111). -/
def Part.judgeGate (p : Part) : Part := p.setDish { p.dish with gateOpen := p.gateTerms }

/-- The terms of the rinse valve (R116). -/
def Dish.valveTerms (d : Dish) : Bool :=
  decide (d.state = .running) && d.queue.any (Rack.centreIn d.cfg.rinseStart d.cfg.rinseEnd)

/-- The rinse valve opened or closed, with its notice where that changes it (R116). -/
def Part.setValve (isOpen : Bool) (p : Part) : Part :=
  if isOpen = p.dish.valveOpen then p else (p.setDish { p.dish with valveOpen := isOpen }).valveNotice isOpen

/-- The rinse valve judged anew (R116). -/
def Part.judgeValve (p : Part) : Part := p.setValve p.dish.valveTerms

/-! ## The ring and removals (R102, R103) -/

/-- A record joins the ring, overwriting the oldest of 64 (R103). -/
def Dish.appendRing (r : Rack) (d : Dish) : Dish :=
  if d.ring.length < 64 then { d with ring := d.ring ++ [r] }
  else { d with ring := d.ring.drop 1 ++ [r], overwrites := min 65535 (d.overwrites + 1) }

/-- The outcomes that raise RINSE_FAIL (R102). -/
def RackOutcome.failedRinse : RackOutcome → Bool
  | .failedDose | .failedWash => true
  | .passed | .lost | .unverified => false

/-- RINSE_FAIL raised for a rack, with the unit's copy set (R102, step (3)). -/
def Part.rinseFailed (number : Half) (p : Part) : Part :=
  let q := p.raise rinseFailSlot number
  q.setDish { q.dish with rinseFail := true }

/-- The oldest rack removed with an outcome (R102). `notice` is false at a warm restart (R99). -/
def Part.removeOldest (outcome : RackOutcome) (notice : Bool) (p : Part) : Part :=
  match p.dish.queue with
  | [] => p
  | r :: rest =>
    let record := { r with outcome := some outcome, removal := some p.uptime }
    let left := p.setDish ({ p.dish with queue := rest }.appendRing record)
    let moved := left.rackExitMove r.kind r.count outcome notice
    (if outcome.failedRinse then moved.rinseFailed r.number else moved).judgeGate.judgeValve

/-- The oldest `n` racks removed as UNVERIFIED, each whole (R102). -/
def Part.removeUnverified (notice : Bool) : Nat → Part → Part
  | 0, p => p
  | n + 1, p => (p.removeOldest .unverified notice).removeUnverified notice n

/-- Every rack removed as UNVERIFIED, oldest first. -/
def Part.clearTunnel (notice : Bool) (p : Part) : Part := p.removeUnverified notice p.dish.queue.length

/-! ## Loops of the tunnel (section 6.1) -/

/-- Both loops asked for their setpoints, then for AUTO (R105). -/
def Part.dishLoopsAuto (p : Part) : Part :=
  (((p.requestSetpoint 14 p.dish.cfg.washSp).requestSetpoint 15 p.dish.cfg.boosterSp).ownerAuto 14).ownerAuto 15

def Part.dishLoopsOff (p : Part) : Part := (p.ownerOff 14).ownerOff 15

/-- The tunnel's loops are in AUTO by the state (section 6.1). -/
def Dish.loopsInAuto (d : Dish) : Bool :=
  match d.state with
  | .warming | .ready | .running => true
  | .held => !d.reasons.trip
  | .off => false

/-! ## Holds (R108, R109) -/

def HoldReasons.isEmpty (r : HoldReasons) : Bool := !r.door && !r.overload && !r.lost && !r.trip

/-- Conveyor off, gate closed, cold timer 0, then the valve closed with its notice: what every way out of RUNNING does
(R107, R108, R110). -/
def Part.stopTunnel (state : DishState) (reasons : HoldReasons) (p : Part) : Part :=
  (p.setDish { p.dish with state, reasons, conveyor := false, gateOpen := false, coldTimer := 0 }).setValve false

/-- A hold: HELD with the reason alone, or the reason joining those of a HELD tunnel (R108, R119, R121). -/
def Part.holdTunnel (join : HoldReasons → HoldReasons) (p : Part) : Part :=
  match p.dish.state with
  | .held => p.setDish { p.dish with reasons := join p.dish.reasons }
  | .warming | .ready | .running => p.stopTunnel .held (join {})
  | .off => p

/-- A hold that a line brings: it enters HELD from RUNNING alone (R108). -/
def Part.lineHold (join : HoldReasons → HoldReasons) (p : Part) : Part :=
  match p.dish.state with
  | .running | .held => p.holdTunnel join
  | .off | .warming | .ready => p

/-- A reason leaves; a set that becomes empty ends the hold (R109). -/
def Part.endHold (leave : HoldReasons → HoldReasons) (p : Part) : Part :=
  match p.dish.state with
  | .held =>
    let reasons := leave p.dish.reasons
    if reasons = p.dish.reasons then p
    else if reasons.isEmpty then (p.setDish { p.dish with reasons, state := .ready }).judgeGate.judgeValve
    else p.setDish { p.dish with reasons }
  | .off | .warming | .ready | .running => p

/-- A filtered DISH_DOOR change (R108). -/
def Part.dishDoor (isOpen : Bool) (p : Part) : Part :=
  if isOpen then p.lineHold fun r => { r with door := true } else p.endHold fun r => { r with door := false }

/-- A filtered CONVEYOR_OVERLOAD change, as the tunnel takes it (R108). -/
def Part.dishOverload (asserted : Bool) (p : Part) : Part :=
  if asserted then p.lineHold fun r => { r with overload := true }
  else p.endHold fun r => { r with overload := false }

/-- An acknowledgement report (R120). -/
def Part.ackReport (slot : Fin 87) (p : Part) : Part :=
  if slot = rinseFailSlot then (p.setDish { p.dish with rinseFail := false }).judgeGate
  else if slot = rackLostSlot then p.endHold fun r => { r with lost := false }
  else p

/-! ## Trip (R121) -/

def Part.tripTunnel (p : Part) : Part :=
  if p.dish.state = .off then p
  else
    let cleared := p.clearTunnel true
    let reasons := if cleared.dish.state = .held then cleared.dish.reasons else {}
    (cleared.stopTunnel .held { reasons with trip := true }).dishLoopsOff

/-- The end of the trip state. -/
def Part.tripTunnelExit (p : Part) : Part :=
  if p.dish.state = .held && p.dish.reasons.trip then
    let reasons := { p.dish.reasons with trip := false }
    let left := (p.setDish { p.dish with reasons }).dishLoopsAuto
    if reasons.isEmpty then (left.setDish { left.dish with state := .ready }).judgeGate.judgeValve else left
  else p

/-! ## Pulses, edges, checks and notices -/

/-- Every position advances by 1, saturating (R101). -/
def Rack.advanced (r : Rack) : Rack := { r with position := min 65535 (r.position + 1) }

/-- The oldest rack lost, where it lies beyond the window (R119). -/
def Part.checkLost (p : Part) : Part :=
  match p.dish.queue with
  | [] => p
  | r :: _ =>
    if p.dish.cfg.tunnelLength + p.dish.cfg.exitTolerance < r.position then
      ((p.removeOldest .lost true).raise rackLostSlot r.number).holdTunnel fun h => { h with lost := true }
    else p

/-- An encoder pulse at the tunnel: positions, the lost check, the valve (R101). -/
def Part.tunnelPulse (p : Part) : Part :=
  (p.setDish { p.dish with queue := p.dish.queue.map Rack.advanced }).checkLost.judgeValve

/-- An encoder pulse: the travel counter, then the tunnel (R180, R101). -/
def Part.encoderPulse (p : Part) : Part :=
  ({ p with interlock := { p.interlock with travel := p.interlock.travel + 1 } }).tunnelPulse

/-- A rack tracked at the entry (R113). -/
def Part.trackRack (p : Part) : Part :=
  let d := p.dish
  let number := d.rackCounter + 1
  let kind := d.declared.head?.map Declaration.kind
  let count := p.entryCount kind ((d.declared.head?.map Declaration.count).getD 0)
  let entered := p.setDish { d with
    rackCounter := number, lastEntry := some p.uptime, declared := d.declared.drop 1 }
  let moved := entered.rackEntryMove kind count
  let record : Rack :=
    { number, kind, count, entry := p.uptime, interval := d.lastEntry.map (p.uptime - ·) }
  (moved.setDish { moved.dish with queue := moved.dish.queue ++ [record] }).judgeGate

/-- A rack entry edge (R113). -/
def Part.rackEntryEdge (p : Part) : Part :=
  if p.dish.state = .off then p else if 12 ≤ p.dish.queue.length then p else p.trackRack

/-- The outcome of a rack that its exit edge matches (R118). -/
def Dish.judgeRack (r : Rack) (d : Dish) : RackOutcome :=
  if r.dose < d.cfg.dose then .failedDose
  else
    match r.washMin with
    | none => .failedWash
    | some low => if low < (d.cfg.washMin : Int) then .failedWash else .passed

/-- The exit window (R118). -/
def DishConfig.inWindow (g : DishConfig) (position : Nat) : Bool :=
  within (g.tunnelLength - g.exitTolerance) (g.tunnelLength + g.exitTolerance) position

/-- A rack exit edge (R118). -/
def Part.rackExitEdge (p : Part) : Part :=
  if p.dish.state = .off then p
  else
    match p.dish.queue with
    | [] => p.raise exitUnmatchedSlot 65535
    | r :: _ =>
      if p.dish.cfg.inWindow r.position then p.removeOldest (p.dish.judgeRack r) true
      else p.raise exitUnmatchedSlot (BitVec.ofNat 16 r.position)

/-- A temperature check (R104). -/
def Part.temperatureCheck (p : Part) : Part :=
  let d := p.dish
  let tankWarm := p.readsAtLeast 20 d.cfg.washMin
  let boosterHot := p.readsAtLeast 21 d.cfg.rinseReady
  let state := if d.state = .warming && tankWarm && boosterHot then .ready else d.state
  (p.setDish { d with tankWarm, boosterHot, state }).judgeGate

/-- WASH_COLD judged (R115). -/
def Part.judgeWashCold (p : Part) : Part :=
  let d := p.dish
  if d.tankWarm then
    let q := p.setDish { d with coldTimer := 0, washCold := false }
    if d.washCold then q.ret washColdSlot else q
  else if d.state = .running then
    let timer := min 30 (d.coldTimer + 1)
    if timer = 30 && !d.washCold then
      (p.setDish { d with coldTimer := timer, washCold := true }).raise washColdSlot
        (signed16 (p.scan.entries.get 20).value)
    else p.setDish { d with coldTimer := timer }
  else p.setDish { d with coldTimer := 0 }

/-- A rack's wash minimum after a sample in the wash zone (R114). -/
def Rack.washed (value : Int) (r : Rack) : Rack :=
  { r with washMin := some (match r.washMin with | none => value | some low => min low value) }

/-- The dose that one sample adds: max(0, trunc((min(T, 900) − 710) / 4)) (R117). -/
def doseOf (value : Int) : Nat := (trunc (min value 900 - 710) 4).toNat

/-- A rack's dose after a sample in the rinse zone (R117). -/
def Rack.rinsed (value : Int) (r : Rack) : Rack := { r with dose := min 65535 (r.dose + doseOf value) }

/-- A sample notice of channel 20 (R114). -/
def Part.washNotice (value : Int) (p : Part) : Part :=
  let d := p.dish
  if d.state = .running then
    let wash (r : Rack) := if r.centreIn d.cfg.washStart d.cfg.washEnd then r.washed value else r
    p.setDish { d with queue := d.queue.map wash }
  else p

/-- A sample notice of channel 22 (R117). -/
def Part.rinseNotice (value : Int) (p : Part) : Part :=
  let d := p.dish
  if d.valveOpen then
    let rinse (r : Rack) := if r.centreIn d.cfg.rinseStart d.cfg.rinseEnd then r.rinsed value else r
    p.setDish { d with queue := d.queue.map rinse }
  else p

/-! ## Warm restart (R126) -/

def Part.restartDish (p : Part) : Part :=
  let cleared := p.clearTunnel false
  (cleared.setDish { cleared.dish with
    state := .off, reasons := {}, conveyor := false, gateOpen := false, declared := [], lastEntry := none
    coldTimer := 0, washCold := false, rinseFail := false }).setValve false

/-! ## Requests -/

/-- The configuration that a CONFIGURE DISH carries, where it is in range (R100). -/
def dishConfigOf (f : DishFields) : Option DishConfig :=
  if within 0 4000 f.washSp.toNat && within 0 4000 f.washMin.toNat && within 0 4000 f.boosterSp.toNat &&
      within 0 4000 f.rinseReady.toNat && within 100 10000 f.dose.toNat && within 1000 6000 f.tunnelLength.toNat &&
      decide (f.washStart.toNat < f.washEnd.toNat) && decide (f.washEnd.toNat ≤ f.tunnelLength.toNat) &&
      decide (f.rinseStart.toNat < f.rinseEnd.toNat) && decide (f.rinseEnd.toNat ≤ f.tunnelLength.toNat) &&
      within 50 300 f.exitTolerance.toNat then
    some
      { washSp := f.washSp.toNat, washMin := f.washMin.toNat, boosterSp := f.boosterSp.toNat,
        rinseReady := f.rinseReady.toNat, dose := f.dose.toNat, tunnelLength := f.tunnelLength.toNat,
        washStart := f.washStart.toNat, washEnd := f.washEnd.toNat, rinseStart := f.rinseStart.toNat,
        rinseEnd := f.rinseEnd.toNat, exitTolerance := f.exitTolerance.toNat }
  else none

/-- The zone settings of two configurations agree (section 6.1). -/
def DishConfig.sameZones (a b : DishConfig) : Bool :=
  decide (a.tunnelLength = b.tunnelLength) && decide (a.washStart = b.washStart) && decide (a.washEnd = b.washEnd) &&
    decide (a.rinseStart = b.rinseStart) && decide (a.rinseEnd = b.rinseEnd) &&
    decide (a.exitTolerance = b.exitTolerance)

/-- A changed setpoint of loops in AUTO is asked for (R100). -/
def Part.trimDishLoops (before after : DishConfig) (p : Part) : Part :=
  if p.dish.loopsInAuto then
    let wash := if after.washSp = before.washSp then p else p.requestSetpoint 14 after.washSp
    if after.boosterSp = before.boosterSp then wash else wash.requestSetpoint 15 after.boosterSp
  else p

/-- CONFIGURE DISH (R100). -/
def configureDish (f : DishFields) (p : Part) : Part × Answer :=
  match dishConfigOf f with
  | none => (p, { status := .range })
  | some g =>
    if !g.sameZones p.dish.cfg && decide (p.dish.state ≠ .off) then (p, { status := .state })
    else
      (((p.setDish { p.dish with cfg := g }).mark .dish 0).trimDishLoops p.dish.cfg g, { status := .ok })

/-- DISH ON (R105). -/
def dishOn (p : Part) : Part × Answer :=
  if p.interlock.trip then (p, { status := .tripped })
  else
    match p.dish.state with
    | .off => (((p.setDish { p.dish with state := .warming }).dishLoopsAuto).judgeGate, { status := .ok })
    | .warming | .ready | .running | .held => (p, { status := .state })

/-- RUN (R106). -/
def runTunnel (p : Part) : Part × Answer :=
  if p.interlock.trip then (p, { status := .tripped })
  else if p.dish.state = .ready && !p.asserted .dishDoor && !p.asserted .conveyorOverload then
    ((p.setDish { p.dish with state := .running, conveyor := true, coldTimer := 0 }).judgeGate.judgeValve,
      { status := .ok })
  else (p, { status := .state })

/-- STOP (R107). -/
def stop (p : Part) : Part × Answer :=
  match p.dish.state with
  | .running => (p.stopTunnel .ready p.dish.reasons, { status := .ok })
  | .off | .warming | .ready | .held => (p, { status := .state })

/-- The tunnel taken to OFF (R110). -/
def Part.switchOff (p : Part) : Part :=
  let off := ((p.clearTunnel true).stopTunnel .off {}).dishLoopsOff
  let warm := off.setDish { off.dish with washCold := false }
  if off.dish.washCold then warm.ret washColdSlot else warm

/-- DISH OFF (R110). -/
def dishOff (p : Part) : Part × Answer :=
  match p.dish.state with
  | .off => (p, { status := .ok })
  | .warming | .ready | .running | .held => (p.switchOff, { status := .ok })

/-- DECLARE RACK (R112). -/
def declareRack (kind count : Byte) (p : Part) : Part × Answer :=
  match index 4 kind with
  | none => (p, { status := .range })
  | some k =>
    if !within 1 40 count.toNat then (p, { status := .range })
    else if 8 ≤ p.dish.declared.length then (p, { status := .full })
    else
      let declared := p.dish.declared ++ [{ kind := k, count := count.toNat }]
      (p.setDish { p.dish with declared }, { status := .ok, pieces := [u8 declared.length] })

/-- A rack record's fields, in the order of section 6.3. -/
def Rack.bytes (r : Rack) : List Byte :=
  bytes16 r.number ++ (match r.kind with | some k => u8 k.val | none => [0xFF]) ++ u8 r.count ++ bytes32 r.entry ++
    optField 4 bytes32 r.interval ++ u16 r.position ++ optField 2 s16 r.washMin ++ u16 r.dose ++
    optField 1 (fun o : RackOutcome => u8 o.code) r.outcome ++ optField 4 bytes32 r.removal

/-- TAKE RACKS (R122): the records, the overwrite count, the number still held. -/
def takeRacks (maximum : Byte) (p : Part) : Part × Answer :=
  if !within 1 8 maximum.toNat then (p, { status := .range })
  else
    let d := p.dish
    let left := d.ring.drop maximum.toNat
    (p.setDish { d with ring := left },
      { status := .ok, pieces := listPieces ((d.ring.take maximum.toNat).map Rack.bytes) ++
        [u16 d.overwrites ++ u8 left.length] })

/-- CLEAR RING COUNT (R122). -/
def clearRingCount (p : Part) : Part × Answer := (p.setDish { p.dish with overwrites := 0 }, { status := .ok })

/-- The configuration in table order, the fixed rack length last (R123, section 6.1). -/
def DishConfig.bytes (g : DishConfig) : List Byte :=
  u16 g.washSp ++ u16 g.washMin ++ u16 g.boosterSp ++ u16 g.rinseReady ++ u16 g.dose ++ u16 g.tunnelLength ++
    u16 g.washStart ++ u16 g.washEnd ++ u16 g.rinseStart ++ u16 g.rinseEnd ++ u16 g.exitTolerance ++ u16 500

def Declaration.bytes (d : Declaration) : List Byte := u8 d.kind.val ++ u8 d.count

/-- READ DISH's fields ahead of the declarations (R123). Gate and valve are 1 where open and 0 where closed: the model's
choice (log entry 39). -/
def Dish.bytes (d : Dish) : List Byte :=
  d.cfg.bytes ++ u8 d.state.code ++ bitSet [d.reasons.door, d.reasons.overload, d.reasons.lost, d.reasons.trip] ++
    flag d.tankWarm ++ flag d.boosterHot ++ u8 d.coldTimer ++ flag d.washCold ++ flag d.rinseFail ++ flag d.conveyor ++
    flag d.gateOpen ++ flag d.valveOpen ++ bytes16 d.rackCounter ++ optField 4 bytes32 d.lastEntry

def readDish (p : Part) : Part × Answer :=
  let d := p.dish
  (p, { status := .ok, pieces := d.bytes :: (listPieces (d.declared.map Declaration.bytes) ++
    [u8 d.queue.length ++ u8 d.ring.length ++ u16 d.overwrites]) })

/-- READ TUNNEL (R123). -/
def readTunnel (p : Part) : Part × Answer :=
  (p, { status := .ok, pieces := listPieces (p.dish.queue.map Rack.bytes) })

/-! ## Commands -/

def execConfigureDish (tag : Byte) (f : DishFields) (s : State) : Host.Outcome State Fault Refusal :=
  .next (s.answer 0x60 tag (configureDish f s.part))

def execDishOn (tag : Byte) (s : State) : Host.Outcome State Fault Refusal := .next (s.answer 0x61 tag (dishOn s.part))

def execRun (tag : Byte) (s : State) : Host.Outcome State Fault Refusal := .next (s.answer 0x62 tag (runTunnel s.part))

def execStop (tag : Byte) (s : State) : Host.Outcome State Fault Refusal := .next (s.answer 0x63 tag (stop s.part))

def execDishOff (tag : Byte) (s : State) : Host.Outcome State Fault Refusal :=
  .next (s.answer 0x64 tag (dishOff s.part))

def execDeclareRack (tag kind count : Byte) (s : State) : Host.Outcome State Fault Refusal :=
  .next (s.answer 0x65 tag (declareRack kind count s.part))

def execTakeRacks (tag maximum : Byte) (s : State) : Host.Outcome State Fault Refusal :=
  .next (s.answer 0x66 tag (takeRacks maximum s.part))

def execClearRingCount (tag : Byte) (s : State) : Host.Outcome State Fault Refusal :=
  .next (s.answer 0x67 tag (clearRingCount s.part))

def execReadDish (tag : Byte) (s : State) : Host.Outcome State Fault Refusal :=
  .next (s.answer 0x68 tag (readDish s.part))

def execReadTunnel (tag : Byte) (s : State) : Host.Outcome State Fault Refusal :=
  .next (s.answer 0x69 tag (readTunnel s.part))

/-- TEMPERATURE_CHECK: the tunnel's 250 ms timer (R104). -/
def execTemperatureCheck (s : State) : Host.Outcome State Fault Refusal := .next (s.event s.part.temperatureCheck)

/-- WASH_COLD_JUDGEMENT: a second of the cold timer (R115). -/
def execWashColdJudgement (s : State) : Host.Outcome State Fault Refusal := .next (s.event s.part.judgeWashCold)

/-- ENCODER_PULSE: one millimetre of travel (R101, R180). -/
def execEncoderPulse (s : State) : Host.Outcome State Fault Refusal := .next (s.event s.part.encoderPulse)

end Sys2Proof.Machine
end

