-- ==== Sys2Proof/Machine/Conditions.lean ====
section
/-!
DEFINITION. The requests of the condition table (chapter 8): ACKNOWLEDGE, READ CONDITION, READ CONDITIONS and READ
PENDING. What a raise and a return do stands in Flags.lean and Paging.lean.
-/

namespace Sys2Proof.Machine

def CondState.code : CondState → Nat
  | .normal => 0
  | .active => 1
  | .acked => 2
  | .returned => 3

/-- What an ACKNOWLEDGE that is taken does: the slot, the cancel notice, the report to the tunnel (R149, R150). -/
def Part.acknowledgeSlot (slot : Fin 87) (p : Part) : Part :=
  let acked := { p with desk := p.desk.setSlot slot (p.desk.conds.get slot).acknowledged }
  (acked.cancelNotice (.slot slot)).ackReport slot

/-- ACKNOWLEDGE (R149, R150). -/
def acknowledge (slot count : Byte) (p : Part) : Part × Answer :=
  match index 87 slot with
  | none => (p, { status := .range })
  | some i =>
    let c := p.desk.conds.get i
    if !c.pending then (p, { status := .state })
    else if c.count ≠ count then (p, { status := .stale, pieces := [[c.count]] })
    else (p.acknowledgeSlot i, { status := .ok, pieces := [u8 c.acknowledged.state.code] })

/-- READ CONDITION's fields, in the order of R153. -/
def Slot.bytes (i : Fin 87) (c : Slot) : List Byte :=
  u8 i.val ++ u8 (slotKind i).val ++ u8 c.state.code ++ [c.count] ++ bytes32 c.first ++ bytes32 c.last ++
    bytes16 c.param

def readCondition (slot : Byte) (p : Part) : Part × Answer :=
  match index 87 slot with
  | none => (p, { status := .range })
  | some i => (p, { status := .ok, pieces := [(p.desk.conds.get i).bytes i] })

/-- The slots of a READ CONDITIONS. -/
def slotRun (first count : Nat) : List (Fin 87) :=
  (List.finRange 87).filter fun i => decide (first ≤ i.val) && decide (i.val < first + count)

def readConditions (first count : Byte) (p : Part) : Part × Answer :=
  if count = 0 ∨ 87 < first.toNat + count.toNat then (p, { status := .range })
  else
    (p, { status := .ok, pieces :=
      listPieces ((slotRun first.toNat count.toNat).map fun i => (p.desk.conds.get i).bytes i) })

/-- The pending slots in slot order. -/
def Part.pendingSlots (p : Part) : List (Fin 87) := (List.finRange 87).filter fun i => p.isPending i

/-- READ PENDING: the number of pending slots, then number, state and occurrence count of each (R153). -/
def readPending (p : Part) : Part × Answer :=
  (p, { status := .ok, pieces := listPieces (p.pendingSlots.map fun i =>
    u8 i.val ++ u8 (p.desk.conds.get i).state.code ++ [(p.desk.conds.get i).count]) })

/-! ## Commands -/

def execAcknowledge (tag slot count : Byte) (s : State) : Host.Outcome State Fault Refusal :=
  .next (s.answer 0x80 tag (acknowledge slot count s.part))

def execReadCondition (tag slot : Byte) (s : State) : Host.Outcome State Fault Refusal :=
  .next (s.answer 0x81 tag (readCondition slot s.part))

def execReadConditions (tag first count : Byte) (s : State) : Host.Outcome State Fault Refusal :=
  .next (s.answer 0x82 tag (readConditions first count s.part))

def execReadPending (tag : Byte) (s : State) : Host.Outcome State Fault Refusal :=
  .next (s.answer 0x83 tag (readPending s.part))

end Sys2Proof.Machine
end

