-- ==== Sys2Proof/Machine/Ovens.lean ====
section
/-!
DEFINITION. Oven programs (chapter 4): the program table, the timing tick, the states of an oven with its door and the
trip, and the requests of the chapter.
-/

namespace Sys2Proof.Machine

/-! ## Steps and programs -/

def Step.setpoint : Step → Nat
  | .timed setpoint _ => setpoint
  | .core setpoint _ _ => setpoint

def Step.duration : Step → Nat
  | .timed _ duration => duration
  | .core _ duration _ => duration

/-- The present step of an oven: steps are numbered from 1 (section 4.1). -/
def Oven.presentStep (o : Oven) (g : Program) : Option Step := if o.step = 0 then none else g.steps[o.step - 1]?

/-- The core channel of an oven (R71). -/
def coreChannel (oven : Fin 6) : Fin 23 := ⟨oven.val + 6, by omega⟩

/-- The cavity channel of an oven (R64). -/
def cavityChannel (oven : Fin 6) : Fin 23 := ⟨oven.val, by omega⟩

/-! ## Codes (R194) -/

def OvenState.code : OvenState → Nat
  | .idle => 0
  | .preheating => 1
  | .loadWait => 2
  | .cooking => 3
  | .holding => 4
  | .finished => 5

def StepEnd.code : StepEnd → Nat
  | .none => 0
  | .timed => 1
  | .coreTarget => 2
  | .coreLimit => 3
  | .coreFallback => 4

def OvenOutcome.code : OvenOutcome → Nat
  | .none => 0
  | .done => 1
  | .aborted => 2
  | .tripped => 3

/-! ## Records -/

/-- What a change of which marks the oven (R78). -/
def Oven.shown (o : Oven) : OvenState × Fin 16 × Nat × StepEnd × Bool × OvenOutcome :=
  (o.state, o.program, o.step, o.stepEnd, o.doorOpen, o.outcome)

/-- An oven record replaced, marked where R78 has it marked. -/
def Part.setOven (n : Fin 6) (o : Oven) (p : Part) : Part :=
  let q := { p with ovens := p.ovens.set n o }
  if o.shown = (p.ovens.get n).shown then q else q.mark .oven n.val

/-- What follows a change of state: the cancel notice on leaving HOLDING or FINISHED, then the state notice (R75). -/
def Part.ovenChanged (n : Fin 6) (before : Oven) (p : Part) : Part :=
  (if before.isDone then p.cancelNotice (.oven n) else p).ovenNotice n

/-! ## The timing tick (R64, R67, R69 to R72) -/

/-- The oven is at temperature for a setpoint (R64). -/
def Part.atTemperature (n : Fin 6) (setpoint : Nat) (p : Part) : Bool :=
  let o := p.ovens.get n
  !o.doorOpen && p.readsAtLeast (cavityChannel n) ((setpoint : Int) - (p.programs.get o.program).band)

/-- How a step ends at a tick that leaves its elapsed time at `elapsed`, where it ends (R70, R71). -/
def stepEndOf (step : Step) (elapsed : Nat) (core : Option Int) : Option StepEnd :=
  match step with
  | .timed _ duration => if duration ≤ elapsed then some .timed else none
  | .core _ duration target =>
    match core with
    | some value =>
      if (target : Int) ≤ value then some .coreTarget else if duration ≤ elapsed then some .coreLimit else none
    | none => if duration ≤ elapsed then some .coreFallback else none

/-- The last step completes (R72). -/
def Part.programDone (n : Fin 6) (before o : Oven) (p : Part) : Part :=
  let hold := (p.programs.get o.program).hold
  let after :=
    if 0 < hold then
      (p.setOven n { o with state := .holding, outcome := .done }).requestSetpoint (ovenLoop n) hold
    else (p.setOven n { o with state := .finished, outcome := .done }).ownerOff (ovenLoop n)
  (after.trigger (.oven n) (BitVec.ofNat 16 o.program.val)).ovenChanged n before

/-- A step completes: the next one begins, or the program is done (R70, R72). -/
def Part.stepComplete (n : Fin 6) (before o : Oven) (p : Part) : Part :=
  match (p.programs.get o.program).steps[o.step]? with
  | some next =>
    (p.setOven n { o with step := o.step + 1, elapsed := 0 }).requestSetpoint (ovenLoop n) next.setpoint
  | none => p.programDone n before o

/-- The tick of an oven in COOKING (R69). -/
def Part.cookingTick (n : Fin 6) (o : Oven) (step : Step) (p : Part) : Part :=
  let elapsed := if p.atTemperature n step.setpoint then o.elapsed + 1 else o.elapsed
  match stepEndOf step elapsed (p.reading (coreChannel n)) with
  | none => p.setOven n { o with elapsed }
  | some how => p.stepComplete n o { o with elapsed, stepEnd := how }

/-- A timing tick (R64). An oven in another state takes none. -/
def Part.ovenTick (n : Fin 6) (p : Part) : Part :=
  let o := p.ovens.get n
  match o.presentStep (p.programs.get o.program) with
  | none => p
  | some step =>
    match o.state with
    | .preheating =>
      if p.atTemperature n step.setpoint then (p.setOven n { o with state := .loadWait }).ovenChanged n o else p
    | .cooking => p.cookingTick n o step
    | .idle | .loadWait | .holding | .finished => p

/-! ## Doors and ends of runs (R73 to R77) -/

/-- A filtered OVEN_DOOR change (R76). -/
def Part.ovenDoor (n : Fin 6) (isOpen : Bool) (p : Part) : Part :=
  let o := p.ovens.get n
  let q := p.setOven n { o with doorOpen := isOpen }
  if o.state = .idle then q
  else if isOpen then q.inhibitLoop (ovenLoop n)
  else q.releaseLoop (ovenLoop n)

/-- A run ends in IDLE: the record, the loop's OFF where it is asked for, the release where the door is open, and the
notices. -/
def Part.endRun (n : Fin 6) (outcome : OvenOutcome) (askOff : Bool) (p : Part) : Part :=
  let o := p.ovens.get n
  let idle := p.setOven n { o with state := .idle, outcome }
  let off := if askOff then idle.ownerOff (ovenLoop n) else idle
  (if o.doorOpen then off.releaseLoop (ovenLoop n) else off).ovenChanged n o

/-- The ovens at trip entry (R77). -/
def Part.tripOvens (p : Part) : Part :=
  (List.finRange 6).foldl
    (fun q n => if (q.ovens.get n).state = .idle then q else q.endRun n .tripped true) p

/-- An oven's warm restart (R80). -/
def Oven.restarted (o : Oven) : Oven :=
  match o.state with
  | .preheating | .loadWait | .cooking | .holding => { o with state := .idle, outcome := .aborted }
  | .finished | .idle => { o with state := .idle }

def Part.restartOvens (p : Part) : Part :=
  (List.finRange 6).foldl (fun q n => q.setOven n (q.ovens.get n).restarted) p

/-! ## Requests -/

/-- A step in range (R62); a TIMED step's core target is stored as absent (R194). -/
def stepOf (s : WireStep) : Option Step :=
  if 4000 < s.setpoint.toNat then none
  else if s.kind = 0 then
    if within 1 14400 s.duration.toNat then some (.timed s.setpoint.toNat s.duration.toNat) else none
  else if s.kind = 1 then
    if within 60 14400 s.duration.toNat && decide (s.coreTarget.toNat ≤ 4000) then
      some (.core s.setpoint.toNat s.duration.toNat s.coreTarget.toNat)
    else none
  else none

/-- The steps carried, where every one is in range. -/
def stepsOf : List WireStep → Option (List Step)
  | [] => some []
  | s :: rest =>
    match stepOf s, stepsOf rest with
    | some step, some steps => some (step :: steps)
    | _, _ => none

/-- An oven is running a program (R63). -/
def Oven.runs (program : Fin 16) (o : Oven) : Bool :=
  decide (o.program = program) &&
    match o.state with
    | .preheating | .loadWait | .cooking | .holding => true
    | .idle | .finished => false

/-- The number of ovens that are running a program. -/
def Part.running (program : Fin 16) (p : Part) : Nat := (p.ovens.items.filter (Oven.runs program)).length

/-- The record that a STORE PROGRAM carries, where every field is in range (R62). -/
def programOf (stepCount : Byte) (hold band : Half) (steps : List WireStep) : Option Program :=
  if stepCount.toNat ≤ 8 && decide (steps.length = stepCount.toNat) && decide (hold.toNat ≤ 4000) &&
      decide (band.toNat ≤ 500) then
    match stepsOf steps with
    | some list => some { steps := list, hold := hold.toNat, band := band.toNat }
    | none => none
  else none

/-- STORE PROGRAM (R62, R63). -/
def storeProgram (program stepCount : Byte) (hold band : Half) (steps : List WireStep) (p : Part) : Part × Answer :=
  match index 16 program, programOf stepCount hold band steps with
  | some n, some g =>
    if 0 < p.running n then (p, { status := .busy })
    else ({ p with programs := p.programs.set n g }.mark .program n.val, { status := .ok })
  | _, _ => (p, { status := .range })

def Step.bytes : Step → List Byte
  | .timed setpoint duration => u8 0 ++ u16 setpoint ++ u16 duration ++ u16 0
  | .core setpoint duration target => u8 1 ++ u16 setpoint ++ u16 duration ++ u16 target

/-- READ PROGRAM (R63). -/
def readProgram (program : Byte) (p : Part) : Part × Answer :=
  match index 16 program with
  | none => (p, { status := .range })
  | some n =>
    let g := p.programs.get n
    (p, { status := .ok, pieces :=
      listPieces (g.steps.map Step.bytes) ++ [u16 g.hold ++ u16 g.band ++ u8 (p.running n)] })

/-- A START PROGRAM that is taken (R66): the record, the loop, the state. -/
def Part.startOven (n : Fin 6) (g : Fin 16) (first : Step) (p : Part) : Part :=
  let before := p.ovens.get n
  let o := { before with program := g, step := 1, elapsed := 0, stepEnd := .none, start := p.uptime }
  let asked := (p.setOven n o).requestSetpoint (ovenLoop n) first.setpoint
  let inhibited := if o.doorOpen then asked.inhibitLoop (ovenLoop n) else asked
  ((inhibited.ownerAuto (ovenLoop n)).setOven n { o with state := .preheating }).ovenChanged n before

/-- START PROGRAM (R65, R66). -/
def startProgram (oven program : Byte) (p : Part) : Part × Answer :=
  match index 6 oven, index 16 program with
  | some n, some g =>
    match (p.ovens.get n).state with
    | .preheating | .loadWait | .cooking | .holding => (p, { status := .busy })
    | .idle | .finished =>
      match (p.programs.get g).steps with
      | [] => (p, { status := .empty })
      | first :: _ =>
        if p.isPending (probeSlot (cavityChannel n)) || p.isPending (overtempSlot (ovenLoop n)) then
          (p, { status := .faultPending })
        else if p.interlock.trip then (p, { status := .tripped })
        else (p.startOven n g first, { status := .ok })
  | _, _ => (p, { status := .range })

/-- FOOD LOADED (R68). -/
def foodLoaded (oven : Byte) (p : Part) : Part × Answer :=
  match index 6 oven with
  | none => (p, { status := .range })
  | some n =>
    let o := p.ovens.get n
    match o.state with
    | .loadWait => ((p.setOven n { o with state := .cooking }).ovenChanged n o, { status := .ok })
    | .idle | .preheating | .cooking | .holding | .finished => (p, { status := .state })

/-- UNLOAD (R73). -/
def unload (oven : Byte) (p : Part) : Part × Answer :=
  match index 6 oven with
  | none => (p, { status := .range })
  | some n =>
    let o := p.ovens.get n
    match o.state with
    | .holding => (p.endRun n o.outcome true, { status := .ok })
    | .finished => (p.endRun n o.outcome false, { status := .ok })
    | .idle | .preheating | .loadWait | .cooking => (p, { status := .state })

/-- ABORT (R74). -/
def abort (oven : Byte) (p : Part) : Part × Answer :=
  match index 6 oven with
  | none => (p, { status := .range })
  | some n =>
    match (p.ovens.get n).state with
    | .idle => (p, { status := .state })
    | .preheating | .loadWait | .cooking | .holding | .finished => (p.endRun n .aborted true, { status := .ok })

/-- The setpoint and the core target that READ OVEN carries beside the record, in PREHEATING and COOKING (R78). -/
def Oven.shownStep (o : Oven) (g : Program) : Option Nat × Option Nat :=
  match o.state, o.presentStep g with
  | .preheating, some (.timed setpoint _) | .cooking, some (.timed setpoint _) => (some setpoint, none)
  | .preheating, some (.core setpoint _ target) | .cooking, some (.core setpoint _ target) =>
    (some setpoint, some target)
  | _, _ => (none, none)

/-- READ OVEN (R78). -/
def readOven (oven : Byte) (p : Part) : Part × Answer :=
  match index 6 oven with
  | none => (p, { status := .range })
  | some n =>
    let o := p.ovens.get n
    let shown := o.shownStep (p.programs.get o.program)
    (p, { status := .ok, pieces :=
      [u8 o.state.code ++ u8 o.program.val ++ u8 o.step ++ u16 o.elapsed ++ u8 o.stepEnd.code ++
        flag (!o.doorOpen) ++ bytes32 o.start ++ u8 o.outcome.code ++ optField 2 u16 shown.1 ++ optField 2 u16 shown.2] })

/-! ## Commands -/

def execStoreProgram (tag program stepCount : Byte) (hold band : Half) (steps : List WireStep) (s : State) :
    Host.Outcome State Fault Refusal :=
  .next (s.answer 0x40 tag (storeProgram program stepCount hold band steps s.part))

def execReadProgram (tag program : Byte) (s : State) : Host.Outcome State Fault Refusal :=
  .next (s.answer 0x41 tag (readProgram program s.part))

def execStartProgram (tag oven program : Byte) (s : State) : Host.Outcome State Fault Refusal :=
  .next (s.answer 0x42 tag (startProgram oven program s.part))

def execFoodLoaded (tag oven : Byte) (s : State) : Host.Outcome State Fault Refusal :=
  .next (s.answer 0x43 tag (foodLoaded oven s.part))

def execUnload (tag oven : Byte) (s : State) : Host.Outcome State Fault Refusal :=
  .next (s.answer 0x44 tag (unload oven s.part))

def execAbort (tag oven : Byte) (s : State) : Host.Outcome State Fault Refusal :=
  .next (s.answer 0x45 tag (abort oven s.part))

def execReadOven (tag oven : Byte) (s : State) : Host.Outcome State Fault Refusal :=
  .next (s.answer 0x46 tag (readOven oven s.part))

/-- OVEN_TIMING_TICK: a second of an oven's program (R64). -/
def execOvenTimingTick (oven : Fin 6) (s : State) : Host.Outcome State Fault Refusal :=
  .next (s.event (s.part.ovenTick oven))

end Sys2Proof.Machine
end

