-- ==== Sys2Proof/Machine/Interlocks.lean ====
section
/-!
DEFINITION. Interlock lines and the trip state (chapter 10): the stability timers, the change notices, trip entry, CLEAR
TRIP and READ INTERLOCKS.
-/

namespace Sys2Proof.Machine

/-! ## Stability timers (R177) -/

/-- A line at a raw level: the timer starts when the level comes to differ from the filtered state, and is dropped when
it returns. A level that does not change leaves the line as it is. -/
def LineState.atLevel (raw : Bool) (l : LineState) : LineState :=
  if raw = l.raw then l else { l with raw, timing := decide (raw ≠ l.filtered) }

/-- A line whose timer has run out: the filtered state takes the raw level. -/
def LineState.settled (l : LineState) : LineState := { l with filtered := l.raw, timing := false }

def Part.line (line : Line) (p : Part) : LineState := p.interlock.lines.get (lineIndex line)

def Part.setLine (line : Line) (l : LineState) (p : Part) : Part :=
  { p with interlock := { p.interlock with lines := p.interlock.lines.set (lineIndex line) l } }

/-- RAW_LINE_CHANGE. -/
def Part.rawLine (line : Line) (raw : Bool) (p : Part) : Part := p.setLine line ((p.line line).atLevel raw)

/-! ## The trip state (R181 to R183) -/

/-- Trip entry: the flag, the drive enable, and the blocks' reactions (R181, R55, R77, R121). -/
def Part.enterTrip (p : Part) : Part :=
  ((({ p with interlock := { p.interlock with trip := true, driveEnable := false } }).cutGrants).tripOvens).tripTunnel

/-- HOOD_TRIP asserted (R181). -/
def Part.hoodAsserted (p : Part) : Part :=
  let raised := p.raise hoodTripSlot 0
  if raised.interlock.trip then raised else raised.enterTrip

/-- Trip exit: the flag, the drive enable, the return, and the tunnel's reaction (R183, R121). -/
def Part.leaveTrip (p : Part) : Part :=
  (({ p with interlock := { p.interlock with trip := false, driveEnable := true } }).ret hoodTripSlot).tripTunnelExit

/-- CLEAR TRIP (R183). -/
def clearTrip (p : Part) : Part × Answer :=
  if !p.interlock.trip || p.asserted .hoodTrip then (p, { status := .state }) else (p.leaveTrip, { status := .ok })

/-! ## Change notices (R177 to R180) -/

/-- CONVEYOR_OVERLOAD changed: the condition, then the tunnel (R179, R108). -/
def Part.overloadChange (asserted : Bool) (p : Part) : Part :=
  (if asserted then p.raise overloadSlot 0 else p.ret overloadSlot).dishOverload asserted

/-- A change of a filtered line handed to its block (table of section 10.1). -/
def Part.handOn (line : Line) (asserted : Bool) (p : Part) : Part :=
  match line with
  | .hoodTrip => if asserted then p.hoodAsserted else p
  | .ovenDoor oven => p.ovenDoor oven asserted
  | .dishDoor => p.dishDoor asserted
  | .conveyorOverload => p.overloadChange asserted
  | .feederReduce => p.reduceChange
  | .rackEntry => if asserted then p.rackEntryEdge else p
  | .rackExit => if asserted then p.rackExitEdge else p

/-- FILTER_TIMER_EXPIRY: a running timer runs out; a level that differs from the filtered state is taken and handed on
(R177). -/
def Part.filterExpiry (line : Line) (p : Part) : Part :=
  let l := p.line line
  if l.timing then
    let settled := p.setLine line l.settled
    if l.raw = l.filtered then settled else settled.handOn line l.raw
  else p

/-! ## Reads (R184) -/

/-- The heater outputs at the pins: the burst outputs through the heater drive enable (R181, section 10.5). -/
def Part.heaterPins (p : Part) : List Bool := p.feeder.heaters.items.map fun h => h.output && p.interlock.driveEnable

/-- The 20 output lines, in the order of section 10.5 (log entry 38). -/
def Part.outputs (p : Part) : List Bool :=
  p.heaterPins ++ [p.dish.conveyor, p.dish.valveOpen, p.dish.gateOpen, p.feeder.reducedAck]

/-- READ INTERLOCKS (R184). A line that is asserted is sent as 1, one that is deasserted as 0 (log entry 36), and the
inputs go in the order of the table of section 10.1 (log entry 38): both are the model's choice. -/
def readInterlocks (p : Part) : Part × Answer :=
  (p, { status := .ok, pieces :=
    [p.interlock.lines.items.flatMap (fun l => flag l.filtered) ++ flag p.interlock.trip ++ p.outputs.flatMap flag ++
      bytes32 p.interlock.travel] })

/-! ## Warm restart (R179, R183) -/

/-- The interlock unit raises again what still holds. -/
def Part.restartInterlock (p : Part) : Part :=
  let hood := if p.interlock.trip then p.raise hoodTripSlot 0 else p
  if hood.asserted .conveyorOverload then hood.raise overloadSlot 0 else hood

/-! ## Commands -/

def execClearTrip (tag : Byte) (s : State) : Host.Outcome State Fault Refusal :=
  .next (s.answer 0xA0 tag (clearTrip s.part))

def execReadInterlocks (tag : Byte) (s : State) : Host.Outcome State Fault Refusal :=
  .next (s.answer 0xA1 tag (readInterlocks s.part))

def execRawLineChange (line : Line) (asserted : Bool) (s : State) : Host.Outcome State Fault Refusal :=
  .next (s.event (s.part.rawLine line asserted))

def execFilterTimerExpiry (line : Line) (s : State) : Host.Outcome State Fault Refusal :=
  .next (s.event (s.part.filterExpiry line))

end Sys2Proof.Machine
end

