-- ==== Sys2Proof/Machine/Pagers.lean ====
section
/-!
DEFINITION. Staff paging (chapter 9): the base station's frames, the port's timers, deadlines, and the requests of the
chapter. Pages, attempts and the arbiter stand in Paging.lean.
-/

namespace Sys2Proof.Machine

/-- The pager controller's work at the present uptime. -/
def Part.onDesk (f : Word → Desk → Desk) (p : Part) : Part := { p with desk := f p.uptime p.desk }

/-! ## The port (R164, R166 to R168) -/

def Desk.setPort (port : Port) (d : Desk) : Desk := d.onPager fun g => { g with port }

/-- A page of the queue that is ON_AIR. -/
def Desk.onAirPage (id : Half) (d : Desk) : Option Page :=
  match findPage id d.pager.queue with
  | none => none
  | some page =>
    match page.state with
    | .onAir => some page
    | .queued | .awaiting => none

/-- A page that becomes AWAITING (R166). -/
def Desk.awaitAnswer (now : Word) (page : Page) (d : Desk) : Desk :=
  let timeout := (d.pager.groups.get page.current).timeout
  let waiting := d.updatePage page.id fun q =>
    { q with state := .awaiting, deadline := some (now + BitVec.ofNat 32 timeout) }
  match page.broadcast, page.target with
  | false, some e =>
    waiting.onPager fun g =>
      { g with directory :=
          g.directory.set e { g.directory.get e with outstanding := (g.directory.get e).outstanding + 1 } }
  | _, _ => waiting

/-- A page after its ACCEPTED reply, by its marks (R166). -/
def Desk.settleSent (now : Word) (page : Page) (d : Desk) : Desk :=
  if page.cancelMark then d.finish now page .cancelled none
  else if page.declineMark then d.endAttempt now page true
  else d.awaitAnswer now page

/-- The page back in QUEUED: the target of a transmission to one pager comes off the tried list (R167). -/
def Page.requeued (page : Page) : Page :=
  match page.broadcast, page.target with
  | false, some e => { page with state := .queued, tried := page.tried.filter (fun t => decide (t ≠ e)), target := none }
  | _, _ => { page with state := .queued }

/-- A page whose transmission was not made, by its marks (R167, R168). -/
def Desk.settleUnsent (now : Word) (page : Page) (d : Desk) : Desk :=
  if page.cancelMark then d.finish now page .cancelled none
  else if page.declineMark then d.endAttempt now page true
  else d.updatePage page.id fun _ => page.requeued

/-- The page of the transmission, where it is still in the queue and ON_AIR, settled by `f`. -/
def Desk.settle (id : Half) (f : Page → Desk → Desk) (d : Desk) : Desk :=
  match d.onAirPage id with
  | some page => f page d
  | none => d

/-- A valid frame in DOWN: the port returns to IDLE, the frame is taken, RADIO_DOWN is returned and the arbiter judged
(R168). -/
def Desk.radioUp (now : Word) (frame : Desk → Desk) (d : Desk) : Desk :=
  ((frame (d.setPort .idle)).ret radioDownSlot).arbiter now

/-- An ACCEPTED reply (R166, R168). -/
def Desk.accepted (now : Word) (tag : Byte) (id : Half) (d : Desk) : Desk :=
  match d.pager.port with
  | .sending held sent _ =>
    if tag = sent ∧ id = held then ((d.setPort .idle).settle id (Desk.settleSent now)).arbiter now else d
  | .down => d.radioUp now fun up => up
  | .idle | .waiting => d

/-- A BACKOFF reply (R167, R168). -/
def Desk.backoff (now : Word) (tag : Byte) (id : Half) (d : Desk) : Desk :=
  match d.pager.port with
  | .sending held sent _ =>
    if tag = sent ∧ id = held then (d.setPort .waiting).settle id (Desk.settleUnsent now) else d
  | .down => d.radioUp now fun up => up
  | .idle | .waiting => d

/-- The end of the back-off time (R167). -/
def Desk.backoffEnd (now : Word) (d : Desk) : Desk :=
  match d.pager.port with
  | .waiting => (d.setPort .idle).arbiter now
  | .idle | .sending _ _ _ | .down => d

/-- The first silence: the TRANSMIT is repeated under its tag, or the port becomes IDLE (R168). -/
def Desk.firstSilence (now : Word) (id : Half) (tag : Byte) (d : Desk) : Desk :=
  match d.onAirPage id with
  | some _ => d.setPort (.sending id tag true)
  | none => (d.setPort .idle).arbiter now

/-- The second silence: the port is DOWN (R168). -/
def Desk.secondSilence (now : Word) (id : Half) (d : Desk) : Desk :=
  ((d.setPort .down).raise now radioDownSlot id).settle id (Desk.settleUnsent now)

/-- The silence timer of a SENDING port runs out (R168). -/
def Desk.silence (now : Word) (d : Desk) : Desk :=
  match d.pager.port with
  | .sending id tag false => d.firstSilence now id tag
  | .sending id _ true => d.secondSilence now id
  | .idle | .waiting | .down => d

/-- A STATUS frame (R164, R194). -/
def statusFrame (tag : Byte) : Frame := ⟨0x02, tag, []⟩

/-- STATUS sent in DOWN, under a fresh tag (R164, R168). -/
def Desk.sendStatus (d : Desk) : Desk :=
  match d.pager.port with
  | .down =>
    d.onPager fun g => { g with tagCounter := g.tagCounter + 1, lastSent := some (statusFrame (g.tagCounter + 1)) }
  | .idle | .waiting | .sending _ _ _ => d

/-- A STATUS REPLY (R168). -/
def Desk.statusReply (now : Word) (d : Desk) : Desk :=
  match d.pager.port with
  | .down => d.radioUp now fun up => up
  | .idle | .waiting | .sending _ _ _ => d

/-! ## Answers (R169, R170) -/

/-- The used entry of a radio address. -/
def Pager.entryOf (address : Half) (g : Pager) : Option (Fin 64) :=
  (List.finRange 64).find? fun e =>
    decide ((g.directory.get e).address ≠ 0) && decide ((g.directory.get e).address = address.toNat)

/-- A pager may answer a page: its entry is on the tried list, or the latest transmission was a broadcast to a group it
belongs to (R169). -/
def Pager.mayAnswer (e : Fin 64) (page : Page) (g : Pager) : Bool :=
  page.tried.contains e || (page.broadcast && (g.directory.get e).groups.getLsbD page.current.val)

/-- An ACCEPT of a page in the queue from a pager that may answer it (R169), before the arbiter is judged. -/
def Desk.acceptPage (now : Word) (page : Page) (e : Fin 64) (d : Desk) : Desk :=
  match page.state with
  | .awaiting | .queued => (d.releaseTarget page).finish now page .acked (some e)
  | .onAir => if page.cancelMark then d else d.finish now page .acked (some e)

/-- An ANSWER with ACCEPT (R169), before the arbiter is judged. -/
def Desk.takeAccept (now : Word) (address id : Half) (d : Desk) : Desk :=
  match findPage id d.pager.queue, d.pager.entryOf address with
  | some page, some e => if d.pager.mayAnswer e page then d.acceptPage now page e else d
  | some _, none => d
  | none, entry => d.record { id, source := Config.lateAnswerSource id, outcome := .lateAnswer, pager := entry, uptime := now }

/-- A DECLINE from a page's current target after a transmission to it alone (R170). -/
def Desk.declinePage (now : Word) (page : Page) (d : Desk) : Desk :=
  match page.state with
  | .awaiting => d.endAttempt now page true
  | .onAir => d.updatePage page.id fun q => { q with declineMark := true }
  | .queued => d

/-- An ANSWER with DECLINE (R170), before the arbiter is judged. -/
def Desk.takeDecline (now : Word) (address id : Half) (d : Desk) : Desk :=
  match findPage id d.pager.queue, d.pager.entryOf address with
  | some page, some e => if page.target = some e ∧ !page.broadcast then d.declinePage now page else d
  | _, _ => d

/-- An ANSWER frame: in DOWN it also brings the radio up (R168). -/
def Desk.answerFrame (now : Word) (take : Desk → Desk) (d : Desk) : Desk :=
  match d.pager.port with
  | .down => d.radioUp now take
  | .idle | .waiting | .sending _ _ _ => (take d).arbiter now

/-! ## Deadlines (R171) -/

/-- The uptime counter has reached a deadline. Uptimes are 32 bits, so the later of two is the one less than half the
range ahead (log entry 19). -/
def reached (now deadline : Word) : Bool := decide ((now - deadline).toNat < 2147483648)

def Desk.pageDeadline (now : Word) (id : Half) (d : Desk) : Desk :=
  match findPage id d.pager.queue with
  | none => d
  | some page =>
    match page.state, page.deadline with
    | .awaiting, some deadline => if reached now deadline then (d.endAttempt now page false).arbiter now else d
    | _, _ => d

/-! ## Requests -/

/-- An entry stands on the tried list of a page in the queue (R156). -/
def Pager.isTried (e : Fin 64) (g : Pager) : Bool := g.queue.any fun page => page.tried.contains e

/-- A radio address is held by another used entry (R156). -/
def Pager.addressTaken (e : Fin 64) (address : Nat) (g : Pager) : Bool :=
  (List.finRange 64).any fun other => decide (other ≠ e) && decide ((g.directory.get other).address = address)

def Part.onPager (f : Pager → Pager) (p : Part) : Part := { p with desk := p.desk.onPager f }

/-- SET PAGER (R156). -/
def setPager (entry : Byte) (address : Half) (groups duty : Byte) (p : Part) : Part × Answer :=
  match index 64 entry, onOff duty with
  | some e, some on =>
    let g := p.desk.pager
    let held := g.directory.get e
    if !within 1 4095 address.toNat || g.addressTaken e address.toNat then (p, { status := .range })
    else if held.address ≠ 0 ∧ held.address ≠ address.toNat ∧ (0 < held.outstanding ∨ g.isTried e) then
      (p, { status := .busy })
    else
      (p.onPager fun g =>
        { g with directory := g.directory.set e { held with address := address.toNat, groups, duty := on } },
        { status := .ok })
  | _, _ => (p, { status := .range })

/-- CLEAR PAGER (R156). -/
def clearPager (entry : Byte) (p : Part) : Part × Answer :=
  match index 64 entry with
  | none => (p, { status := .range })
  | some e =>
    let g := p.desk.pager
    let held := g.directory.get e
    if 0 < held.outstanding ∨ g.isTried e then (p, { status := .busy })
    else
      (p.onPager fun g =>
        { g with directory := g.directory.set e { held with address := 0, groups := 0, duty := false } },
        { status := .ok })

/-- The escalation group that a byte names: 0xFF for none (R192). -/
def escalationOf (group : Fin 8) (b : Byte) : Option (Option (Fin 8)) :=
  if b = 0xFF then some none
  else
    match index 8 b with
    | some e => if e = group then none else some (some e)
    | none => none

/-- SET GROUP (R157). -/
def setGroup (group escalation limit : Byte) (timeout : Half) (p : Part) : Part × Answer :=
  match index 8 group with
  | none => (p, { status := .range })
  | some n =>
    match escalationOf n escalation with
    | none => (p, { status := .range })
    | some next =>
      if within 1 8 limit.toNat && within 10 600 timeout.toNat then
        let held := p.desk.pager.groups.get n
        let stored := { held with escalation := next, limit := limit.toNat, timeout := timeout.toNat }
        (p.onPager fun g => { g with groups := g.groups.set n stored }, { status := .ok })
      else (p, { status := .range })

/-- SET ROUTE (R158). -/
def setRoute (route enabled group priority code : Byte) (p : Part) : Part × Answer :=
  match index 16 route, onOff enabled, index 8 group, index 4 priority with
  | some n, some on, some toGroup, some urgency =>
    (p.onPager fun g =>
      { g with routes := g.routes.set n { enabled := on, group := toGroup, priority := urgency, code } },
      { status := .ok })
  | _, _, _, _ => (p, { status := .range })

/-- PAGE (R163). -/
def page (hostTag group priority code : Byte) (param : Half) (p : Part) : Part × Answer :=
  match index 8 group, index 4 priority with
  | some toGroup, some urgency =>
    if 32 ≤ p.desk.pager.queue.length then (p, { status := .full })
    else
      let d := p.desk.createPage p.uptime (.host hostTag) toGroup urgency code param
      ({ p with desk := d.arbiter p.uptime }, { status := .ok, pieces := [bytes16 d.pager.pageCounter] })
  | _, _ => (p, { status := .range })

/-- CANCEL PAGE (R163, R172). -/
def cancelPage (id : Half) (p : Part) : Part × Answer :=
  match findPage id p.desk.pager.queue with
  | none => (p, { status := .state })
  | some page =>
    (p.onDesk fun now d => (d.cancelPage now page).arbiter now, { status := .ok })

/-- CONFIGURE RADIO (R164). -/
def configureRadio (backoff : Half) (p : Part) : Part × Answer :=
  if within 200 5000 backoff.toNat then
    (p.onPager fun g => { g with backoff := backoff.toNat }, { status := .ok })
  else (p, { status := .range })

/-- A source: a type byte, then the slot, oven, wave slot, cabinet or host tag (R194). -/
def Source.bytes : Source → List Byte
  | .slot i => [0, BitVec.ofNat 8 i.val]
  | .oven i => [1, BitVec.ofNat 8 i.val]
  | .wave i => [2, BitVec.ofNat 8 i.val]
  | .cabinet i => [3, BitVec.ofNat 8 i.val]
  | .host tag => [4, tag]

def PageOutcome.code : PageOutcome → Nat
  | .acked => 0
  | .declinedOut => 1
  | .expired => 2
  | .cancelled => 3
  | .dropped => 4
  | .lateAnswer => 5

def PageState.code : PageState → Nat
  | .queued => 0
  | .onAir => 1
  | .awaiting => 2

def entryByte (e : Fin 64) : List Byte := u8 e.val

def OutcomeRecord.bytes (r : OutcomeRecord) : List Byte :=
  bytes16 r.id ++ Source.bytes r.source ++ u8 r.outcome.code ++ optField 1 entryByte r.pager ++ bytes32 r.uptime

/-- TAKE OUTCOMES (R173): the records, then the number still held. -/
def takeOutcomes (maximum : Byte) (p : Part) : Part × Answer :=
  if !within 1 16 maximum.toNat then (p, { status := .range })
  else
    let held := p.desk.pager.outcomes
    let taken := held.take maximum.toNat
    let left := held.drop maximum.toNat
    let q := p.onPager fun g => { g with outcomes := left }
    (if taken = [] then q else q.mark .outcomes 0,
      { status := .ok, pieces := listPieces (taken.map OutcomeRecord.bytes) ++ [u8 left.length] })

/-- A page record's fields, in the order of section 9.2. -/
def Page.bytes (g : Page) : List Byte :=
  bytes16 g.id ++ Source.bytes g.source ++ u8 g.group.val ++ u8 g.current.val ++ u8 g.priority.val ++ [g.code] ++
    bytes16 g.param ++ u8 g.state.code ++ u8 g.attempts ++ u8 g.tried.length ++ g.tried.flatMap entryByte ++
    optField 1 entryByte g.target ++ flag g.broadcast ++ flag g.escalated ++ optField 4 bytes32 g.deadline ++
    flag g.declineMark ++ flag g.cancelMark

/-- A set latch: its source with the latched parameter. -/
def Page.latchBytes (g : Page) : Option (List Byte) := g.latch.map fun param => Source.bytes g.source ++ bytes16 param

/-- READ PAGES (R174): the pages in queue order, then the latches that are set (log entry 22). -/
def readPages (p : Part) : Part × Answer :=
  let queue := p.desk.pager.queue
  (p, { status := .ok, pieces :=
    listPieces (queue.map Page.bytes) ++ listPieces (queue.filterMap Page.latchBytes) })

/-- READ PAGER (R174). -/
def readPager (entry : Byte) (p : Part) : Part × Answer :=
  match index 64 entry with
  | none => (p, { status := .range })
  | some e =>
    let g := p.desk.pager.directory.get e
    (p, { status := .ok, pieces := [u16 g.address ++ [g.groups] ++ flag g.duty ++ u8 g.outstanding] })

/-- READ GROUP (R174). -/
def readGroup (group : Byte) (p : Part) : Part × Answer :=
  match index 8 group with
  | none => (p, { status := .range })
  | some n =>
    let g := p.desk.pager.groups.get n
    let escalation : List Byte := match g.escalation with | some e => u8 e.val | none => [0xFF]
    (p, { status := .ok, pieces := [escalation ++ u8 g.limit ++ u16 g.timeout ++ entryByte g.pointer] })

/-- READ ROUTE (R174). -/
def readRoute (route : Byte) (p : Part) : Part × Answer :=
  match index 16 route with
  | none => (p, { status := .range })
  | some n =>
    let r := p.desk.pager.routes.get n
    (p, { status := .ok, pieces := [flag r.enabled ++ u8 r.group.val ++ u8 r.priority.val ++ [r.code]] })

def Port.code : Port → Nat
  | .idle => 0
  | .sending _ _ _ => 1
  | .waiting => 2
  | .down => 3

/-- The page id, tag and repeated mark of the transmission in SENDING, each behind a presence byte, or their absence: the
model's choice (log entry 40). -/
def Port.bytes : Port → List Byte
  | .sending id tag repeated => (1 :: bytes16 id) ++ [1, tag] ++ 1 :: flag repeated
  | .idle | .waiting | .down => [0, 0, 0] ++ [0, 0] ++ [0, 0]

/-- READ RADIO (R174). -/
def readRadio (p : Part) : Part × Answer :=
  let g := p.desk.pager
  (p, { status := .ok, pieces := [u8 g.port.code ++ g.port.bytes ++ u16 g.backoff ++ bytes16 g.pageCounter] })

/-! ## Warm restart (R176) -/

def Pager.restarted (g : Pager) : Pager :=
  { g with
    directory := g.directory.map fun e => { e with outstanding := 0 }
    queue := []
    outcomes := []
    port := .idle }

/-- The pager controller restarts; the outcome list is marked where records leave it (R173). -/
def Part.restartPager (p : Part) : Part :=
  let q := p.onPager Pager.restarted
  if p.desk.pager.outcomes = [] then q else q.mark .outcomes 0

/-! ## Commands -/

def execSetPager (tag entry : Byte) (address : Half) (groups duty : Byte) (s : State) :
    Host.Outcome State Fault Refusal :=
  .next (s.answer 0x90 tag (setPager entry address groups duty s.part))

def execClearPager (tag entry : Byte) (s : State) : Host.Outcome State Fault Refusal :=
  .next (s.answer 0x91 tag (clearPager entry s.part))

def execSetGroup (tag group escalation limit : Byte) (timeout : Half) (s : State) :
    Host.Outcome State Fault Refusal :=
  .next (s.answer 0x92 tag (setGroup group escalation limit timeout s.part))

def execSetRoute (tag route enabled group priority code : Byte) (s : State) : Host.Outcome State Fault Refusal :=
  .next (s.answer 0x93 tag (setRoute route enabled group priority code s.part))

def execPage (tag hostTag group priority code : Byte) (param : Half) (s : State) :
    Host.Outcome State Fault Refusal :=
  .next (s.answer 0x94 tag (page hostTag group priority code param s.part))

def execCancelPage (tag : Byte) (id : Half) (s : State) : Host.Outcome State Fault Refusal :=
  .next (s.answer 0x95 tag (cancelPage id s.part))

def execConfigureRadio (tag : Byte) (backoff : Half) (s : State) : Host.Outcome State Fault Refusal :=
  .next (s.answer 0x96 tag (configureRadio backoff s.part))

def execTakeOutcomes (tag maximum : Byte) (s : State) : Host.Outcome State Fault Refusal :=
  .next (s.answer 0x97 tag (takeOutcomes maximum s.part))

def execReadPages (tag : Byte) (s : State) : Host.Outcome State Fault Refusal :=
  .next (s.answer 0x98 tag (readPages s.part))

def execReadPager (tag entry : Byte) (s : State) : Host.Outcome State Fault Refusal :=
  .next (s.answer 0x99 tag (readPager entry s.part))

def execReadGroup (tag group : Byte) (s : State) : Host.Outcome State Fault Refusal :=
  .next (s.answer 0x9A tag (readGroup group s.part))

def execReadRoute (tag route : Byte) (s : State) : Host.Outcome State Fault Refusal :=
  .next (s.answer 0x9B tag (readRoute route s.part))

def execReadRadio (tag : Byte) (s : State) : Host.Outcome State Fault Refusal :=
  .next (s.answer 0x9C tag (readRadio s.part))

/-- ACCEPTED from the base station (R166). -/
def execAccepted (tag : Byte) (id : Half) (s : State) : Host.Outcome State Fault Refusal :=
  .next (s.event (s.part.onDesk fun now d => d.accepted now tag id))

/-- BACKOFF from the base station (R167). -/
def execBackoff (tag : Byte) (id : Half) (s : State) : Host.Outcome State Fault Refusal :=
  .next (s.event (s.part.onDesk fun now d => d.backoff now tag id))

/-- BACKOFF_END: the back-off time runs out (R167). -/
def execBackoffEnd (s : State) : Host.Outcome State Fault Refusal :=
  .next (s.event (s.part.onDesk fun now d => d.backoffEnd now))

/-- SILENCE_TIMEOUT: the silence timer runs out (R168). -/
def execSilenceTimeout (s : State) : Host.Outcome State Fault Refusal :=
  .next (s.event (s.part.onDesk fun now d => d.silence now))

/-- STATUS_TIMER: 5 s in DOWN (R168). -/
def execStatusTimer (s : State) : Host.Outcome State Fault Refusal :=
  .next (s.event (s.part.onDesk fun _ d => d.sendStatus))

/-- STATUS REPLY from the base station, under any tag (R168). -/
def execStatusReply (_tag : Byte) (s : State) : Host.Outcome State Fault Refusal :=
  .next (s.event (s.part.onDesk fun now d => d.statusReply now))

/-- ANSWER with ACCEPT from the base station (R169). -/
def execAnswerAccept (address id : Half) (s : State) : Host.Outcome State Fault Refusal :=
  .next (s.event (s.part.onDesk fun now d => d.answerFrame now fun e => e.takeAccept now address id))

/-- ANSWER with DECLINE from the base station (R170). -/
def execAnswerDecline (address id : Half) (s : State) : Host.Outcome State Fault Refusal :=
  .next (s.event (s.part.onDesk fun now d => d.answerFrame now fun e => e.takeDecline now address id))

/-- PAGE_DEADLINE: the deadline of an AWAITING page is reached (R171). -/
def execPageDeadline (id : Half) (s : State) : Host.Outcome State Fault Refusal :=
  .next (s.event (s.part.onDesk fun now d => d.pageDeadline now id))

end Sys2Proof.Machine
end

