-- ==== Sys2Proof/Machine/Probe.lean ====
section
/-!
DEFINITION. Probe scanning and the measurement table (chapter 1): the visit, and the requests READ CHANNEL, READ CHANNELS
and CONFIGURE CHANNEL.
-/

namespace Sys2Proof.Machine

/-! ## One sample (R2 to R7) -/

/-- The kind of a raw reading (R2). -/
def classify (raw : Half) : SampleKind :=
  if 65280 ≤ raw.toNat then .openBad else if 256 ≤ raw.toNat then .good else .shortBad

/-- The temperature of a good sample (R3). -/
def convert (gain : Nat) (offset : Int) (raw : Half) : Int :=
  clamp (-500) 4000 (offset + trunc ((raw.toNat : Int) * (gain : Int)) 65536)

/-- A sample of a kind takes the run length from 2 to 3 (R4). -/
def Entry.reaches (k : SampleKind) (e : Entry) : Bool := decide (e.runKind = some k) && decide (e.runLen = 2)

/-- The sequence, the fresh mark and the run after a sample (R4). -/
def Entry.counted (k : SampleKind) (e : Entry) : Entry :=
  { e with
    seq := e.seq + 1
    fresh := true
    runKind := some k
    runLen := if e.runKind = some k then min 3 (e.runLen + 1) else 1 }

/-- A good sample takes its temperature into the entry: at once in UNSCANNED and OK, in fault at the sample whose run
reaches 3 (R5, R7). -/
def Entry.admits (e : Entry) : Bool :=
  match e.status with
  | .unscanned | .ok => true
  | .openFault | .shortFault => e.reaches .good
  | .disabled => false

/-- The status that a bad sample puts the entry into, where its run reaches 3 and the entry is not already in that fault
(R6). -/
def Entry.faults (k : SampleKind) (e : Entry) : Option ChStatus :=
  if e.reaches k then
    match k, e.status with
    | .openBad, .ok | .openBad, .unscanned | .openBad, .shortFault => some .openFault
    | .shortBad, .ok | .shortBad, .unscanned | .shortBad, .openFault => some .shortFault
    | _, _ => none
  else none

/-- An entry in OPEN or SHORT. -/
def Entry.inFault (e : Entry) : Bool :=
  match e.status with
  | .openFault | .shortFault => true
  | .unscanned | .ok | .disabled => false

/-- The entry after a sample, as one whole update (R4 to R7). -/
def Entry.sampled (raw : Half) (e : Entry) : Entry :=
  let c := e.counted (classify raw)
  match classify raw with
  | .good => if e.admits then { c with status := .ok, value := convert e.gain e.offset raw } else c
  | .openBad =>
    match e.faults .openBad with
    | some status => { c with status }
    | none => c
  | .shortBad =>
    match e.faults .shortBad with
    | some status => { c with status }
    | none => c

/-! ## The visit -/

/-- An entry replaced. -/
def Part.putEntry (ch : Fin 23) (e : Entry) (p : Part) : Part :=
  { p with scan := { p.scan with entries := p.scan.entries.set ch e } }

/-- An entry replaced, marked where its value or status changes (R14). -/
def Part.setEntry (ch : Fin 23) (e : Entry) (p : Part) : Part :=
  let before := p.scan.entries.get ch
  let q := p.putEntry ch e
  if e.value = before.value ∧ e.status = before.status then q else q.mark .channel ch.val

/-- The sample notice of channels 20 and 22 (R9). -/
def Part.sampleNotice (ch : Fin 23) (value : Int) (p : Part) : Part :=
  if ch = 20 then p.washNotice value else if ch = 22 then p.rinseNotice value else p

/-- A sample of a channel: the entry, the raise or the return of its PROBE_FAULT, and the sample notice (R4 to R9). -/
def Part.sampleChannel (ch : Fin 23) (raw : Half) (p : Part) : Part :=
  let e := p.scan.entries.get ch
  let after := e.sampled raw
  let q := p.setEntry ch after
  match classify raw with
  | .good =>
    if e.admits then (if e.inFault then q.ret (probeSlot ch) else q).sampleNotice ch after.value else q
  | .openBad => if (e.faults .openBad).isSome then q.raise (probeSlot ch) raw else q
  | .shortBad => if (e.faults .shortBad).isSome then q.raise (probeSlot ch) raw else q

/-- The channel after `ch` in the scan (R1). -/
def nextChannel (ch : Fin 23) : Fin 23 := ⟨(ch.val + 1) % 23, Nat.mod_lt _ (by decide)⟩

/-- A visit to the channel whose turn it is (R1). The converter is selected and read where the channel is enabled. -/
def Part.scanVisit (raw : Half) (p : Part) : Part :=
  let ch := p.scan.next
  let advanced := { p with scan := { p.scan with next := nextChannel ch } }
  if (p.scan.entries.get ch).enabled then
    ({ advanced with scan := { advanced.scan with select := ch } }).sampleChannel ch raw
  else advanced

/-! ## Requests -/

def ChStatus.code : ChStatus → Nat
  | .unscanned => 0
  | .ok => 1
  | .openFault => 2
  | .shortFault => 3
  | .disabled => 4

/-- READ CHANNEL's fields, in the order of R10. -/
def Entry.bytes (ch : Fin 23) (e : Entry) : List Byte :=
  u8 ch.val ++ u8 e.status.code ++ s16 e.value ++ [e.seq] ++ flag e.fresh ++ u16 e.gain ++ s16 e.offset ++
    flag e.enabled

/-- A host read clears the fresh mark (R10). -/
def Part.clearFresh (ch : Fin 23) (p : Part) : Part :=
  p.putEntry ch { p.scan.entries.get ch with fresh := false }

/-- READ CHANNEL (R10). -/
def readChannel (channel : Byte) (p : Part) : Part × Answer :=
  match index 23 channel with
  | none => (p, { status := .range })
  | some ch => (p.clearFresh ch, { status := .ok, pieces := [(p.scan.entries.get ch).bytes ch] })

/-- The channels of a READ CHANNELS, `count` of them from `first` onward. -/
def channelRun (first count : Nat) : List (Fin 23) :=
  (List.finRange 23).filter fun ch => decide (first ≤ ch.val) && decide (ch.val < first + count)

/-- READ CHANNELS (R10). -/
def readChannels (first count : Byte) (p : Part) : Part × Answer :=
  if count = 0 ∨ 23 < first.toNat + count.toNat then (p, { status := .range })
  else
    let run := channelRun first.toNat count.toNat
    (run.foldl (fun q ch => q.clearFresh ch) p,
      { status := .ok, pieces := listPieces (run.map fun ch => (p.scan.entries.get ch).bytes ch) })

/-- An entry under a CONFIGURE CHANNEL (R11 to R13). -/
def Entry.configured (gain : Nat) (offset : Int) (enabled : Bool) (e : Entry) : Entry :=
  let c := { e with gain, offset, enabled }
  if enabled = e.enabled then c
  else { c with status := if enabled then .unscanned else .disabled, runKind := none, runLen := 0 }

/-- CONFIGURE CHANNEL (R11 to R13). -/
def configureChannel (channel : Byte) (gain offset : Half) (enable : Byte) (p : Part) : Part × Answer :=
  match index 23 channel, onOff enable with
  | some ch, some enabled =>
    if gain = 0 ∨ offset.toInt < -1000 ∨ 1000 < offset.toInt then (p, { status := .range })
    else
      let e := p.scan.entries.get ch
      let q := (p.setEntry ch (e.configured gain.toNat offset.toInt enabled)).mark .channel ch.val
      (if e.enabled && !enabled && e.inFault then q.ret (probeSlot ch) else q, { status := .ok })
  | _, _ => (p, { status := .range })

/-! ## Warm restart (R16) -/

def Entry.restarted (e : Entry) : Entry :=
  { gain := e.gain, offset := e.offset, enabled := e.enabled
    status := if e.enabled then .unscanned else .disabled }

/-- The entries take their restart values, those that change marked (R14). -/
def Part.restartProbe (p : Part) : Part :=
  (List.finRange 23).foldl
    (fun q ch =>
      let e := q.scan.entries.get ch
      let r := q.putEntry ch e.restarted
      if e.restarted = e then r else r.mark .channel ch.val)
    p

/-! ## Commands -/

def execReadChannel (tag channel : Byte) (s : State) : Host.Outcome State Fault Refusal :=
  .next (s.answer 0x10 tag (readChannel channel s.part))

def execReadChannels (tag first count : Byte) (s : State) : Host.Outcome State Fault Refusal :=
  .next (s.answer 0x11 tag (readChannels first count s.part))

def execConfigureChannel (tag channel : Byte) (gain offset : Half) (enable : Byte) (s : State) :
    Host.Outcome State Fault Refusal :=
  .next (s.answer 0x12 tag (configureChannel channel gain offset enable s.part))

/-- SCAN_VISIT: the scanner's next visit, at which the converter would return `raw` (R1). -/
def execScanVisit (raw : Half) (s : State) : Host.Outcome State Fault Refusal := .next (s.event (s.part.scanVisit raw))

end Sys2Proof.Machine
end

