-- ==== Sys2Proof/Machine/ControlLink.lean ====
section
/-!
DEFINITION. The control link (chapter 11): POLL and RESTART, the taking of requests from the receive buffers, both
receivers, what the transmitter has sent, power-on and the uptime counter.
-/

namespace Sys2Proof.Machine

/-! ## POLL (R191) -/

/-- The link after a POLL: the oldest 60 marks gone, attention cleared and judged. -/
def Link.polled (k : Link) : Link :=
  ({ k with changeSet := k.changeSet.drop 60, attention := false }).judgeAttention

def Mark.bytes (m : Mark) : List Byte := [m.cls.code, BitVec.ofNat 8 m.index]

/-- POLL: the numbers of marks returned and left, then the marks. -/
def poll (p : Part) : Part × Answer :=
  let taken := p.desk.link.changeSet.take 60
  let left := p.desk.link.changeSet.drop 60
  (p.onLink Link.polled,
    { status := .ok, pieces := (u8 taken.length ++ u8 left.length) :: taken.map Mark.bytes })

/-! ## RESTART (R193) -/

/-- The link empties the change set and makes attention clear. -/
def Link.restarted (k : Link) : Link := { k with changeSet := [], attention := false }

/-- Every slot NORMAL with its fields 0, those that change marked (R155, R154). -/
def Desk.restartConditions (d : Desk) : Desk := (List.finRange 87).foldl (fun e i => e.setSlot i {}) d

def Part.restartConditions (p : Part) : Part := { p with desk := p.desk.restartConditions }

/-- The warm restart of the part, block by block in the order of the chapters (log entry 11). -/
def Part.restarted (p : Part) : Part :=
  let heated := (p.onLink Link.restarted).restartProbe.restartLoops.restartFeeder
  let served := heated.restartOvens.restartCabinets.restartDish.restartWaves
  served.restartConditions.restartPager.restartInterlock

def restart (p : Part) : Part × Answer := (p.restarted, { status := .ok })

/-! ## Taking requests (R187, R188) -/

/-- The rule of a request's owning block. An event row is no request. -/
def performRequest (i : Instr) (p : Part) : Part × Answer :=
  match i with
  | .readChannel _ channel => readChannel channel p
  | .readChannels _ first count => readChannels first count p
  | .configureChannel _ channel gain offset enable => configureChannel channel gain offset enable p
  | .readLoop _ loop => readLoop loop p
  | .setLoopMode _ loop mode => setLoopMode loop mode p
  | .setManualOutput _ loop output ramp => setManualOutput loop output ramp p
  | .setLoopSetpoint _ loop setpoint => setLoopSetpoint loop setpoint p
  | .configureLoop _ loop fields => configureLoop loop fields p
  | .configureHeater _ heater rated => configureHeater heater rated p
  | .configureFeeder _ limit reduced starveTime => configureFeeder limit reduced starveTime p
  | .readHeater _ heater => readHeater heater p
  | .readFeeder _ => readFeeder p
  | .storeProgram _ program stepCount hold band steps => storeProgram program stepCount hold band steps p
  | .readProgram _ program => readProgram program p
  | .startProgram _ oven program => startProgram oven program p
  | .foodLoaded _ oven => foodLoaded oven p
  | .unload _ oven => unload oven p
  | .abort _ oven => abort oven p
  | .readOven _ oven => readOven oven p
  | .configureCabinet _ cabinet fields => configureCabinet cabinet fields p
  | .setCabinetMode _ cabinet mode => setCabinetMode cabinet mode p
  | .stockAdd _ kind count => stockAdd kind count p
  | .writeOff _ kind location count => writeOff kind location count p
  | .load _ cabinet count => load cabinet count p
  | .issue _ cabinet count => issue cabinet count p
  | .unloadPlates _ cabinet count => unloadPlates cabinet count p
  | .returnPlates _ kind count => returnPlates kind count p
  | .readCabinet _ cabinet => readCabinet cabinet p
  | .readStock _ kind => readStock kind p
  | .configureDish _ fields => configureDish fields p
  | .dishOn _ => dishOn p
  | .run _ => runTunnel p
  | .stop _ => stop p
  | .dishOff _ => dishOff p
  | .declareRack _ kind count => declareRack kind count p
  | .takeRacks _ maximum => takeRacks maximum p
  | .clearRingCount _ => clearRingCount p
  | .readDish _ => readDish p
  | .readTunnel _ => readTunnel p
  | .create _ fields => create fields p
  | .amend _ slot number covers due lead => amend slot number covers due lead p
  | .release _ slot number => release slot number p
  | .close _ slot number => close slot number p
  | .delete _ slot number => delete slot number p
  | .readWave _ slot number => readWave slot number p
  | .readWaves _ => readWaves p
  | .acknowledge _ slot count => acknowledge slot count p
  | .readCondition _ slot => readCondition slot p
  | .readConditions _ first count => readConditions first count p
  | .readPending _ => readPending p
  | .setPager _ entry address groups duty => setPager entry address groups duty p
  | .clearPager _ entry => clearPager entry p
  | .setGroup _ group escalation limit timeout => setGroup group escalation limit timeout p
  | .setRoute _ route enabled group priority code => setRoute route enabled group priority code p
  | .page _ hostTag group priority code param => page hostTag group priority code param p
  | .cancelPage _ id => cancelPage id p
  | .configureRadio _ backoff => configureRadio backoff p
  | .takeOutcomes _ maximum => takeOutcomes maximum p
  | .readPages _ => readPages p
  | .readPager _ entry => readPager entry p
  | .readGroup _ group => readGroup group p
  | .readRoute _ route => readRoute route p
  | .readRadio _ => readRadio p
  | .clearTrip _ => clearTrip p
  | .readInterlocks _ => readInterlocks p
  | .poll _ => poll p
  | .restart _ => restart p
  | .powerOn .. | .controlFrameComplete .. | .replySent .. | .scanVisit .. | .loopCycle .. | .allocationRound ..
  | .heaterBurstStep .. | .ovenTimingTick .. | .warmTick .. | .temperatureCheck .. | .washColdJudgement ..
  | .encoderPulse .. | .countdownTick .. | .accepted .. | .backoff .. | .backoffEnd .. | .silenceTimeout ..
  | .statusTimer .. | .statusReply .. | .answerAccept .. | .answerDecline .. | .pageDeadline .. | .rawLineChange ..
  | .filterTimerExpiry .. | .controlLinkByte .. | .pagerLinkByte .. | .attentionSent .. | .uptimeSecond .. => (p, { status := .unknown })

/-- A frame taken as a request: UNKNOWN, LENGTH, or the owning block's rule (R188). -/
def performFrame (f : Frame) (p : Part) : Part × Answer :=
  match decodeRequest f.kind f.tag f.payload with
  | .unknown => (p, { status := .unknown })
  | .wrongLength => (p, { status := .length })
  | .request i => performRequest i p

/-- The reply is that of a RESTART that was taken. -/
def Reply.ofRestart (r : Reply) : Bool := decide (r.kind = 0xF1) && decide (r.status = .ok)

/-- The oldest request that waits and may be handed to its block: the reply to the request before it is built as that
request is taken, so it waits only behind a RESTART whose reply has not gone, and that one's last byte clears it
(R187, R193; log entry 5). -/
def Link.nextWaiting (k : Link) : Option Buffer :=
  if k.replies.any Reply.ofRestart then none else k.buffers.find? fun b => !b.taken

/-- The oldest frame that waits marked as taken; it keeps its buffer until its reply has gone (R187). -/
def takeOldestFrame : List Buffer → List Buffer
  | [] => []
  | b :: rest => if b.taken then b :: takeOldestFrame rest else { b with taken := true } :: rest

/-- The oldest request that waits taken, with its reply built. -/
def Part.takeBuffer (b : Buffer) (p : Part) : Part :=
  let held := p.onLink fun k => { k with buffers := takeOldestFrame k.buffers }
  let taken := performFrame b.frame held
  taken.1.reply b.frame.kind b.frame.tag true taken.2

/-- The waiting requests taken one at a time, in the order in which they completed, up to a number of them (R187). -/
def Part.takeWaiting : Nat → Part → Part
  | 0, p => p
  | most + 1, p =>
    match p.desk.link.nextWaiting with
    | none => p
    | some b => (p.takeBuffer b).takeWaiting most

/-- A complete frame: it waits in a free buffer and is taken in its turn, or is discarded as overrun (R187). -/
def Part.frameComplete (f : Frame) (p : Part) : Part :=
  if p.desk.link.buffers.length < 2 then
    (p.onLink fun k => { k with buffers := k.buffers ++ [{ frame := f, taken := false }] }).takeWaiting 2
  else p

/-- A byte at the control link's receiver (R186). -/
def Part.controlByte (late : Bool) (b : Byte) (p : Part) : Part :=
  let next := p.desk.link.rx.byte late b
  let q := p.onLink fun k => { k with rx := next.1 }
  match next.2 with
  | some f => q.frameComplete f
  | none => q

/-! ## The transmitter (R185, R187, R193) -/

/-- The link once the last byte of a reply has gone: the reply leaves, its buffer is freed, and after RESTART both
buffers are cleared and the receiver returns to HUNT. -/
def Link.sent (r : Reply) (rest : List Reply) (k : Link) : Link :=
  let freed := { k with
    tx := .idle, replies := rest, buffers := if r.buffered then k.buffers.drop 1 else k.buffers }
  if r.ofRestart then { freed with buffers := [], rx := .hunt } else freed

/-- REPLY_SENT: the reply on the air has gone, and a request that waits is taken (R187). -/
def Part.replySent (p : Part) : Part :=
  match p.desk.link.tx, p.desk.link.replies with
  | .reply, r :: rest => (p.onLink (Link.sent r rest)).takeWaiting 2
  | _, _ => p

/-- The link once the last byte of an ATTENTION has gone (R185). -/
def Link.attentionSent (k : Link) : Link :=
  match k.tx with
  | .attention _ => { k with tx := .idle }
  | .idle | .reply => k

/-! ## The pager base link's receiver (R195) -/

/-- A complete frame handed to the pager controller; one of another kind or length is discarded. A choice that is neither
ACCEPT nor DECLINE answers nothing (log entry 31). -/
def Desk.stationFrame (now : Word) (f : Frame) (d : Desk) : Desk :=
  if f.kind = 0x81 then
    match f.payload with
    | [i1, i0] => d.accepted now f.tag (half i1 i0)
    | _ => d
  else if f.kind = 0x82 then
    match f.payload with
    | [i1, i0] => d.backoff now f.tag (half i1 i0)
    | _ => d
  else if f.kind = 0x83 then
    match f.payload with
    | [] => d.statusReply now
    | _ :: _ => d
  else if f.kind = 0x84 then
    match f.payload with
    | [a1, a0, i1, i0, choice] =>
      d.answerFrame now fun e =>
        if choice = 0 then e.takeAccept now (half a1 a0) (half i1 i0)
        else if choice = 1 then e.takeDecline now (half a1 a0) (half i1 i0)
        else e
    | _ => d
  else d

/-- A byte at the pager base link's receiver. -/
def Desk.pagerByte (now : Word) (late : Bool) (b : Byte) (d : Desk) : Desk :=
  let next := d.pager.rx.byte late b
  let e := d.onPager fun g => { g with rx := next.1 }
  match next.2 with
  | some f => e.stationFrame now f
  | none => e

/-! ## Power-on and the uptime counter -/

/-- Supply applied: every field at its power-on value, the raw levels as they are found, every stability timer started
(R177; log entries 14 and 15). -/
def Part.poweredOn (p : Part) : Part :=
  { interlock := { lines := p.interlock.lines.map fun l => { raw := l.raw } } }

/-- The uptime a second later; the value after the largest is free (log entry 1). -/
def nextUptime (now : Word) : Word := if now = 0xFFFFFFFF then Config.uptimeAfterLargest else now + 1

/-! ## Commands -/

/-- POWER_ON: supply is applied (R15, R41, R60, R79, R98, R125, R143, R155, R175, R177, R183, R185). The queue is the
sender's and stays (log entry 28). -/
def execPowerOn (s : State) : Host.Outcome State Fault Refusal := .next { s with part := s.part.poweredOn }

/-- CONTROL_FRAME_COMPLETE: a frame passes its CRC check (R187); the receiver stands in HUNT after it (R186). -/
def execControlFrameComplete (kind tag : Byte) (payload : List Byte) (s : State) :
    Host.Outcome State Fault Refusal :=
  .next (s.event ((s.part.onLink fun k => { k with rx := .hunt }).frameComplete ⟨kind, tag, payload⟩))

/-- REPLY_SENT: the last byte of a reply leaves the transmitter (R187). -/
def execReplySent (s : State) : Host.Outcome State Fault Refusal := .next (s.event s.part.replySent)

def execPoll (tag : Byte) (s : State) : Host.Outcome State Fault Refusal := .next (s.answer 0xF0 tag (poll s.part))

def execRestart (tag : Byte) (s : State) : Host.Outcome State Fault Refusal :=
  .next (s.answer 0xF1 tag (restart s.part))

/-- CONTROL_LINK_BYTE: a byte at the receiver, `late` where more than 10 ms have passed since the one before it
(R186). -/
def execControlLinkByte (late : Bool) (byte : Byte) (s : State) : Host.Outcome State Fault Refusal :=
  .next (s.event (s.part.controlByte late byte))

/-- PAGER_LINK_BYTE: a byte at the pager base link's receiver (R195). -/
def execPagerLinkByte (late : Bool) (byte : Byte) (s : State) : Host.Outcome State Fault Refusal :=
  .next (s.event (s.part.onDesk fun now d => d.pagerByte now late byte))

/-- ATTENTION_SENT: the last byte of an ATTENTION leaves the transmitter (R185). -/
def execAttentionSent (s : State) : Host.Outcome State Fault Refusal :=
  .next (s.event (s.part.onLink Link.attentionSent))

/-- UPTIME_SECOND: the uptime counter advances (00_scope.md, section 3). -/
def execUptimeSecond (s : State) : Host.Outcome State Fault Refusal :=
  .next (s.event { s.part with uptime := nextUptime s.part.uptime })

end Sys2Proof.Machine
end

