-- ==== Sys2Proof/Machine/Dispatch.lean ====
section
/-!
DEFINITION. The dispatch: one arm per row of spec/opcode_table.json, each a direct call of its meaning.
-/

namespace Sys2Proof.Machine

def exec (i : Instr) (s : State) : Host.Outcome State Fault Refusal :=
  match i with
  | .powerOn => Sys2Proof.Machine.execPowerOn s
  | .controlFrameComplete kind tag payload => Sys2Proof.Machine.execControlFrameComplete kind tag payload s
  | .replySent => Sys2Proof.Machine.execReplySent s
  | .readChannel tag channel => Sys2Proof.Machine.execReadChannel tag channel s
  | .readChannels tag first count => Sys2Proof.Machine.execReadChannels tag first count s
  | .configureChannel tag channel gain offset enable => Sys2Proof.Machine.execConfigureChannel tag channel gain offset enable s
  | .readLoop tag loop => Sys2Proof.Machine.execReadLoop tag loop s
  | .setLoopMode tag loop mode => Sys2Proof.Machine.execSetLoopMode tag loop mode s
  | .setManualOutput tag loop output ramp => Sys2Proof.Machine.execSetManualOutput tag loop output ramp s
  | .setLoopSetpoint tag loop setpoint => Sys2Proof.Machine.execSetLoopSetpoint tag loop setpoint s
  | .configureLoop tag loop fields => Sys2Proof.Machine.execConfigureLoop tag loop fields s
  | .configureHeater tag heater rated => Sys2Proof.Machine.execConfigureHeater tag heater rated s
  | .configureFeeder tag limit reduced starveTime => Sys2Proof.Machine.execConfigureFeeder tag limit reduced starveTime s
  | .readHeater tag heater => Sys2Proof.Machine.execReadHeater tag heater s
  | .readFeeder tag => Sys2Proof.Machine.execReadFeeder tag s
  | .storeProgram tag program stepCount hold band steps => Sys2Proof.Machine.execStoreProgram tag program stepCount hold band steps s
  | .readProgram tag program => Sys2Proof.Machine.execReadProgram tag program s
  | .startProgram tag oven program => Sys2Proof.Machine.execStartProgram tag oven program s
  | .foodLoaded tag oven => Sys2Proof.Machine.execFoodLoaded tag oven s
  | .unload tag oven => Sys2Proof.Machine.execUnload tag oven s
  | .abort tag oven => Sys2Proof.Machine.execAbort tag oven s
  | .readOven tag oven => Sys2Proof.Machine.execReadOven tag oven s
  | .configureCabinet tag cabinet fields => Sys2Proof.Machine.execConfigureCabinet tag cabinet fields s
  | .setCabinetMode tag cabinet mode => Sys2Proof.Machine.execSetCabinetMode tag cabinet mode s
  | .stockAdd tag kind count => Sys2Proof.Machine.execStockAdd tag kind count s
  | .writeOff tag kind location count => Sys2Proof.Machine.execWriteOff tag kind location count s
  | .load tag cabinet count => Sys2Proof.Machine.execLoad tag cabinet count s
  | .issue tag cabinet count => Sys2Proof.Machine.execIssue tag cabinet count s
  | .unloadPlates tag cabinet count => Sys2Proof.Machine.execUnloadPlates tag cabinet count s
  | .returnPlates tag kind count => Sys2Proof.Machine.execReturnPlates tag kind count s
  | .readCabinet tag cabinet => Sys2Proof.Machine.execReadCabinet tag cabinet s
  | .readStock tag kind => Sys2Proof.Machine.execReadStock tag kind s
  | .configureDish tag fields => Sys2Proof.Machine.execConfigureDish tag fields s
  | .dishOn tag => Sys2Proof.Machine.execDishOn tag s
  | .run tag => Sys2Proof.Machine.execRun tag s
  | .stop tag => Sys2Proof.Machine.execStop tag s
  | .dishOff tag => Sys2Proof.Machine.execDishOff tag s
  | .declareRack tag kind count => Sys2Proof.Machine.execDeclareRack tag kind count s
  | .takeRacks tag maximum => Sys2Proof.Machine.execTakeRacks tag maximum s
  | .clearRingCount tag => Sys2Proof.Machine.execClearRingCount tag s
  | .readDish tag => Sys2Proof.Machine.execReadDish tag s
  | .readTunnel tag => Sys2Proof.Machine.execReadTunnel tag s
  | .create tag fields => Sys2Proof.Machine.execCreate tag fields s
  | .amend tag slot number covers due lead => Sys2Proof.Machine.execAmend tag slot number covers due lead s
  | .release tag slot number => Sys2Proof.Machine.execRelease tag slot number s
  | .close tag slot number => Sys2Proof.Machine.execClose tag slot number s
  | .delete tag slot number => Sys2Proof.Machine.execDelete tag slot number s
  | .readWave tag slot number => Sys2Proof.Machine.execReadWave tag slot number s
  | .readWaves tag => Sys2Proof.Machine.execReadWaves tag s
  | .acknowledge tag slot count => Sys2Proof.Machine.execAcknowledge tag slot count s
  | .readCondition tag slot => Sys2Proof.Machine.execReadCondition tag slot s
  | .readConditions tag first count => Sys2Proof.Machine.execReadConditions tag first count s
  | .readPending tag => Sys2Proof.Machine.execReadPending tag s
  | .setPager tag entry address groups duty => Sys2Proof.Machine.execSetPager tag entry address groups duty s
  | .clearPager tag entry => Sys2Proof.Machine.execClearPager tag entry s
  | .setGroup tag group escalation limit timeout => Sys2Proof.Machine.execSetGroup tag group escalation limit timeout s
  | .setRoute tag route enabled group priority code => Sys2Proof.Machine.execSetRoute tag route enabled group priority code s
  | .page tag hostTag group priority code param => Sys2Proof.Machine.execPage tag hostTag group priority code param s
  | .cancelPage tag id => Sys2Proof.Machine.execCancelPage tag id s
  | .configureRadio tag backoff => Sys2Proof.Machine.execConfigureRadio tag backoff s
  | .takeOutcomes tag maximum => Sys2Proof.Machine.execTakeOutcomes tag maximum s
  | .readPages tag => Sys2Proof.Machine.execReadPages tag s
  | .readPager tag entry => Sys2Proof.Machine.execReadPager tag entry s
  | .readGroup tag group => Sys2Proof.Machine.execReadGroup tag group s
  | .readRoute tag route => Sys2Proof.Machine.execReadRoute tag route s
  | .readRadio tag => Sys2Proof.Machine.execReadRadio tag s
  | .clearTrip tag => Sys2Proof.Machine.execClearTrip tag s
  | .readInterlocks tag => Sys2Proof.Machine.execReadInterlocks tag s
  | .poll tag => Sys2Proof.Machine.execPoll tag s
  | .restart tag => Sys2Proof.Machine.execRestart tag s
  | .scanVisit raw => Sys2Proof.Machine.execScanVisit raw s
  | .loopCycle loop => Sys2Proof.Machine.execLoopCycle loop s
  | .allocationRound => Sys2Proof.Machine.execAllocationRound s
  | .heaterBurstStep => Sys2Proof.Machine.execHeaterBurstStep s
  | .ovenTimingTick oven => Sys2Proof.Machine.execOvenTimingTick oven s
  | .warmTick cabinet => Sys2Proof.Machine.execWarmTick cabinet s
  | .temperatureCheck => Sys2Proof.Machine.execTemperatureCheck s
  | .washColdJudgement => Sys2Proof.Machine.execWashColdJudgement s
  | .encoderPulse => Sys2Proof.Machine.execEncoderPulse s
  | .countdownTick slot => Sys2Proof.Machine.execCountdownTick slot s
  | .accepted tag id => Sys2Proof.Machine.execAccepted tag id s
  | .backoff tag id => Sys2Proof.Machine.execBackoff tag id s
  | .backoffEnd => Sys2Proof.Machine.execBackoffEnd s
  | .silenceTimeout => Sys2Proof.Machine.execSilenceTimeout s
  | .statusTimer => Sys2Proof.Machine.execStatusTimer s
  | .statusReply tag => Sys2Proof.Machine.execStatusReply tag s
  | .answerAccept address id => Sys2Proof.Machine.execAnswerAccept address id s
  | .answerDecline address id => Sys2Proof.Machine.execAnswerDecline address id s
  | .pageDeadline id => Sys2Proof.Machine.execPageDeadline id s
  | .rawLineChange line asserted => Sys2Proof.Machine.execRawLineChange line asserted s
  | .filterTimerExpiry line => Sys2Proof.Machine.execFilterTimerExpiry line s
  | .controlLinkByte late byte => Sys2Proof.Machine.execControlLinkByte late byte s
  | .pagerLinkByte late byte => Sys2Proof.Machine.execPagerLinkByte late byte s
  | .attentionSent => Sys2Proof.Machine.execAttentionSent s
  | .uptimeSecond => Sys2Proof.Machine.execUptimeSecond s

end Sys2Proof.Machine
end

