-- ==== Sys2Proof/WellFormed.lean ====
section
/-!
DEFINITION. Which commands the outside world can send. Every operand is as wide as its field on the wire, so the checks
left are those on lists: a frame's payload has at most 240 bytes (R185), and STORE PROGRAM and CREATE carry their lists
inside one frame (R188).
-/

namespace Sys2Proof

/-- The payload of one frame: 0 to 240 bytes (R185). -/
abbrev payloadFits (length : Nat) : Prop := length ≤ 240

/-- A command that the links, the timers and the lines can bring about. -/
def Instr.wellFormed : Instr → Bool
  | .controlFrameComplete _ _ payload => decide (payloadFits payload.length)
  | .storeProgram _ _ _ _ _ steps => decide (payloadFits (6 + 7 * steps.length))
  | .create _ f => decide (payloadFits (13 + f.cabinets.length + f.ovens.length))
  | .powerOn .. | .replySent .. | .scanVisit .. | .loopCycle .. | .allocationRound .. | .heaterBurstStep ..
  | .ovenTimingTick .. | .warmTick .. | .temperatureCheck .. | .washColdJudgement .. | .encoderPulse ..
  | .countdownTick .. | .accepted .. | .backoff .. | .backoffEnd .. | .silenceTimeout .. | .statusTimer ..
  | .statusReply .. | .answerAccept .. | .answerDecline .. | .pageDeadline .. | .rawLineChange ..
  | .filterTimerExpiry .. | .controlLinkByte .. | .pagerLinkByte .. | .attentionSent .. | .uptimeSecond ..
  | .readChannel .. | .readChannels .. | .configureChannel .. | .readLoop .. | .setLoopMode ..
  | .setManualOutput .. | .setLoopSetpoint .. | .configureLoop .. | .configureHeater .. | .configureFeeder ..
  | .readHeater .. | .readFeeder .. | .readProgram .. | .startProgram .. | .foodLoaded .. | .unload ..
  | .abort .. | .readOven .. | .configureCabinet .. | .setCabinetMode .. | .stockAdd .. | .writeOff ..
  | .load .. | .issue .. | .unloadPlates .. | .returnPlates .. | .readCabinet .. | .readStock ..
  | .configureDish .. | .dishOn .. | .run .. | .stop .. | .dishOff .. | .declareRack .. | .takeRacks ..
  | .clearRingCount .. | .readDish .. | .readTunnel .. | .amend .. | .release .. | .close .. | .delete ..
  | .readWave .. | .readWaves .. | .acknowledge .. | .readCondition .. | .readConditions .. | .readPending ..
  | .setPager .. | .clearPager .. | .setGroup .. | .setRoute .. | .page .. | .cancelPage ..
  | .configureRadio .. | .takeOutcomes .. | .readPages .. | .readPager .. | .readGroup .. | .readRoute ..
  | .readRadio .. | .clearTrip .. | .readInterlocks .. | .poll .. | .restart .. => true

end Sys2Proof
end

