-- ==== Sys2Proof/Safety.lean ====
section
/-!
DEFINITION. The vocabulary of the statements: what a command may touch, what the control link shows of it, and the
invariants of the part.
-/

namespace Sys2Proof.Machine

/-! ## Names for the records of a state -/

abbrev State.link (s : State) : Link := s.part.desk.link
abbrev State.pager (s : State) : Pager := s.part.desk.pager
abbrev State.entry (s : State) (ch : Fin 23) : Entry := s.part.scan.entries.get ch
abbrev State.loop (s : State) (n : Fin 16) : Loop := s.part.loops.get n
abbrev State.heater (s : State) (n : Fin 16) : Heater := s.part.feeder.heaters.get n
abbrev State.oven (s : State) (n : Fin 6) : Oven := s.part.ovens.get n
abbrev State.cabinet (s : State) (n : Fin 8) : Cabinet := s.part.cabinets.get n
abbrev State.stockOf (s : State) (kind : Fin 4) : Stock := s.part.stock.get kind
abbrev State.wave (s : State) (w : Fin 12) : Option Wave := s.part.waves.get w
abbrev State.slot (s : State) (i : Fin 87) : Slot := s.part.desk.conds.get i
abbrev State.dish (s : State) : Dish := s.part.dish

/-! ## What a command may touch -/

/-- The parts of the machine that a command may change; the change set of the control link is spoken of apart. -/
structure Footprint where
  uptime    : Bool := false
  scan      : Bool := false
  loops     : Bool := false
  feeder    : Bool := false
  programs  : Bool := false
  ovens     : Bool := false
  cabinets  : Bool := false
  stock     : Bool := false
  dish      : Bool := false
  waves     : Bool := false
  interlock : Bool := false
  conds     : Bool := false
  pager     : Bool := false
deriving DecidableEq, Repr

/-- Every part outside the footprint is the same in both. -/
structure Touches (f : Footprint) (p q : Part) : Prop where
  uptime    : f.uptime = false → q.uptime = p.uptime
  scan      : f.scan = false → q.scan = p.scan
  loops     : f.loops = false → q.loops = p.loops
  feeder    : f.feeder = false → q.feeder = p.feeder
  programs  : f.programs = false → q.programs = p.programs
  ovens     : f.ovens = false → q.ovens = p.ovens
  cabinets  : f.cabinets = false → q.cabinets = p.cabinets
  stock     : f.stock = false → q.stock = p.stock
  dish      : f.dish = false → q.dish = p.dish
  waves     : f.waves = false → q.waves = p.waves
  interlock : f.interlock = false → q.interlock = p.interlock
  conds     : f.conds = false → q.desk.conds = p.desk.conds
  pager     : f.pager = false → q.desk.pager = p.desk.pager

/-- The classes of the change set whose records lie in the footprint. -/
def Footprint.allows (f : Footprint) : MarkClass → Bool
  | .channel => f.scan
  | .loop => f.loops
  | .heater => f.feeder
  | .oven => f.ovens
  | .program => f.programs
  | .cabinet => f.cabinets
  | .stock => f.stock
  | .dish => f.dish
  | .ring => f.dish
  | .wave => f.waves
  | .condition => f.conds
  | .outcomes => f.pager

/-- The link after marks, in order (R189, R190). -/
def Link.withMarks (marks : List Mark) (k : Link) : Link := marks.foldl (fun k m => k.mark m.cls m.index) k

/-- The link differs by marks of the footprint's classes alone. -/
def MarkedWithin (f : Footprint) (k l : Link) : Prop :=
  ∃ marks : List Mark, (∀ m ∈ marks, f.allows m.cls = true) ∧ l = k.withMarks marks

/-- What a block's work may do: touch the footprint, and mark what it touched. -/
structure Moves (f : Footprint) (p q : Part) : Prop where
  touches : Touches f p q
  marks   : MarkedWithin f p.desk.link q.desk.link

/-- The link with a reply built behind those that wait (R187, R188). -/
def Link.built (kind tag : Byte) (status : Status) (pieces : List (List Byte)) (k : Link) : Link :=
  { k with replies := k.replies ++ [{ kind, tag, status, pieces, buffered := false }] }

/-- A request answered: its reply stands last among the replies, an idle transmitter has taken up what waits, and all
else that changed lies in the footprint, with its marks. -/
structure Answered (f : Footprint) (kind tag : Byte) (status : Status) (pieces : List (List Byte)) (s t : State) :
    Prop where
  pending : t.pending = s.pending
  touches : Touches f s.part t.part
  link    : ∃ k, MarkedWithin f s.link k ∧ t.link = (k.built kind tag status pieces).kick

/-- An event taken: no reply is built, and all that changed lies in the footprint, with its marks. -/
structure Happened (f : Footprint) (s t : State) : Prop where
  pending : t.pending = s.pending
  touches : Touches f s.part t.part
  link    : ∃ k, MarkedWithin f s.link k ∧ t.link = k.kick

/-- The statuses of a request that is taken (R188). -/
def Status.taken : Status → Bool
  | .ok | .okTaken => true
  | .unknown | .length | .range | .state | .busy | .conflict | .empty | .faultPending | .tripped | .stale | .full =>
    false

/-! ## Frequent footprints -/

/-- A raise or a return, with what the pager controller makes of it. -/
def deskFoot : Footprint := { conds := true, pager := true }

/-- An oven state notice or a plate notice: the waves past PLANNED that it has judged, and the desk. -/
def noticeFoot : Footprint := { waves := true, conds := true, pager := true }

/-- A judgement of any wave, or its close: also the modes of its cabinets, with their loops and classes. -/
def waveFoot : Footprint :=
  { waves := true, cabinets := true, loops := true, feeder := true, conds := true, pager := true }

/-- Work of the dish tunnel unit that may remove racks: the dish, the stock, the lock of heater 15, the notices. -/
def rackFoot : Footprint :=
  { dish := true, stock := true, feeder := true, waves := true, conds := true, pager := true }

/-! ## What a command leaves alone at the desk and in the wave table -/

/-- Every slot but those listed and PAGE_UNANSWERED, which the radio arbiter may raise, is the same, and the pager
controller's tables hold what requests wrote there: the pointers and the outstanding counts are the arbiter's. -/
structure DeskKept (own : List (Fin 87)) (s t : State) : Prop where
  slots : ∀ i, i ∉ own → i ≠ unansweredSlot → t.slot i = s.slot i
  directory : ∀ e, t.pager.directory.get e =
    { s.pager.directory.get e with outstanding := (t.pager.directory.get e).outstanding }
  groups : ∀ g, t.pager.groups.get g = { s.pager.groups.get g with pointer := (t.pager.groups.get g).pointer }
  routes : t.pager.routes = s.pager.routes
  backoff : t.pager.backoff = s.pager.backoff
  rx : t.pager.rx = s.pager.rx

/-- The slots of the wave table's conditions. -/
def waveSlots : List (Fin 87) := (List.finRange 12).flatMap fun w => [platesShortSlot w, waveLateSlot w]

/-- What notices of the other units come to (R141): of the slots only those listed and the waves' own may change, and a
wave changes at most its state and flags: a PLANNED or CLOSED wave not at all, a READY or SERVING one its short flag
alone. -/
structure Noticed (own : List (Fin 87)) (s t : State) : Prop where
  desk : DeskKept (own ++ waveSlots) s t
  absent : ∀ w, s.wave w = none → t.wave w = none
  judged : ∀ w v, s.wave w = some v → ∃ u, t.wave w = some u ∧
    u = { v with state := u.state, readyLate := u.readyLate, short := u.short, late := u.late }
  standing : ∀ w v, s.wave w = some v → v.state = .planned ∨ v.state = .closed → t.wave w = some v
  serving : ∀ w v, s.wave w = some v → v.state = .ready ∨ v.state = .serving → ∃ u, t.wave w = some u ∧
    u = { v with short := u.short }

/-! ## Power-on values -/

/-- Every field at the value that the manual gives it at power-on, but for the raw levels of the lines, which are found
(R15, R41, R60, R79, R98, R125, R143, R155, R175, R177, R180, R183, R185, R195). -/
structure AtPowerOn (p : Part) : Prop where
  uptime : p.uptime = 0
  entries : ∀ ch, p.scan.entries.get ch =
    { value := 0, status := .unscanned, seq := 0, fresh := false, gain := 4500, offset := -500, enabled := true,
      runKind := none, runLen := 0 }
  firstVisit : p.scan.next = 0
  loops : ∀ n, p.loops.get n =
    { cfg :=
        { tcyc := 20, kc := 100, ti := 0, td := 0, b := 255, c := 0, n := 1, a := 0, w := 16384, satLow := 0,
          satHigh := 1000, hysteresis := 50,
          maxSetpoint := if n.val ≤ 5 then 3000 else if n.val ≤ 13 then 1000 else if n.val = 14 then 800 else 950,
          highLimit := if n.val ≤ 5 then 3200 else if n.val ≤ 13 then 1100 else if n.val = 14 then 900 else 990 },
      base := .off, inhibit := false, chFault := false, sp := 0, spf := 0, manOut := 0, ramp := 0, integ := 0,
      deriv := 0, yPrev := 0, uLast := 0, demand := 0, grant := 0, grantRound := 0, usedRound := 0, latch := false,
      timer := 20 }
  heaters : ∀ n, p.feeder.heaters.get n =
    { rated := 0, cls := if n.val < 14 then .standby else .sanitise, grant := 0, grantRound := 0, assigned := 0,
      delivered := 0, starve := 0, starved := false, locked := false, output := false }
  budget : p.feeder.limit = 0 ∧ p.feeder.reduced = 0 ∧ p.feeder.starveTime = 300 ∧ p.feeder.requested = 0 ∧
    p.feeder.applied = 0 ∧ p.feeder.pending = false ∧ p.feeder.round = 0 ∧ p.feeder.grantedTotal = 0 ∧
    p.feeder.deliveredTotal = 0 ∧ p.feeder.reducedAck = false
  programs : ∀ n, p.programs.get n = { steps := [], hold := 0, band := 100 }
  ovens : ∀ n, p.ovens.get n =
    { state := .idle, program := 0, step := 0, elapsed := 0, stepEnd := .none, doorOpen := false, start := 0,
      outcome := .none }
  cabinets : ∀ n, p.cabinets.get n =
    { kind := 0, capacity := 120, standbySp := 500, serviceSp := 800, readyTemp := 650, warmTime := 1200, lowMark := 20,
      mode := .off, waveSlot := none, waveSet := false, batches := [] }
  stock : ∀ kind, p.stock.get kind = { total := 0, soiled := 0, tunnel := 0, clean := 0, issued := 0 }
  dish : p.dish =
    { cfg :=
        { washSp := 650, washMin := 600, boosterSp := 850, rinseReady := 820, dose := 1100, tunnelLength := 3000,
          washStart := 600, washEnd := 1800, rinseStart := 2200, rinseEnd := 2600, exitTolerance := 150 },
      state := .off, reasons := { door := false, overload := false, lost := false, trip := false }, tankWarm := false,
      boosterHot := false, coldTimer := 0, washCold := false, rinseFail := false, conveyor := false, gateOpen := false,
      valveOpen := false, rackCounter := 0, lastEntry := none, declared := [], queue := [], ring := [],
      overwrites := 0 }
  waves : ∀ w, p.waves.get w = none
  conds : ∀ i, p.desk.conds.get i = { state := .normal, count := 0, first := 0, last := 0, param := 0 }
  directory : ∀ e, p.desk.pager.directory.get e = { address := 0, groups := 0, duty := false, outstanding := 0 }
  groups : ∀ g, p.desk.pager.groups.get g = { escalation := none, limit := 3, timeout := 60, pointer := 63 }
  routes : ∀ r, p.desk.pager.routes.get r = { enabled := false, group := 0, priority := 3, code := 0 }
  pages : p.desk.pager.queue = [] ∧ p.desk.pager.outcomes = []
  radio : p.desk.pager.port = .idle ∧ p.desk.pager.backoff = 1000 ∧ p.desk.pager.pageCounter = 0 ∧
    p.desk.pager.tagCounter = 0 ∧ p.desk.pager.rx = .hunt
  lines : ∀ i, (p.interlock.lines.get i).filtered = false ∧ (p.interlock.lines.get i).timing = true
  trip : p.interlock.trip = false ∧ p.interlock.driveEnable = true ∧ p.interlock.travel = 0
  link : p.desk.link =
    { rx := .hunt, buffers := [], replies := [], tx := .idle, attentions := [], changeSet := [], attention := false }
  justClosed : p.justClosed = none

/-! ## Invariants -/

/-- The ranges of section 2.1.1, with the low limit below the high limit (R38). -/
structure LoopConfig.InRange (g : LoopConfig) : Prop where
  tcyc : 10 ≤ g.tcyc ∧ g.tcyc ≤ 600
  kc : 1 ≤ g.kc ∧ g.kc ≤ 99999
  ti : g.ti ≤ 99999
  td : g.td ≤ 99999
  b : g.b ≤ 255
  c : g.c ≤ 255
  n : 1 ≤ g.n ∧ g.n ≤ 255
  a : g.a ≤ 65535
  w : 1 ≤ g.w ∧ g.w ≤ 65535
  sat : g.satLow < g.satHigh ∧ g.satHigh ≤ 1000
  maxSetpoint : g.maxSetpoint ≤ 4000
  highLimit : g.highLimit ≤ 4000
  hysteresis : g.hysteresis ≤ 200

/-- A loop record in its ranges: the bound of R23 on I, the setpoint within R31, the manual output within the limits, the
demand as R25 says of each reported mode, the ramp within R37. -/
structure Loop.InRange (l : Loop) : Prop where
  cfg : l.cfg.InRange
  integ : -1000000 ≤ l.integ ∧ l.integ ≤ 1000000
  sp : 0 ≤ l.sp ∧ l.sp ≤ l.cfg.maxSetpoint
  ramp : -1000 ≤ l.ramp ∧ l.ramp ≤ 1000
  manOut : l.cfg.satLow ≤ l.manOut ∧ l.manOut ≤ l.cfg.satHigh
  heating : l.latch = false → l.mode = .auto ∨ l.mode = .manual →
    l.cfg.satLow ≤ l.demand ∧ l.demand ≤ l.cfg.satHigh
  latched : l.latch = true → l.demand = 0
  resting : l.mode ≠ .auto → l.mode ≠ .manual → l.demand = 0

/-- R23, R25, R34: every loop is in its ranges, and loops 6 to 15 are never inhibited. -/
structure LoopsInRange (p : Part) : Prop where
  record : ∀ n, (p.loops.get n).InRange
  inhibit : ∀ n : Fin 16, 6 ≤ n.val → (p.loops.get n).inhibit = false

/-- R44, R46, R47, R50, R51: the grants keep to the applied budget, the totals are the sums, the requested budget and
REDUCED_ACK follow the filtered line, and the wash tank and the booster are SANITISE. -/
structure BudgetKept (p : Part) : Prop where
  delivered : ∀ n, (p.feeder.heaters.get n).delivered ≤ (p.feeder.heaters.get n).assigned
  granted : p.feeder.grantedTotal = ((List.finRange 16).map fun n => (p.feeder.heaters.get n).assigned).sum
  total : p.feeder.deliveredTotal = ((List.finRange 16).map fun n => (p.feeder.heaters.get n).delivered).sum
  within : p.feeder.grantedTotal ≤ p.feeder.applied
  requested : p.feeder.requested = if p.asserted .feederReduce then p.feeder.reduced else p.feeder.limit
  ack : p.feeder.reducedAck = true ↔ p.asserted .feederReduce = true ∧ p.feeder.applied = p.feeder.reduced
  sanitise : (p.feeder.heaters.get 14).cls = .sanitise ∧ (p.feeder.heaters.get 15).cls = .sanitise

/-- The plates of a kind on the racks of the tunnel queue. -/
def Dish.plates (kind : Fin 4) (d : Dish) : Nat :=
  (d.queue.map fun r => if r.kind = some kind then r.count else 0).sum

/-- R84, R87: the locations of each kind sum to its total, the tunnel count is what the racks hold, and no cabinet holds
more than its capacity or more than 8 batches, or an empty batch. -/
structure PlatesKept (p : Part) : Prop where
  sum : ∀ kind, (p.stock.get kind).soiled + (p.stock.get kind).tunnel + (p.stock.get kind).clean +
    (p.stock.get kind).issued + p.heldOfKind kind = (p.stock.get kind).total
  tunnel : ∀ kind, (p.stock.get kind).tunnel = p.dish.plates kind
  total : ∀ kind, (p.stock.get kind).total ≤ 65535
  capacity : ∀ n, (p.cabinets.get n).held ≤ (p.cabinets.get n).capacity
  batches : ∀ n, (p.cabinets.get n).batches.length ≤ 8
  nonempty : ∀ n, ∀ b ∈ (p.cabinets.get n).batches, 1 ≤ b.count

/-- R103, R107, R111 to R113, R116, R49: the lengths of the lists, the conveyor, gate and valve as their terms say, and
heater 15 locked exactly while the valve is open. -/
structure TunnelKept (p : Part) : Prop where
  queue : p.dish.queue.length ≤ 12
  ring : p.dish.ring.length ≤ 64
  declared : p.dish.declared.length ≤ 8
  conveyor : p.dish.conveyor = true ↔ p.dish.state = .running
  gate : p.dish.gateOpen = p.gateTerms
  valve : p.dish.valveOpen = p.dish.valveTerms
  lock : (p.feeder.heaters.get 15).locked = p.dish.valveOpen
  reasons : p.dish.state = .held ↔ p.dish.reasons.isEmpty = false
  zones : p.dish.cfg.washStart < p.dish.cfg.washEnd ∧ p.dish.cfg.rinseStart < p.dish.cfg.rinseEnd

/-- R55, R77, R121, R181, R182: while the trip state holds the drive enable is removed, nothing is granted and no output
is on, every oven is IDLE, and the tunnel is OFF or HELD with the reason TRIP. -/
structure TripHeld (p : Part) : Prop where
  drive : p.interlock.driveEnable = !p.interlock.trip
  heaters : p.interlock.trip = true → ∀ n, (p.feeder.heaters.get n).grant = 0 ∧
    (p.feeder.heaters.get n).delivered = 0 ∧ (p.feeder.heaters.get n).output = false
  ovens : p.interlock.trip = true → ∀ n, (p.ovens.get n).state = .idle
  tunnel : p.interlock.trip = true → p.dish.state = .off ∨ p.dish.state = .held ∧ p.dish.reasons.trip = true

/-- R34, R76: an oven's door field follows its filtered line, loop n is inhibited exactly while the door of an oven that
is not IDLE is open, the loop of an oven in IDLE or FINISHED is OFF, and a run in PREHEATING or COOKING is at a step of
its program. -/
structure OvensKept (p : Part) : Prop where
  door : ∀ n, (p.ovens.get n).doorOpen = p.asserted (.ovenDoor n)
  inhibit : ∀ n, (p.loops.get (ovenLoop n)).inhibit =
    ((p.ovens.get n).doorOpen && decide ((p.ovens.get n).state ≠ .idle))
  resting : ∀ n, (p.ovens.get n).state = .idle ∨ (p.ovens.get n).state = .finished →
    (p.loops.get (ovenLoop n)).base = .off
  step : ∀ n, (p.ovens.get n).state = .preheating ∨ (p.ovens.get n).state = .loadWait ∨
      (p.ovens.get n).state = .cooking →
    1 ≤ (p.ovens.get n).step ∧ (p.ovens.get n).step ≤ (p.programs.get (p.ovens.get n).program).steps.length

/-- The wave in a slot lists a cabinet and holds it (R128). -/
def Part.holdsCabinet (w : Fin 12) (n : Fin 8) (p : Part) : Prop :=
  ∃ v, p.waves.get w = some v ∧ v.holds = true ∧ n ∈ v.cabinets

/-- The wave in a slot lists an oven and holds it (R128). -/
def Part.holdsOven (w : Fin 12) (n : Fin 6) (p : Part) : Prop :=
  ∃ v, p.waves.get w = some v ∧ v.holds = true ∧ n ∈ v.ovens

/-- R83, R127, R128: wave numbers are used once, no cabinet and no oven is held by two waves, and a cabinet's wave slot
names the wave that holds it. -/
structure WavesApart (p : Part) : Prop where
  numbers : ∀ w x v u, p.waves.get w = some v → p.waves.get x = some u → v.number = u.number → w = x
  cabinets : ∀ w x n, p.holdsCabinet w n → p.holdsCabinet x n → w = x
  ovens : ∀ w x n, p.holdsOven w n → p.holdsOven x n → w = x
  slot : ∀ w n, (p.cabinets.get n).waveSlot = some w ↔ p.holdsCabinet w n

/-- R147: an event-kind slot is never ACTIVE or ACKED. -/
def EventKindsReturned (p : Part) : Prop :=
  ∀ i, isEventKind i = true →
    (p.desk.conds.get i).state = .normal ∨ (p.desk.conds.get i).state = .returned

/-- R159, R161, R173: the queue holds at most 32 pages in order of priority under different ids, at most one of each
source but the host, latches on pages of such sources alone, and at most 16 outcome records. -/
structure PagesKept (g : Pager) : Prop where
  length : g.queue.length ≤ 32
  order : g.queue.Pairwise fun a b => a.priority ≤ b.priority
  ids : (g.queue.map Page.id).Nodup
  sources : g.queue.Pairwise fun a b => a.source = b.source → ∃ tag, a.source = .host tag
  latches : ∀ page ∈ g.queue, page.latch.isSome = true → routeOf page.source ≠ none
  outcomes : g.outcomes.length ≤ 16

/-- The number of records of a class of the change set (R189). -/
def MarkClass.size : MarkClass → Nat
  | .channel => 23
  | .loop => 16
  | .heater => 16
  | .oven => 6
  | .program => 16
  | .cabinet => 8
  | .stock => 4
  | .dish => 1
  | .ring => 1
  | .wave => 12
  | .condition => 87
  | .outcomes => 1

/-- R187, R193: every buffered frame that is not yet taken stands behind the reply of a RESTART that was taken and has
not gone; behind any other reply a frame is taken at its completion (log entry 5). -/
def WaitsBehindRestart (k : Link) : Prop :=
  ∀ b ∈ k.buffers, b.taken = false → ∃ r ∈ k.replies, r.kind = 0xF1 ∧ r.status = .ok

/-- R187, R189, R190, R193: at most two buffers are held, and a frame waits untaken only behind a RESTART; each pair
stands once in the change set, which names records that exist and so holds at most 191 marks, and a set that is not
empty has attention outstanding. -/
structure LinkKept (k : Link) : Prop where
  buffers : k.buffers.length ≤ 2
  waiting : WaitsBehindRestart k
  once : k.changeSet.Nodup
  named : ∀ m ∈ k.changeSet, m.index < m.cls.size
  bound : k.changeSet.length ≤ 191
  attention : k.changeSet ≠ [] → k.attention = true

/-- R14, R40, R59, R78, R97, R124, R142, R154: a record whose shown fields differ stands in the change set after. -/
structure Reported (p q : Part) : Prop where
  channel : ∀ ch, (q.scan.entries.get ch).value ≠ (p.scan.entries.get ch).value ∨
    (q.scan.entries.get ch).status ≠ (p.scan.entries.get ch).status → ⟨.channel, ch.val⟩ ∈ q.desk.link.changeSet
  loop : ∀ n, (q.loops.get n).shown ≠ (p.loops.get n).shown → ⟨.loop, n.val⟩ ∈ q.desk.link.changeSet
  heater : ∀ n, (q.feeder.heaters.get n).shown ≠ (p.feeder.heaters.get n).shown →
    ⟨.heater, n.val⟩ ∈ q.desk.link.changeSet
  oven : ∀ n, (q.ovens.get n).shown ≠ (p.ovens.get n).shown → ⟨.oven, n.val⟩ ∈ q.desk.link.changeSet
  program : ∀ n, q.programs.get n ≠ p.programs.get n → ⟨.program, n.val⟩ ∈ q.desk.link.changeSet
  cabinet : ∀ n, (q.cabinets.get n).shown ≠ (p.cabinets.get n).shown → ⟨.cabinet, n.val⟩ ∈ q.desk.link.changeSet
  stock : ∀ kind, q.stock.get kind ≠ p.stock.get kind → ⟨.stock, kind.val⟩ ∈ q.desk.link.changeSet
  dish : q.dish.shown ≠ p.dish.shown → ⟨.dish, 0⟩ ∈ q.desk.link.changeSet
  ring : q.dish.ring ≠ p.dish.ring ∨ q.dish.overwrites ≠ p.dish.overwrites → ⟨.ring, 0⟩ ∈ q.desk.link.changeSet
  wave : ∀ w, (q.waves.get w).map Wave.shown ≠ (p.waves.get w).map Wave.shown →
    ⟨.wave, w.val⟩ ∈ q.desk.link.changeSet
  condition : ∀ i, q.desk.conds.get i ≠ p.desk.conds.get i → ⟨.condition, i.val⟩ ∈ q.desk.link.changeSet
  outcomes : q.desk.pager.outcomes ≠ p.desk.pager.outcomes → ⟨.outcomes, 0⟩ ∈ q.desk.link.changeSet

end Sys2Proof.Machine
end

