-- ==== Sys2Proof/Certificates/Slice0/Obligations.lean ====
section
/-!
DEFINITION. The statements for the provers. Each is a proposition over the model's own `exec` and `step`; the rules of
spec/ that each follows are named in its docstring.
-/

open Sys2Proof Sys2Proof.Machine

/-! ## The machine -/

/-- A step takes the command at the front of the queue and runs it on the state with the queue's rest; with no command
waiting the block idles (log entry 8). -/
def Obligations.StepRunsFrontCommand : Prop :=
  (∀ (c : Instr) (rest : List Instr) (s : State), s.pending = c :: rest → step s = exec c { s with pending := rest }) ∧
  ∀ s : State, s.pending = [] → step s = .next s

/-- POWER_ON puts every field at its power-on value, from any state: the raw levels of the lines stay as they are
found, and so does the sender's queue (log entries 14, 15 and 28). No wave stands as just closed (log entry 41). The
state after reset holds the same values. -/
def Obligations.PowerOnSetsEveryField : Prop :=
  (∀ s : State, ∃ t, exec .powerOn s = .next t ∧ t.pending = s.pending ∧ AtPowerOn t.part ∧
    ∀ i, (t.part.interlock.lines.get i).raw = (s.part.interlock.lines.get i).raw) ∧
  AtPowerOn State.reset.part ∧ State.reset.pending = []

/-- The state after reset meets every invariant that the statements below say each step keeps. -/
def Obligations.ResetMeetsEveryInvariant : Prop :=
  LoopsInRange State.reset.part ∧ BudgetKept State.reset.part ∧ PlatesKept State.reset.part ∧
  TunnelKept State.reset.part ∧ TripHeld State.reset.part ∧ OvensKept State.reset.part ∧
  WavesApart State.reset.part ∧ EventKindsReturned State.reset.part ∧ PagesKept State.reset.pager ∧
  LinkKept State.reset.link

/-- A request row does what its owning block does with the request, and the reply is built under the request's kind and
tag. The row is taken whatever the receive buffers hold, and its reply holds none: the model's choice (log entry 4).
-/
def Obligations.RequestsRunTheirOwningRule : Prop :=
  ∀ (c : Instr) (s : State) (f : RequestFrame), encodeRequest c = some f →
    exec c s = .next (s.answer f.kind f.tag (performRequest c s.part))

/-- "A refused request changes nothing" but the reply that it gets (R188): an UNKNOWN or LENGTH frame and every
request that its owning block refuses; but for STALE, the reply carries no field. -/
def Obligations.RefusedRequestsChangeNothing : Prop :=
  ∀ (f : Frame) (p q : Part) (a : Answer), performFrame f p = (q, a) → a.status.taken = false →
    q = p ∧ (a.status ≠ .stale → a.pieces = [])

/-- Every well-formed request goes onto the wire and comes back from the decoder as itself, with every operand. -/
def Obligations.RequestsDecodeToThemselves : Prop :=
  ∀ c : Instr, c.wellFormed = true → ∀ f : RequestFrame, encodeRequest c = some f →
    decodeRequest f.kind f.tag f.payload = .request c ∧ f.payload.length ≤ 240

/-! ## What triggers and terminal outcomes make of the page queue (R159 to R162)

Each proposition relates the pager controller before, `g`, with the one after, `h`, while the radio port is busy. -/

/-- The page id after a counter, ids that pages hold passed over (R159). -/
def Sys2Proof.Machine.nextFree (held : List Half) (counter id : Half) : Prop :=
  ∃ k, k ≤ held.length ∧ id = counter + 1 + BitVec.ofNat 16 k ∧ id ∉ held ∧
    ∀ j, j < k → counter + 1 + BitVec.ofNat 16 j ∈ held

/-- A page as it is created: QUEUED, nothing tried, every mark clear (R160). -/
def Sys2Proof.Machine.newPage (id : Half) (source : Source) (group : Fin 8) (priority : Fin 4) (code : Byte)
    (param : Half) : Page :=
  { id, source, group, current := group, priority, code, param, state := .queued, attempts := 0, tried := [],
    target := none, broadcast := false, escalated := false, deadline := none, declineMark := false, cancelMark := false,
    latch := none }

/-- A page joins a queue behind every page of its priority or a more urgent one (R159). -/
def Sys2Proof.Machine.joins (page : Page) (before after : List Page) : Prop :=
  ∃ ahead behind, before = ahead ++ behind ∧ after = ahead ++ page :: behind ∧
    (∀ q ∈ ahead, q.priority ≤ page.priority) ∧ ∀ q ∈ behind.head?, page.priority < q.priority

/-- A page is created for a source by a route: it takes the next free id, and joins a queue with room. A queue of 32
pages drops its worst QUEUED page, the newest of the largest priority number, where the new page is more urgent, and
the new page at once where it is not (R160, R161). The id is chosen while the worst page still holds its own: the
model's choice (log entry 35). -/
def Sys2Proof.Machine.created (now : Word) (source : Source) (route : Route) (param : Half) (g h : Pager) : Prop :=
  g.queue.length ≤ 32 → ∃ id, nextFree (g.queue.map Page.id) g.pageCounter id ∧
    let page := newPage id source route.group route.priority route.code param
    let dropped (q : Page) : OutcomeRecord :=
      { id := q.id, source := q.source, outcome := .dropped, pager := none, uptime := now }
    (g.queue.length < 32 → h = { g with pageCounter := id, queue := h.queue } ∧ joins page g.queue h.queue) ∧
    (g.queue.length = 32 → (∀ q ∈ g.queue, q.state = .queued → q.priority ≤ page.priority) →
      h = { g with pageCounter := id, outcomes := appendOutcome (dropped page) g.outcomes }) ∧
    (g.queue.length = 32 → PagesKept g → ∀ ahead behind, g.queue = ahead ++ behind → ∀ worst rest,
      behind = worst :: rest → worst.state = .queued → page.priority < worst.priority →
      (∀ q ∈ ahead, q.state = .queued → q.priority ≤ worst.priority) →
      (∀ q ∈ rest, q.state = .queued → q.priority < worst.priority) →
      h = { g with
        pageCounter := id, queue := h.queue, outcomes := appendOutcome (dropped worst) g.outcomes } ∧
      joins page (ahead ++ rest) h.queue)

/-- A trigger by the route of its kind and its source's page: nothing where the route is disabled, the latch where the
source has a page, a page created where it has none (R160). -/
def Sys2Proof.Machine.triggered (now : Word) (source : Source) (kind : Fin 16) (param : Half) (g h : Pager) : Prop :=
  let route := g.routes.get kind
  (route.enabled = false → h = g) ∧
  (route.enabled = true → ∀ page, findSource source g.queue = some page →
    h = { g with queue := updatePage page.id (fun q => { q with latch := some param }) g.queue }) ∧
  (route.enabled = true → (∀ q ∈ g.queue, q.source ≠ source) → created now source route param g h)

/-- The latch of a page that has left the queue with a terminal outcome: where it was set, it makes a page by its route
as it then stands (R162). -/
def Sys2Proof.Machine.latchTurned (now : Word) (page : Page) (g h : Pager) : Prop :=
  (page.latch = none → h = g) ∧
  ∀ param, page.latch = some param →
    (routeOf page.source = none → h = g) ∧
    ∀ kind, routeOf page.source = some kind →
      ((g.routes.get kind).enabled = false → h = g) ∧
      ((g.routes.get kind).enabled = true → created now page.source (g.routes.get kind) param g h)

/-- A page ends: its record joins the outcome list, it leaves the queue, and its latch is looked at (R162). -/
def Sys2Proof.Machine.ends (now : Word) (page : Page) (outcome : PageOutcome) (answerer : Option (Fin 64)) (g h : Pager) :
    Prop :=
  latchTurned now page
    { g with
      queue := g.queue.filter fun q => decide (q.id ≠ page.id)
      outcomes := appendOutcome { id := page.id, source := page.source, outcome, pager := answerer, uptime := now }
        g.outcomes } h

/-- A page ends unanswered: as above, and PAGE_UNANSWERED's occurrence sends its own trigger, but for a page of that
slot itself (R171, R148). -/
def Sys2Proof.Machine.endsUnanswered (now : Word) (page : Page) (outcome : PageOutcome) (g h : Pager) : Prop :=
  ∃ left, ends now page outcome none g left ∧
    (page.source = .slot unansweredSlot → h = left) ∧
    (page.source ≠ .slot unansweredSlot → triggered now (.slot unansweredSlot) 9 page.id left h)

/-- A cancel notice for a source while the port is busy: nothing where the source has no page; else its latch is
cleared, and its page becomes CANCELLED in QUEUED and in AWAITING, where the target's outstanding count goes down
after a transmission to it alone, and takes its cancel mark ON_AIR (R172). -/
def Sys2Proof.Machine.noticeCancels (now : Word) (source : Source) (g h : Pager) : Prop :=
  ((∀ q ∈ g.queue, q.source ≠ source) → h = g) ∧
  ∀ page, findSource source g.queue = some page →
    let fewer (e : Fin 64) : PagerEntry :=
      { g.directory.get e with outstanding := (g.directory.get e).outstanding - 1 }
    let released : Pager := match page.broadcast, page.target with
      | false, some e => { g with directory := g.directory.set e (fewer e) }
      | _, _ => g
    (page.state = .queued → ends now { page with latch := none } .cancelled none g h) ∧
    (page.state = .awaiting → ends now { page with latch := none } .cancelled none released h) ∧
    (page.state = .onAir →
      h = { g with queue := updatePage page.id (fun q => { q with latch := none, cancelMark := true }) g.queue })

/-- Cancel notices for a list of sources, in order, while the port is busy (R172). -/
def Sys2Proof.Machine.noticesCancel (now : Word) : List Source → Pager → Pager → Prop
  | [], g, h => h = g
  | source :: rest, g, h => ∃ next, noticeCancels now source g next ∧ noticesCancel now rest next h

/-- What a cancel notice leaves of its source's pages, whatever the port: none but one ON_AIR, to be CANCELLED when its
transmission ends, with no latch (R172). -/
def Sys2Proof.Machine.noPageBut (source : Source) (h : Pager) : Prop :=
  ∀ page ∈ h.queue, page.source = source → page.state = .onAir ∧ page.cancelMark = true ∧ page.latch = none

/-! ## What every step keeps -/

/-- R23, R25, R31, R34: the ranges of every loop record. -/
def Obligations.StepsKeepLoopsInRange : Prop :=
  ∀ s : State, LoopsInRange s.part → ∀ t, step s = .next t → LoopsInRange t.part

/-- R44, R46, R47, R50, R51: the grants within the applied budget, the totals, the requested budget, REDUCED_ACK. -/
def Obligations.StepsKeepTheBudget : Prop :=
  ∀ s : State, BudgetKept s.part → ∀ t, step s = .next t → BudgetKept t.part

/-- R84, R87: "Every move of R88 to R93 keeps this sum", and so does every other command. -/
def Obligations.StepsKeepThePlates : Prop :=
  ∀ s : State, PlatesKept s.part → ∀ t, step s = .next t → PlatesKept t.part

/-- R103, R107, R109, R111 to R113, R116, R49, R55, R77, R121, R181, R182: the tunnel's lists, outputs, hold reasons
and lock, and what the trip state holds off. -/
def Obligations.StepsKeepTheTunnelAndTheTripState : Prop :=
  ∀ s : State, TunnelKept s.part ∧ TripHeld s.part → ∀ t, step s = .next t → TunnelKept t.part ∧ TripHeld t.part

/-- R34, R62, R63, R73, R76: doors, inhibits, resting loops and the step of a run. -/
def Obligations.StepsKeepTheOvens : Prop :=
  ∀ s : State, OvensKept s.part → ∀ t, step s = .next t → OvensKept t.part

/-- R83, R127, R128: "No cabinet and no oven is listed in two waves of which neither is EMPTY or CLOSED". -/
def Obligations.StepsKeepWavesApart : Prop :=
  ∀ s : State, WavesApart s.part → ∀ t, step s = .next t → WavesApart t.part

/-- R147: "An event-kind slot is never ACTIVE or ACKED when read". R159, R161, R173: the page queue and the outcome
list. -/
def Obligations.StepsKeepTheDesk : Prop :=
  (∀ s : State, EventKindsReturned s.part → ∀ t, step s = .next t → EventKindsReturned t.part) ∧
  ∀ s : State, PagesKept s.pager → ∀ t, step s = .next t → PagesKept t.pager

/-- R187, R189, R190, R193: the receive buffers, of which one that holds an untaken frame stands behind a RESTART whose
reply has not gone (log entry 5), the change set and attention. -/
def Obligations.StepsKeepTheLink : Prop :=
  ∀ s : State, LinkKept s.link → ∀ t, step s = .next t → LinkKept t.link

/-- R14, R40, R59, R78, R97, R124, R142, R154, R173: whatever a command but POWER_ON does, a record whose shown fields
it changed stands in the change set afterwards. The premise, that a frame waits untaken only behind a RESTART whose
reply has not gone (log entry 5), is a clause of what every step keeps of the link (R187, R193) and is met at reset:
without it one step could take two frames, and the second, a POLL, would remove the mark that the first had set. -/
def Obligations.StepsReportWhatTheyChange : Prop :=
  ∀ (c : Instr) (s : State), c ≠ .powerOn → WaitsBehindRestart s.link →
    ∀ t, exec c s = .next t → Reported s.part t.part

/-! ## Chapter 1: probes -/

/-- R1 to R7: a visit to an enabled channel takes one sample of the raw reading and applies it as one whole update,
with the raise or the return of the channel's PROBE_FAULT; every other entry and every other slot but PAGE_UNANSWERED
(which the radio arbiter may raise) stays. A visit to a disabled channel takes no sample. R9, R114, R117: a
sample of channel 20 that updates its value (a good one in UNSCANNED or OK, or the third in a row in a fault) lowers
the wash minimum of every rack in the wash zone while RUNNING, and one of channel 22 adds to the dose of every rack in
the rinse zone while the valve is open; nothing else of the dish changes, and nothing of it at any other sample. -/
def Obligations.ScanVisitAppliesItsSample : Prop :=
  ((∀ (s : State) (raw : Half) (ch : Fin 23), s.part.scan.next = ch → ∀ e : Entry, s.entry ch = e →
    ∀ kind : SampleKind,
    (kind = if 65280 ≤ raw.toNat then .openBad else if 256 ≤ raw.toNat then .good else .shortBad) →
    e.enabled = true →
    ∃ t, exec (.scanVisit raw) s = .next t ∧
      Happened { scan := true, dish := true, conds := true, pager := true } s t ∧
      t.part.scan.next.val = (ch.val + 1) % 23 ∧ t.part.scan.select = ch ∧
      (∀ m, m ≠ ch → t.entry m = s.entry m) ∧
      (∀ i, i ≠ probeSlot ch → i ≠ unansweredSlot → t.slot i = s.slot i) ∧
      t.dish = { s.dish with queue := t.dish.queue } ∧ (ch ≠ 20 → ch ≠ 22 → t.dish = s.dish) ∧
      let reaches := e.runKind = some kind ∧ e.runLen = 2
      let counted := { e with
        seq := e.seq + 1, fresh := true, runKind := some kind
        runLen := if e.runKind = some kind then min 3 (e.runLen + 1) else 1 }
      let temperature := clamp (-500) 4000 (e.offset + trunc ((raw.toNat : Int) * e.gain) 65536)
      let waiting := e.status = .unscanned ∨ e.status = .ok
      let faulted := e.status = .openFault ∨ e.status = .shortFault
      (kind = .good → waiting → t.entry ch = { counted with status := .ok, value := temperature } ∧
        t.slot (probeSlot ch) = s.slot (probeSlot ch)) ∧
      (kind = .good → faulted → reaches → t.entry ch = { counted with status := .ok, value := temperature } ∧
        t.slot (probeSlot ch) = (s.slot (probeSlot ch)).ret) ∧
      (kind = .good → faulted → ¬ reaches → t.entry ch = counted ∧
        t.slot (probeSlot ch) = s.slot (probeSlot ch)) ∧
      (kind = .openBad → reaches → waiting ∨ e.status = .shortFault →
        t.entry ch = { counted with status := .openFault } ∧
        t.slot (probeSlot ch) = (s.slot (probeSlot ch)).raise s.part.uptime raw) ∧
      (kind = .shortBad → reaches → waiting ∨ e.status = .openFault →
        t.entry ch = { counted with status := .shortFault } ∧
        t.slot (probeSlot ch) = (s.slot (probeSlot ch)).raise s.part.uptime raw) ∧
      (kind = .openBad → ¬ reaches ∨ e.status = .openFault →
        t.entry ch = counted ∧ t.slot (probeSlot ch) = s.slot (probeSlot ch)) ∧
      (kind = .shortBad → ¬ reaches ∨ e.status = .shortFault →
        t.entry ch = counted ∧ t.slot (probeSlot ch) = s.slot (probeSlot ch))) ∧
  ∀ (s : State) (raw : Half), (s.entry s.part.scan.next).enabled = false →
    exec (.scanVisit raw) s =
      .next (s.event { s.part with scan := { s.part.scan with next := nextChannel s.part.scan.next } })) ∧
  ∀ (s : State) (raw : Half),
    let d := s.dish
    let e := s.entry s.part.scan.next
    let good := 256 ≤ raw.toNat ∧ raw.toNat < 65280
    let third := e.runKind = some .good ∧ e.runLen = 2
    let updates := good ∧ (e.status = .unscanned ∨ e.status = .ok ∨
      (e.status = .openFault ∨ e.status = .shortFault) ∧ third)
    let value := clamp (-500) 4000 (e.offset + trunc ((raw.toNat : Int) * e.gain) 65536)
    let inZone (start stop : Nat) (r : Rack) : Bool :=
      decide (start + 250 ≤ r.position) && decide (r.position ≤ stop + 250)
    let lowest (r : Rack) : Int := match r.washMin with | none => value | some low => min low value
    let wash (r : Rack) : Rack :=
      if inZone d.cfg.washStart d.cfg.washEnd r then { r with washMin := some (lowest r) } else r
    let added := (max 0 (trunc (min value 900 - 710) 4)).toNat
    let rinse (r : Rack) : Rack :=
      if inZone d.cfg.rinseStart d.cfg.rinseEnd r then { r with dose := min 65535 (r.dose + added) } else r
    e.enabled = true →
    ∃ t, exec (.scanVisit raw) s = .next t ∧ (¬ updates → t.dish = d) ∧
      (updates → t.part.reading s.part.scan.next = some value ∧
        (s.part.scan.next = 20 → d.state = .running → t.dish = { d with queue := d.queue.map wash }) ∧
        (s.part.scan.next = 20 → d.state ≠ .running → t.dish = d) ∧
        (s.part.scan.next = 22 → d.valveOpen = true → t.dish = { d with queue := d.queue.map rinse }) ∧
        (s.part.scan.next = 22 → d.valveOpen = false → t.dish = d))

/-- R10: READ CHANNEL and READ CHANNELS answer the entries as they stood and then clear the fresh mark of each; no
mark joins the change set (the count byte of READ CHANNELS is read from R194: log entry 12). Outside the channels they
are refused with RANGE. R11 to R14: a CONFIGURE CHANNEL in range
stores gain, offset and enable; a change of the enable restarts the judgement, and disabling a faulted channel returns
its PROBE_FAULT. Out of range it is refused with RANGE. -/
def Obligations.ChannelRequestsServeTheTable : Prop :=
  ((∀ (s : State) (tag channel : Byte) (h : channel.toNat < 23),
    exec (.readChannel tag channel) s = .next (s.answer 0x10 tag
      ({ s.part with scan := { s.part.scan with
          entries := s.part.scan.entries.set ⟨channel.toNat, h⟩
            { s.entry ⟨channel.toNat, h⟩ with fresh := false } } },
        { status := .ok, pieces := [(s.entry ⟨channel.toNat, h⟩).bytes ⟨channel.toNat, h⟩] }))) ∧
  (∀ (s : State) (tag channel : Byte), 23 ≤ channel.toNat →
    exec (.readChannel tag channel) s = .next (s.answer 0x10 tag (s.part, { status := .range }))) ∧
  (∀ (s : State) (tag first count : Byte), 1 ≤ count.toNat → first.toNat + count.toNat ≤ 23 →
    ∃ t, exec (.readChannels tag first count) s = .next t ∧ t.pending = s.pending ∧
      Touches { scan := true } s.part t.part ∧
      t.part.scan.next = s.part.scan.next ∧ t.part.scan.select = s.part.scan.select ∧
      (∀ ch : Fin 23, t.entry ch =
        if first.toNat ≤ ch.val ∧ ch.val < first.toNat + count.toNat then { s.entry ch with fresh := false }
        else s.entry ch) ∧
      t.link = (s.link.built 0x11 tag .ok
        (listPieces ((channelRun first.toNat count.toNat).map fun ch => (s.entry ch).bytes ch))).kick) ∧
  ∀ (s : State) (tag first count : Byte), count.toNat = 0 ∨ 23 < first.toNat + count.toNat →
    exec (.readChannels tag first count) s = .next (s.answer 0x11 tag (s.part, { status := .range }))) ∧
  (∀ (s : State) (tag channel enable : Byte) (gain offset : Half) (h : channel.toNat < 23), gain.toNat ≠ 0 →
    -1000 ≤ offset.toInt → offset.toInt ≤ 1000 → enable.toNat ≤ 1 →
    let ch : Fin 23 := ⟨channel.toNat, h⟩
    let e := s.entry ch
    let on := decide (enable.toNat = 1)
    ∃ t, exec (.configureChannel tag channel gain offset enable) s = .next t ∧
      Answered { scan := true, conds := true } 0x12 tag .ok [] s t ∧
      t.part.scan.next = s.part.scan.next ∧ t.part.scan.select = s.part.scan.select ∧
      (∀ m, m ≠ ch → t.entry m = s.entry m) ∧
      (e.enabled = on → t.entry ch = { e with gain := gain.toNat, offset := offset.toInt }) ∧
      (e.enabled ≠ on → t.entry ch = { e with
        gain := gain.toNat, offset := offset.toInt, enabled := on
        status := if on then .unscanned else .disabled, runKind := none, runLen := 0 }) ∧
      (∀ i, i ≠ probeSlot ch → t.slot i = s.slot i) ∧
      t.slot (probeSlot ch) =
        (if e.enabled && !on && decide (e.status = .openFault ∨ e.status = .shortFault) then
          (s.slot (probeSlot ch)).ret else s.slot (probeSlot ch)) ∧
      ⟨.channel, ch.val⟩ ∈ t.link.changeSet) ∧
  ∀ (s : State) (tag channel enable : Byte) (gain offset : Half),
    23 ≤ channel.toNat ∨ gain.toNat = 0 ∨ offset.toInt < -1000 ∨ 1000 < offset.toInt ∨ 2 ≤ enable.toNat →
    exec (.configureChannel tag channel gain offset enable) s =
      .next (s.answer 0x12 tag (s.part, { status := .range }))

/-! ## Chapter 2: loops -/

/-- R18 to R25: a cycle of a loop whose channel reads OK, and whose reported mode is AUTO once R19 has cleared a
channel fault flag, runs the six stages of the manual in order, and judges the overtemp latch first. In the cycle that
clears the flag no windup is corrected and y_prev is taken equal to y. Every other loop stays, and nothing changes but
the loop, its OVERTEMP slot and what the desk makes of a raise. -/
def Obligations.AutoCycleRunsTheSixStages : Prop :=
  ∀ (s : State) (n : Fin 16) (l : Loop), s.loop n = l → ∀ pv, s.part.reading (loopChannel n) = some pv →
    ({ l with chFault := false } : Loop).mode = .auto →
    let g := l.cfg
    let corrected := if l.chFault = false ∧ l.grantRound ≠ l.usedRound ∧ 0 < g.ti then
        clampI (l.integ + trunc (((l.grant : Int) - l.uLast) * 1000 * g.w) 65536) else l.integ
    let quotient := trunc ((l.sp - l.spf) * (65536 - (g.a : Int))) 65536
    let spf := l.spf + (if quotient = 0 ∧ l.spf ≠ l.sp then (if l.spf < l.sp then 1 else -1) else quotient)
    let p := trunc ((g.kc : Int) * (trunc ((g.b : Int) * spf) 255 - pv)) 100
    let integ := clampI (if 0 < g.ti then corrected + trunc ((g.kc : Int) * (spf - pv) * g.tcyc * 100) g.ti
      else corrected)
    let y := trunc ((g.c : Int) * spf) 255 - pv
    let raw := trunc ((g.kc : Int) * g.td * (y - if l.chFault then y else l.yPrev)) (1000 * (g.tcyc : Int))
    let d := if 0 < g.td then l.deriv + trunc (raw - l.deriv) g.n else 0
    let u := p + trunc integ 1000 + d
    let latch := if l.latch then decide ((g.highLimit : Int) - g.hysteresis ≤ pv)
      else decide ((g.highLimit : Int) ≤ pv)
    ∃ t, exec (.loopCycle n) s = .next t ∧ Happened { loops := true, conds := true, pager := true } s t ∧
      DeskKept [overtempSlot n] s t ∧
      (∀ m, m ≠ n → t.loop m = s.loop m) ∧ spf = l.filtered ∧
      t.loop n = { l with
        chFault := false, integ, spf, deriv := d, yPrev := y, uLast := u, usedRound := l.grantRound, latch
        timer := g.tcyc, demand := if latch then 0 else (clamp g.satLow g.satHigh u).toNat }

/-- R19, R26 to R28: the record after a cycle in each other case: the channel gives no current measurement, or it
reads OK and the mode, once R19 has cleared a channel fault flag, is MANUAL, OFF or INHIBITED. R20, R145, R146:
whatever the reported mode, a cycle whose channel reads OK sets the latch and raises OVERTEMP with the PV at or above
the high limit, clears it and returns OVERTEMP below the high limit less the hysteresis, and a latched loop posts no
demand; a cycle without a reading leaves latch and slot. -/
def Obligations.OtherCyclesAndTheOvertempLatch : Prop :=
  (∀ (s : State) (n : Fin 16) (l : Loop), s.loop n = l →
    ∃ t, exec (.loopCycle n) s = .next t ∧ Happened { loops := true, conds := true, pager := true } s t ∧
      DeskKept [overtempSlot n] s t ∧
      (∀ m, m ≠ n → t.loop m = s.loop m) ∧
      (s.part.reading (loopChannel n) = none →
        t.loop n = { l with chFault := true, usedRound := l.grantRound, demand := 0, timer := l.cfg.tcyc }) ∧
      ∀ pv, s.part.reading (loopChannel n) = some pv → ∀ j : Loop, j = { l with chFault := false } →
        let latch := if l.latch then decide ((l.cfg.highLimit : Int) - l.cfg.hysteresis ≤ pv)
          else decide ((l.cfg.highLimit : Int) ≤ pv)
        let out := (clamp l.cfg.satLow l.cfg.satHigh ((l.manOut : Int) + l.ramp)).toNat
        (j.mode = .manual → t.loop n = { j with
          usedRound := l.grantRound, manOut := out, demand := if latch then 0 else out, uLast := out
          spf := l.filtered, yPrev := trunc ((l.cfg.c : Int) * l.filtered) 255 - pv, latch, timer := l.cfg.tcyc }) ∧
        (j.mode = .off → t.loop n = { j with
          usedRound := l.grantRound, integ := 0, deriv := 0, yPrev := 0, uLast := 0, spf := pv, demand := 0, latch
          timer := l.cfg.tcyc }) ∧
        (j.mode = .inhibited → t.loop n = { j with
          usedRound := l.grantRound, demand := 0, spf := l.filtered
          yPrev := trunc ((l.cfg.c : Int) * l.filtered) 255 - pv, latch, timer := l.cfg.tcyc })) ∧
  ∀ (s : State) (n : Fin 16) (l : Loop), s.loop n = l →
    ∃ t, exec (.loopCycle n) s = .next t ∧
      (∀ i, i ≠ overtempSlot n → i ≠ unansweredSlot → t.slot i = s.slot i) ∧
      (s.part.reading (loopChannel n) = none →
        (t.loop n).latch = l.latch ∧ t.slot (overtempSlot n) = s.slot (overtempSlot n)) ∧
      ∀ pv, s.part.reading (loopChannel n) = some pv →
        ((t.loop n).latch = true → (t.loop n).demand = 0) ∧ (t.loop n).chFault = false ∧
        (l.latch = false → (l.cfg.highLimit : Int) ≤ pv → (t.loop n).latch = true ∧
          t.slot (overtempSlot n) = (s.slot (overtempSlot n)).raise s.part.uptime (BitVec.ofInt 16 pv)) ∧
        (l.latch = false → pv < (l.cfg.highLimit : Int) → (t.loop n).latch = false ∧
          t.slot (overtempSlot n) = s.slot (overtempSlot n)) ∧
        (l.latch = true → pv < (l.cfg.highLimit : Int) - l.cfg.hysteresis → (t.loop n).latch = false ∧
          t.slot (overtempSlot n) = (s.slot (overtempSlot n)).ret) ∧
        (l.latch = true → (l.cfg.highLimit : Int) - l.cfg.hysteresis ≤ pv → (t.loop n).latch = true ∧
          t.slot (overtempSlot n) = s.slot (overtempSlot n))

/-- The state with another record of a loop. -/
def Sys2Proof.Machine.withLoop (n : Fin 16) (l : Loop) (s : State) : State :=
  { s with part := { s.part with loops := s.part.loops.set n l } }

/-- A loop and its OVERTEMP slot are what LOOP_CYCLE makes of a record. -/
def Sys2Proof.Machine.cycledFrom (n : Fin 16) (l : Loop) (s t : State) : Prop :=
  ∃ u, exec (.loopCycle n) (withLoop n l s) = .next u ∧ t.loop n = u.loop n ∧
    t.slot (overtempSlot n) = u.slot (overtempSlot n)

/-- A loop takes a record with no cycle. -/
def Sys2Proof.Machine.standsAt (n : Fin 16) (l : Loop) (s t : State) : Prop :=
  t.loop n = l ∧ t.slot (overtempSlot n) = s.slot (overtempSlot n)

/-- An owner's AUTO request to a loop that stands at the record `l`: nothing in AUTO and MANUAL; from OFF the base
mode is AUTO with I, D and u_last at 0 and the used round at the grant round, and where the reported mode is AUTO a
cycle is taken at once, from SPf at the PV and y_prev after it where the channel is OK, as a FAULT cycle where it is
not (R33). -/
def Sys2Proof.Machine.autoStarted (n : Fin 16) (l : Loop) (s t : State) : Prop :=
  let a : Loop := { l with base := .auto, integ := 0, deriv := 0, uLast := 0, usedRound := l.grantRound }
  (l.base ≠ .off → standsAt n l s t) ∧
  (l.base = .off → l.chFault = true ∨ l.inhibit = true → standsAt n a s t) ∧
  (l.base = .off → l.chFault = false → l.inhibit = false →
    (s.part.reading (loopChannel n) = none → cycledFrom n a s t) ∧
    ∀ pv, s.part.reading (loopChannel n) = some pv →
      cycledFrom n { a with spf := pv, yPrev := trunc ((l.cfg.c : Int) * pv) 255 - pv } s t)

/-- A release request to a loop that stands at the record `l`: nothing where it is not inhibited; else the flag is
cleared, and by the mode that is then reported a cycle is taken at once with the used round at the grant round (AUTO),
the demand becomes the manual output or 0 under the latch (MANUAL), or nothing else changes (FAULT, OFF) (R34). -/
def Sys2Proof.Machine.inhibitReleased (n : Fin 16) (l : Loop) (s t : State) : Prop :=
  let r : Loop := { l with inhibit := false }
  (l.inhibit = false → standsAt n l s t) ∧
  (l.inhibit = true → l.chFault = true ∨ l.base = .off → standsAt n r s t) ∧
  (l.inhibit = true → l.chFault = false → l.base = .manual →
    standsAt n { r with demand := if l.latch then 0 else l.manOut } s t) ∧
  (l.inhibit = true → l.chFault = false → l.base = .auto → cycledFrom n { r with usedRound := l.grantRound } s t)

/-- R35, R36: SET LOOP MODE between AUTO and MANUAL transfers as the two rules say; a request for the mode shown
changes nothing; the other modes refuse it with STATE, another mode byte or loop with RANGE. -/
def Obligations.LoopModeTransfers : Prop :=
  ∀ (s : State) (tag loop mode : Byte),
    (∀ (h : loop.toNat < 16) (l : Loop), s.loop ⟨loop.toNat, h⟩ = l →
      let n : Fin 16 := ⟨loop.toNat, h⟩
      let out := (clamp l.cfg.satLow l.cfg.satHigh l.demand).toNat
      (mode.toNat = 2 → l.mode = .auto →
        ∃ t, exec (.setLoopMode tag loop mode) s = .next t ∧ Answered { loops := true } 0x21 tag .ok [] s t ∧
          (∀ m, m ≠ n → t.loop m = s.loop m) ∧
          t.loop n = { l with
            base := .manual, manOut := out, ramp := 0, uLast := out, demand := if l.latch then 0 else out }) ∧
      (mode.toNat = 1 → l.mode = .manual →
        ∃ t, exec (.setLoopMode tag loop mode) s = .next t ∧ Answered { loops := true } 0x21 tag .ok [] s t ∧
          (∀ m, m ≠ n → t.loop m = s.loop m) ∧
          (s.part.reading (loopChannel n) = none →
            t.loop n = { l with base := .auto, chFault := true, demand := 0 }) ∧
          ∀ pv, s.part.reading (loopChannel n) = some pv →
            let p := trunc ((l.cfg.kc : Int) * (trunc ((l.cfg.b : Int) * l.spf) 255 - pv)) 100
            t.loop n = { l with
              base := .auto, integ := clampI (((l.manOut : Int) - p - l.deriv) * 1000), uLast := l.manOut
              usedRound := l.grantRound }) ∧
      (mode.toNat = 1 ∧ l.mode = .auto ∨ mode.toNat = 2 ∧ l.mode = .manual →
        exec (.setLoopMode tag loop mode) s = .next (s.answer 0x21 tag (s.part, { status := .ok }))) ∧
      (mode.toNat = 1 ∨ mode.toNat = 2 → l.mode ≠ .auto → l.mode ≠ .manual →
        exec (.setLoopMode tag loop mode) s = .next (s.answer 0x21 tag (s.part, { status := .state })))) ∧
    (16 ≤ loop.toNat ∨ mode.toNat ≠ 1 ∧ mode.toNat ≠ 2 →
      exec (.setLoopMode tag loop mode) s = .next (s.answer 0x21 tag (s.part, { status := .range })))

/-- R37, R31: SET MANUAL OUTPUT in MANUAL stores ramp and clamped output and posts the demand; SET LOOP SETPOINT
stores the setpoint held to 0 to the maximum setpoint in every mode. A clamped value comes back as the taken value.
R38: a CONFIGURE LOOP in range replaces every field in any mode, starts the timer again, holds SP and the manual
output to the new limits, and posts the demand again in MANUAL and AUTO; I, D, SPf, y_prev and u_last keep their
values. Out of range it is refused with RANGE. -/
def Obligations.LoopValuesAreTaken : Prop :=
  ((∀ (s : State) (tag loop : Byte) (output ramp : Half) (h : loop.toNat < 16) (l : Loop),
    s.loop ⟨loop.toNat, h⟩ = l → l.mode = .manual → output.toNat ≤ 1000 → -1000 ≤ ramp.toInt → ramp.toInt ≤ 1000 →
    let n : Fin 16 := ⟨loop.toNat, h⟩
    let out := (clamp l.cfg.satLow l.cfg.satHigh output.toNat).toNat
    ∃ t, exec (.setManualOutput tag loop output ramp) s = .next t ∧
      Answered { loops := true } 0x22 tag (if out = output.toNat then .ok else .okTaken)
        (if out = output.toNat then [] else [u16 out]) s t ∧
      (∀ m, m ≠ n → t.loop m = s.loop m) ∧
      t.loop n = { l with manOut := out, ramp := ramp.toInt, uLast := out, demand := if l.latch then 0 else out } ∧
      ⟨.loop, n.val⟩ ∈ t.link.changeSet) ∧
  (∀ (s : State) (tag loop : Byte) (setpoint : Half) (h : loop.toNat < 16) (l : Loop),
    s.loop ⟨loop.toNat, h⟩ = l →
    let n : Fin 16 := ⟨loop.toNat, h⟩
    let taken := clamp 0 l.cfg.maxSetpoint setpoint.toInt
    ∃ t, exec (.setLoopSetpoint tag loop setpoint) s = .next t ∧
      Answered { loops := true } 0x23 tag (if taken = setpoint.toInt then .ok else .okTaken)
        (if taken = setpoint.toInt then [] else [s16 taken]) s t ∧
      (∀ m, m ≠ n → t.loop m = s.loop m) ∧ t.loop n = { l with sp := taken }) ∧
  (∀ (s : State) (tag loop : Byte) (setpoint : Half), 16 ≤ loop.toNat →
    exec (.setLoopSetpoint tag loop setpoint) s = .next (s.answer 0x23 tag (s.part, { status := .range }))) ∧
  ∀ (s : State) (tag loop : Byte) (output ramp : Half),
    (16 ≤ loop.toNat ∨ 1000 < output.toNat ∨ ramp.toInt < -1000 ∨ 1000 < ramp.toInt →
      exec (.setManualOutput tag loop output ramp) s = .next (s.answer 0x22 tag (s.part, { status := .range }))) ∧
    ∀ h : loop.toNat < 16, output.toNat ≤ 1000 → -1000 ≤ ramp.toInt → ramp.toInt ≤ 1000 →
      (s.loop ⟨loop.toNat, h⟩).mode ≠ .manual →
      exec (.setManualOutput tag loop output ramp) s = .next (s.answer 0x22 tag (s.part, { status := .state }))) ∧
  ∀ (s : State) (tag loop : Byte) (f : LoopFields),
    let g : LoopConfig :=
      { tcyc := f.tcyc.toNat, kc := f.kc.toNat, ti := f.ti.toNat, td := f.td.toNat, b := f.b.toNat, c := f.c.toNat,
        n := f.n.toNat, a := f.a.toNat, w := f.w.toNat, satLow := f.satLow.toNat, satHigh := f.satHigh.toNat,
        maxSetpoint := f.maxSetpoint.toNat, highLimit := f.highLimit.toNat, hysteresis := f.hysteresis.toNat }
    (∀ (h : loop.toNat < 16) (l : Loop), g.InRange → s.loop ⟨loop.toNat, h⟩ = l →
      let n : Fin 16 := ⟨loop.toNat, h⟩
      let out := (clamp g.satLow g.satHigh l.manOut).toNat
      ∃ t, exec (.configureLoop tag loop f) s = .next t ∧ Answered { loops := true } 0x24 tag .ok [] s t ∧
        (∀ m, m ≠ n → t.loop m = s.loop m) ∧
        t.loop n = { l with
          cfg := g, timer := g.tcyc, sp := if (g.maxSetpoint : Int) < l.sp then g.maxSetpoint else l.sp
          manOut := out
          demand :=
            if l.mode = .manual then (if l.latch then 0 else out)
            else if l.mode = .auto then (if l.latch then 0 else (clamp g.satLow g.satHigh l.uLast).toNat)
            else l.demand } ∧
        ⟨.loop, n.val⟩ ∈ t.link.changeSet) ∧
    (16 ≤ loop.toNat ∨ ¬ g.InRange →
      exec (.configureLoop tag loop f) s = .next (s.answer 0x24 tag (s.part, { status := .range })))

/-! ## Chapter 3: the feeder -/

/-- R43, R45 to R47: CONFIGURE HEATER of a heater whose loop is OFF stores the rating and cuts the grant, the totals
losing the heater's share (log entry 26); CONFIGURE FEEDER stores the three values and derives the requested budget
and REDUCED_ACK, leaving the applied budget. Each refusal is the rule's. -/
def Obligations.HeaterAndFeederConfigurationsAreStored : Prop :=
  (∀ (s : State) (tag heater : Byte) (rated : Half) (h : heater.toNat < 16),
    let n : Fin 16 := ⟨heater.toNat, h⟩
    rated.toNat ≤ 60000 → (s.loop n).base = .off →
    ∃ t, exec (.configureHeater tag heater rated) s = .next t ∧ Answered { feeder := true } 0x30 tag .ok [] s t ∧
      (∀ m, m ≠ n → t.heater m = s.heater m) ∧
      t.heater n = { s.heater n with rated := rated.toNat, grant := 0, assigned := 0, delivered := 0, output := false } ∧
      t.part.feeder = { s.part.feeder with
        heaters := t.part.feeder.heaters
        grantedTotal := s.part.feeder.grantedTotal - (s.heater n).assigned
        deliveredTotal := s.part.feeder.deliveredTotal - (s.heater n).delivered } ∧
      ⟨.heater, n.val⟩ ∈ t.link.changeSet) ∧
  (∀ (s : State) (tag heater : Byte) (rated : Half),
    (16 ≤ heater.toNat ∨ 60000 < rated.toNat →
      exec (.configureHeater tag heater rated) s = .next (s.answer 0x30 tag (s.part, { status := .range }))) ∧
    ∀ h : heater.toNat < 16, rated.toNat ≤ 60000 → (s.loop ⟨heater.toNat, h⟩).base ≠ .off →
      exec (.configureHeater tag heater rated) s = .next (s.answer 0x30 tag (s.part, { status := .state }))) ∧
  ∀ (s : State) (tag : Byte) (limit reduced : Word) (starveTime : Half),
    let asked := s.part.asserted .feederReduce
    (limit.toNat ≤ 600000 → reduced.toNat ≤ limit.toNat → 60 ≤ starveTime.toNat → starveTime.toNat ≤ 1800 →
      exec (.configureFeeder tag limit reduced starveTime) s = .next (s.answer 0x31 tag
        ({ s.part with feeder := { s.part.feeder with
            limit := limit.toNat, reduced := reduced.toNat, starveTime := starveTime.toNat
            requested := if asked then reduced.toNat else limit.toNat
            reducedAck := asked && decide (s.part.feeder.applied = reduced.toNat) } }, { status := .ok }))) ∧
    (600000 < limit.toNat ∨ limit.toNat < reduced.toNat ∨ starveTime.toNat < 60 ∨ 1800 < starveTime.toNat →
      exec (.configureFeeder tag limit reduced starveTime) s = .next (s.answer 0x31 tag (s.part, { status := .range })))

/-- R48, R50 to R52, R56: an allocation round counts, sets the applied budget as the lock allows, divides it by class
in the order SANITISE, SERVICE, STANDBY, stores each heater's grant and delivered watts with their totals, and reports
each grant to its loop; in the trip state every heater is assigned 0. R53: the window begins with the round, each
output at step 0 of the new grant and the next step number 0; that the round itself sets step 0 is the model's choice
(log entry 21). -/
def Obligations.AllocationRoundDividesTheBudget : Prop :=
  ∀ s : State,
    let f := s.part.feeder
    let waits := f.requested < f.applied ∧ (s.heater 15).locked = true
    let budget := if waits then f.applied else f.requested
    let power (m : Fin 16) : Nat := (s.heater m).rated * (s.loop m).demand / 1000
    let total (c : HeaterClass) : Nat :=
      ((List.finRange 16).map fun m => if (s.heater m).cls = c then power m else 0).sum
    let part (left whole watts : Nat) : Nat := if whole ≤ left then watts else watts * left / whole
    let second := budget - total .sanitise
    let third := second - total .service
    let watts (m : Fin 16) : Nat :=
      if s.part.interlock.trip then 0
      else
        match (s.heater m).cls with
        | .sanitise => part budget (total .sanitise) (power m)
        | .service => if total .sanitise ≤ budget then part second (total .service) (power m) else 0
        | .standby =>
          if total .sanitise ≤ budget ∧ total .service ≤ second then part third (total .standby) (power m) else 0
    let grant (m : Fin 16) : Nat := if (s.heater m).rated = 0 then 0 else watts m * 1000 / (s.heater m).rated
    ∃ t, exec .allocationRound s = .next t ∧
      Happened { feeder := true, loops := true, conds := true, pager := true } s t ∧
      t.part.feeder = { f with
        heaters := t.part.feeder.heaters, round := f.round + 1, applied := budget, pending := decide waits
        reducedAck := s.part.asserted .feederReduce && decide (budget = f.reduced), nextStep := 0
        grantedTotal := ((List.finRange 16).map watts).sum
        deliveredTotal := ((List.finRange 16).map fun m => (s.heater m).rated * grant m / 1000).sum } ∧
      ∀ m, t.heater m = { s.heater m with
          grant := grant m, grantRound := f.round + 1, assigned := watts m
          delivered := (s.heater m).rated * grant m / 1000, output := burstOn (grant m) 0
          starve := (t.heater m).starve, starved := (t.heater m).starved } ∧
        t.loop m = { s.loop m with grant := grant m, grantRound := f.round + 1 }

/-- R54, R56: at the end of a round each heater's starvation is judged on its new grant and its demand, with the raise
or the return of its STARVED condition. -/
def Obligations.AllocationRoundJudgesStarvation : Prop :=
  ∀ s : State, ∃ t, exec .allocationRound s = .next t ∧
    (∀ i, (∀ m, i ≠ starvedSlot m) → i ≠ unansweredSlot → t.slot i = s.slot i) ∧
    ∀ m : Fin 16,
      let short := s.part.interlock.trip = false ∧ 0 < (s.heater m).rated ∧ (t.heater m).grant + 50 < (s.loop m).demand
      let timer := min 1800 ((s.heater m).starve + 2)
      let due := s.part.feeder.starveTime ≤ timer
      (short → (t.heater m).starve = timer ∧ ((t.heater m).starved = true ↔ (s.heater m).starved = true ∨ due) ∧
        ((s.heater m).starved = false → due →
          t.slot (starvedSlot m) =
            (s.slot (starvedSlot m)).raise s.part.uptime (BitVec.ofNat 16 (t.heater m).grant)) ∧
        ((s.heater m).starved = true ∨ ¬ due → t.slot (starvedSlot m) = s.slot (starvedSlot m))) ∧
      (¬ short → (t.heater m).starve = 0 ∧ (t.heater m).starved = false ∧
        t.slot (starvedSlot m) =
          if (s.heater m).starved then (s.slot (starvedSlot m)).ret else s.slot (starvedSlot m))

/-- R53: a burst step sets every output by its grant, and after 1000 steps the window has no step left, so that a
further one changes nothing: the model's choice (log entry 21). Over the 1000 steps of a window a grant of q is on in
exactly q of them. -/
def Obligations.BurstStepsGiveEachGrantItsShare : Prop :=
  (∀ s : State, s.part.feeder.nextStep < 1000 →
    ∃ t, exec .heaterBurstStep s = .next t ∧ Happened { feeder := true } s t ∧
      t.part.feeder = { s.part.feeder with
        heaters := t.part.feeder.heaters, nextStep := s.part.feeder.nextStep + 1 } ∧
      (∀ m, t.heater m = { s.heater m with
        output := decide (s.part.feeder.nextStep * (s.heater m).grant / 1000 <
          (s.part.feeder.nextStep + 1) * (s.heater m).grant / 1000) }) ∧
      t.link = s.link.kick) ∧
  (∀ s : State, 1000 ≤ s.part.feeder.nextStep → exec .heaterBurstStep s = .next (s.event s.part)) ∧
  ∀ q : Nat, q ≤ 1000 → ((List.range 1000).filter fun k => burstOn q k).length = q

/-! ## What the notices of other units make of the waves (R141) -/

/-- The readiness test of R134. -/
def Sys2Proof.Machine.waveReadyNow (s : State) (covers : Nat) (v : Wave) : Bool :=
  (v.ovens.all fun n => decide ((s.oven n).state = .holding) || decide ((s.oven n).state = .finished)) &&
    decide (covers ≤ (v.cabinets.map fun n => (s.cabinet n).ready).sum)

/-- The state in which a judgement leaves a wave that stood in PLANNED, PREPARING, READY or LATE, for its countdown,
lead time and covers (R130 to R135). -/
def Sys2Proof.Machine.judgedState (s : State) (covers due lead : Nat) (v : Wave) : WaveState :=
  if v.state = .planned ∧ lead < due then .planned
  else if v.state = .ready then .ready
  else if waveReadyNow s covers v then .ready
  else if v.state = .late ∨ due = 0 then .late
  else .preparing

/-- The PLATES_SHORT slot of a wave after a plate check that takes the short flag from one value to another (R133). -/
def Sys2Proof.Machine.shortSlotAfter (s : State) (w : Fin 12) (before after : Bool) (lacking : Nat) : Slot :=
  if after = before then s.slot (platesShortSlot w)
  else if after then (s.slot (platesShortSlot w)).raise s.part.uptime (BitVec.ofNat 16 lacking)
  else (s.slot (platesShortSlot w)).ret

/-- The plates that can still go into a wave's cabinets (R133). -/
def Sys2Proof.Machine.potentialOf (s : State) (v : Wave) : Nat :=
  (v.cabinets.map fun n => (s.cabinet n).held).sum + (s.stockOf v.kind).clean

/-- A wave in PREPARING, READY, LATE or SERVING as a judgement leaves it that reads the records of `t` (R130, R133 to
R135). -/
def Sys2Proof.Machine.judgedOn (t : State) (v : Wave) : Wave :=
  let state := if v.state = .serving then .serving else judgedState t v.covers v.due v.lead v
  { v with
    state, short := decide (potentialOf t v < v.covers - v.issued)
    readyLate := v.readyLate || (decide (state = .ready) && decide (v.state = .late))
    late :=
      if state = .ready ∧ v.state ≠ .ready then false
      else if state = .late ∧ v.state ≠ .late then true
      else v.late }

/-- A wave that a plate notice of a kind has judged: it is of that kind and stands in PREPARING, LATE, READY or SERVING
(R141). -/
def Sys2Proof.Machine.ofKind (kind : Fin 4) (v : Wave) : Prop :=
  v.kind = kind ∧ (v.state = .preparing ∨ v.state = .late ∨ v.state = .ready ∨ v.state = .serving)

/-- A wave that a state notice of an oven has judged: it lists the oven and stands in PREPARING or LATE (R141). -/
def Sys2Proof.Machine.awaits (oven : Fin 6) (v : Wave) : Prop :=
  oven ∈ v.ovens ∧ (v.state = .preparing ∨ v.state = .late)

/-- What a command's notices make of the wave in a slot: where they concern it, it is judged on the records that the
command left, with the raises and returns of its two slots; where they do not, it stays, and so do they. -/
def Sys2Proof.Machine.noticedAt (concerns : Wave → Prop) (s t : State) (w : Fin 12) : Prop :=
  ∀ v, s.wave w = some v →
    let u := judgedOn t v
    let late := s.slot (waveLateSlot w)
    (concerns v → t.wave w = some u ∧
      t.slot (platesShortSlot w) = shortSlotAfter s w v.short u.short (v.covers - v.issued - potentialOf t v) ∧
      t.slot (waveLateSlot w) =
        if u.state = .late ∧ v.state ≠ .late then
          late.raise s.part.uptime (BitVec.ofNat 16 (v.ballroom * 256 + v.number.toNat))
        else if u.state = .ready ∧ v.state ≠ .ready ∧ v.late = true then late.ret
        else late) ∧
    (¬ concerns v → t.wave w = some v ∧ t.slot (platesShortSlot w) = s.slot (platesShortSlot w) ∧
      t.slot (waveLateSlot w) = late)

/-- The WAVE_READY triggers of the waves that a command made READY, for the slots of a list in order, the lowest first
(log entry 32; R134, R160). -/
def Sys2Proof.Machine.readyTriggers (s t : State) : List (Fin 12) → Pager → Pager → Prop
  | [], g, h => h = g
  | w :: rest, g, h =>
    let becomes (v u : Wave) : Prop := u.state = .ready ∧ v.state ≠ .ready
    ∃ next, readyTriggers s t rest next h ∧
      ((∀ v u, s.wave w = some v → t.wave w = some u → ¬ becomes v u) → next = g) ∧
      ∀ v u, s.wave w = some v → t.wave w = some u → becomes v u →
        triggered s.part.uptime (.wave w) 14 (BitVec.ofNat 16 (u.ballroom * 256 + u.number.toNat)) g next

/-- What a command's notices make of every wave, and WAVE_READY of those that became READY (R94, R130, R133 to R135,
R141; the pages are stated while the port is busy and no other route is enabled). -/
def Sys2Proof.Machine.wavesJudged (concerns : Wave → Prop) (s t : State) : Prop :=
  (∀ w, noticedAt concerns s t w) ∧
  (s.pager.port ≠ .idle → (∀ k, k ≠ 14 → (s.pager.routes.get k).enabled = false) →
    readyTriggers s t (List.finRange 12) s.pager t.pager)

/-- PLATES_LOW evaluated once for a cabinet as the command left it: sent with the ready count where the cabinet's wave
serves and fewer plates are ready than the low mark, and not otherwise (R95; stated while the port is busy and no other
route is enabled). -/
def Sys2Proof.Machine.lowEvaluated (n : Fin 8) (s t : State) : Prop :=
  let c := t.cabinet n
  let low := c.ready < c.lowMark ∧ ∃ w, c.waveSlot = some w ∧ ∃ v, s.wave w = some v ∧ v.state = .serving
  s.pager.port ≠ .idle → (∀ k, k ≠ 15 → (s.pager.routes.get k).enabled = false) →
    (low → triggered s.part.uptime (.cabinet n) 15 (BitVec.ofNat 16 c.ready) s.pager t.pager) ∧
    (¬ low → t.pager = s.pager)

/-! ## Chapter 4: ovens -/

/-- A step of a STORE PROGRAM in its ranges (R62). -/
def Sys2Proof.Machine.stepInRange (w : WireStep) : Prop :=
  w.setpoint.toNat ≤ 4000 ∧ w.duration.toNat ≤ 14400 ∧
    (w.kind.toNat = 0 ∧ 1 ≤ w.duration.toNat ∨ w.kind.toNat = 1 ∧ 60 ≤ w.duration.toNat ∧ w.coreTarget.toNat ≤ 4000)

/-- R62, R63: a STORE PROGRAM in range replaces the whole record unless an oven is running the program (BUSY); a TIMED
step's core target is stored as absent (R194). R65, R66: a START PROGRAM that passes the five checks, in their order,
sets the record, asks the loop for step 1's setpoint, for the inhibit where the door is open, and for AUTO; the state
becomes PREHEATING; the loop takes what R33 makes of that AUTO, with the cycle at once. From FINISHED the oven's
PROGRAM_DONE page is cancelled (R75, R172; the whole of the pager is stated while the port is busy and no wave or
OVERTEMP page can come of the same step). Every wave that awaits the oven is judged (R141). The other ovens and their
loops stay. -/
def Obligations.ProgramsAreStoredAndStarted : Prop :=
  (∀ (s : State) (tag program stepCount : Byte) (hold band : Half) (steps : List WireStep),
    let c : Instr := .storeProgram tag program stepCount hold band steps
    let inRange := stepCount.toNat ≤ 8 ∧ steps.length = stepCount.toNat ∧ (∀ w ∈ steps, stepInRange w) ∧
      hold.toNat ≤ 4000 ∧ band.toNat ≤ 500
    let runs (o : Oven) : Prop := o.program.val = program.toNat ∧ o.state ≠ .idle ∧ o.state ≠ .finished
    let stored (w : WireStep) : Step :=
      if w.kind.toNat = 0 then .timed w.setpoint.toNat w.duration.toNat
      else .core w.setpoint.toNat w.duration.toNat w.coreTarget.toNat
    (∀ h : program.toNat < 16, inRange → (∀ n, ¬ runs (s.oven n)) →
      ∃ t, exec c s = .next t ∧ Answered { programs := true } 0x40 tag .ok [] s t ∧
        (∀ m, m ≠ ⟨program.toNat, h⟩ → t.part.programs.get m = s.part.programs.get m) ∧
        t.part.programs.get ⟨program.toNat, h⟩ =
          { steps := steps.map stored, hold := hold.toNat, band := band.toNat } ∧
        ⟨.program, program.toNat⟩ ∈ t.link.changeSet) ∧
    (program.toNat < 16 → inRange → (∃ n, runs (s.oven n)) →
      exec c s = .next (s.answer 0x40 tag (s.part, { status := .busy }))) ∧
    (16 ≤ program.toNat ∨ ¬ inRange → exec c s = .next (s.answer 0x40 tag (s.part, { status := .range })))) ∧
  ∀ (s : State) (tag oven program : Byte),
    let c : Instr := .startProgram tag oven program
    let refused (status : Status) : Prop := exec c s = .next (s.answer 0x42 tag (s.part, { status }))
    (6 ≤ oven.toNat ∨ 16 ≤ program.toNat → refused .range) ∧
    ∀ (h : oven.toNat < 6) (hp : program.toNat < 16),
      let n : Fin 6 := ⟨oven.toNat, h⟩
      let o := s.oven n
      let l := s.loop (ovenLoop n)
      let steps := (s.part.programs.get ⟨program.toNat, hp⟩).steps
      let gated := (s.slot (probeSlot (cavityChannel n))).pending || (s.slot (overtempSlot (ovenLoop n))).pending
      (o.state ≠ .idle → o.state ≠ .finished → refused .busy) ∧
      (o.state = .idle ∨ o.state = .finished →
        (steps = [] → refused .empty) ∧
        (steps ≠ [] → gated = true → refused .faultPending) ∧
        (steps ≠ [] → gated = false → s.part.interlock.trip = true → refused .tripped) ∧
        ∀ first rest, steps = first :: rest → gated = false → s.part.interlock.trip = false →
          ∃ t, exec c s = .next t ∧ Answered { noticeFoot with ovens := true, loops := true } 0x42 tag .ok [] s t ∧
            Noticed [overtempSlot (ovenLoop n)] s t ∧ (∀ w, noticedAt (awaits n) s t w) ∧
            (∀ m, m ≠ n → t.oven m = s.oven m) ∧
            t.oven n = { o with
              program := ⟨program.toNat, hp⟩, step := 1, elapsed := 0, stepEnd := .none, start := s.part.uptime
              state := .preheating } ∧
            (∀ m, m ≠ ovenLoop n → t.loop m = s.loop m) ∧
            (t.loop (ovenLoop n)).sp = clamp 0 l.cfg.maxSetpoint first.setpoint ∧
            (t.loop (ovenLoop n)).base = (if l.base = .off then .auto else l.base) ∧
            (t.loop (ovenLoop n)).inhibit = (l.inhibit || o.doorOpen) ∧
            (t.loop (ovenLoop n)).cfg = l.cfg ∧
            autoStarted (ovenLoop n) { l with
              sp := clamp 0 l.cfg.maxSetpoint first.setpoint, inhibit := l.inhibit || o.doorOpen
              demand := if o.doorOpen = true ∧ l.inhibit = false ∧ l.chFault = false then 0 else l.demand } s t ∧
            (o.state = .finished → PagesKept s.pager → noPageBut (.oven n) t.pager) ∧
            (s.pager.port ≠ .idle →
              (∀ k, k = 1 ∨ k = 7 ∨ k = 8 ∨ k = 14 → (s.pager.routes.get k).enabled = false) →
              (o.state = .finished → noticeCancels s.part.uptime (.oven n) s.pager t.pager) ∧
              (o.state = .idle → t.pager = s.pager)))

/-- R68, R73, R74: FOOD LOADED in LOAD_WAIT, UNLOAD in HOLDING or FINISHED and ABORT in any state but IDLE move the
oven, with the requests each sends its loop, and keep the rest of the record; in every other state they are refused
with STATE, and an oven above 5 with RANGE. Every wave that awaits the oven is judged (R141). The other ovens and
their loops stay. Leaving HOLDING or FINISHED cancels the oven's PROGRAM_DONE page, and no other of these moves does
(R75, R172; the whole of the pager is stated while the port is busy and no wave or OVERTEMP page can come of the same
step). R34: UNLOAD from FINISHED with the door open releases the loop in whatever mode it stands. -/
def Obligations.OvenRequestsMoveTheOven : Prop :=
  (∀ (s : State) (tag oven : Byte), 6 ≤ oven.toNat →
    exec (.foodLoaded tag oven) s = .next (s.answer 0x43 tag (s.part, { status := .range })) ∧
    exec (.unload tag oven) s = .next (s.answer 0x44 tag (s.part, { status := .range })) ∧
    exec (.abort tag oven) s = .next (s.answer 0x45 tag (s.part, { status := .range }))) ∧
  ∀ (s : State) (tag oven : Byte) (h : oven.toNat < 6),
    let n : Fin 6 := ⟨oven.toNat, h⟩
    let o := s.oven n
    let l := s.loop (ovenLoop n)
    let foot : Footprint := { noticeFoot with ovens := true, loops := true }
    let others (t : State) : Prop := Noticed [] s t ∧ (∀ w, noticedAt (awaits n) s t w) ∧ (∀ m, m ≠ n → t.oven m = s.oven m) ∧
      ∀ m, m ≠ ovenLoop n → t.loop m = s.loop m
    let stopped : Loop := { l with
      base := .off, integ := 0, deriv := 0, yPrev := 0, uLast := 0, demand := 0
      inhibit := if o.doorOpen then false else l.inhibit }
    let quiet := s.pager.port ≠ .idle ∧
      ∀ k, k = 1 ∨ k = 7 ∨ k = 8 ∨ k = 14 → (s.pager.routes.get k).enabled = false
    let cancels (t : State) : Prop := (PagesKept s.pager → noPageBut (.oven n) t.pager) ∧
      (quiet → noticeCancels s.part.uptime (.oven n) s.pager t.pager)
    (o.state = .loadWait → ∃ t, exec (.foodLoaded tag oven) s = .next t ∧ Answered foot 0x43 tag .ok [] s t ∧
      others t ∧ t.oven n = { o with state := .cooking } ∧ t.loop (ovenLoop n) = l ∧ (quiet → t.pager = s.pager)) ∧
    (o.state = .holding → ∃ t, exec (.unload tag oven) s = .next t ∧ Answered foot 0x44 tag .ok [] s t ∧
      others t ∧ t.oven n = { o with state := .idle } ∧ t.loop (ovenLoop n) = stopped ∧ cancels t) ∧
    (o.state = .finished → l.base = .off →
      ∃ t, exec (.unload tag oven) s = .next t ∧ Answered foot 0x44 tag .ok [] s t ∧
        others t ∧ t.oven n = { o with state := .idle } ∧
        t.loop (ovenLoop n) = { l with inhibit := if o.doorOpen then false else l.inhibit }) ∧
    (o.state = .finished →
      ∃ t, exec (.unload tag oven) s = .next t ∧ Answered foot 0x44 tag .ok [] s t ∧
        Noticed [overtempSlot (ovenLoop n)] s t ∧ (∀ w, noticedAt (awaits n) s t w) ∧ (∀ m, m ≠ n → t.oven m = s.oven m) ∧
        t.oven n = { o with state := .idle } ∧ (∀ m, m ≠ ovenLoop n → t.loop m = s.loop m) ∧
        (o.doorOpen = true → inhibitReleased (ovenLoop n) l s t) ∧
        (o.doorOpen = false → standsAt (ovenLoop n) l s t) ∧ cancels t) ∧
    (o.state ≠ .idle → ∃ t, exec (.abort tag oven) s = .next t ∧ Answered foot 0x45 tag .ok [] s t ∧
      others t ∧ t.oven n = { o with state := .idle, outcome := .aborted } ∧ t.loop (ovenLoop n) = stopped ∧
      (o.state = .holding ∨ o.state = .finished → cancels t) ∧
      (o.state ≠ .holding → o.state ≠ .finished → quiet → t.pager = s.pager)) ∧
    (o.state ≠ .loadWait →
      exec (.foodLoaded tag oven) s = .next (s.answer 0x43 tag (s.part, { status := .state }))) ∧
    (o.state ≠ .holding → o.state ≠ .finished →
      exec (.unload tag oven) s = .next (s.answer 0x44 tag (s.part, { status := .state }))) ∧
    (o.state = .idle → exec (.abort tag oven) s = .next (s.answer 0x45 tag (s.part, { status := .state })))

/-- How a step ends after a tick, on the step elapsed and on the core channel's reading (R70 to R72). -/
def Sys2Proof.Machine.endsStep (step : Step) (core : Option Int) (elapsed : Nat) (how : StepEnd) : Prop :=
  match step with
  | .timed _ duration => how = .timed ∧ duration ≤ elapsed
  | .core _ duration target =>
    how = .coreTarget ∧ (∃ value, core = some value ∧ (target : Int) ≤ value) ∨
    how = .coreLimit ∧ (∃ value, core = some value ∧ value < (target : Int)) ∧ duration ≤ elapsed ∨
    how = .coreFallback ∧ core = none ∧ duration ≤ elapsed

/-- R64, R67, R69 to R72: a timing tick judges the temperature, moves a PREHEATING oven to LOAD_WAIT, counts the
second of a COOKING oven and ends its step by duration, core target, limit or fallback; the last step ends the cook in
HOLDING or FINISHED with the outcome DONE and sends PROGRAM_DONE, whose parameter is the program's number (R160; stated
while the port is busy and no other route is enabled). A tick that changes the oven's state has
every wave that awaits the oven judged, their WAVE_READY triggers in the order of the slots (R75, R130, R141; log entry
32). An oven in another state takes no tick. -/
def Obligations.OvenTickCountsAndEndsSteps : Prop :=
  ∀ (s : State) (n : Fin 6),
    let o := s.oven n
    let l := s.loop (ovenLoop n)
    let g := s.part.programs.get o.program
    let asked (sp : Nat) : Loop := { l with sp := clamp 0 l.cfg.maxSetpoint sp }
    (o.state ≠ .preheating → o.state ≠ .cooking → exec (.ovenTimingTick n) s = .next (s.event s.part)) ∧
    ∀ step, g.steps[o.step - 1]? = some step → 1 ≤ o.step →
      let hot := o.doorOpen = false ∧
        ∃ value, s.part.reading (cavityChannel n) = some value ∧ (step.setpoint : Int) - g.band ≤ value
      (o.state = .preheating → ¬ hot → exec (.ovenTimingTick n) s = .next (s.event s.part)) ∧
      (o.state = .preheating ∨ o.state = .cooking →
        ∃ t, exec (.ovenTimingTick n) s = .next t ∧ Happened { noticeFoot with ovens := true, loops := true } s t ∧
          Noticed [] s t ∧ wavesJudged (fun v => (t.oven n).state ≠ o.state ∧ awaits n v) s t ∧
          (∀ m, m ≠ n → t.oven m = s.oven m) ∧
          (∀ m, m ≠ ovenLoop n → t.loop m = s.loop m) ∧
          (o.state = .preheating → hot → t.oven n = { o with state := .loadWait } ∧ t.loop (ovenLoop n) = l) ∧
          (o.state = .cooking → ∀ counted : Bool, (counted = true ↔ hot) →
            let elapsed := if counted then o.elapsed + 1 else o.elapsed
            let ended := endsStep step (s.part.reading (coreChannel n)) elapsed
            ((∀ how, ¬ ended how) → t.oven n = { o with elapsed } ∧ t.loop (ovenLoop n) = l) ∧
            ∀ how, ended how →
              (∀ next, g.steps[o.step]? = some next →
                t.oven n = { o with step := o.step + 1, elapsed := 0, stepEnd := how } ∧
                t.loop (ovenLoop n) = asked next.setpoint) ∧
              (g.steps[o.step]? = none → s.pager.port ≠ .idle →
                (∀ k, k ≠ 13 → (s.pager.routes.get k).enabled = false) →
                triggered s.part.uptime (.oven n) 13 (BitVec.ofNat 16 o.program.val) s.pager t.pager) ∧
              (g.steps[o.step]? = none → 0 < g.hold →
                t.oven n = { o with state := .holding, elapsed, stepEnd := how, outcome := .done } ∧
                t.loop (ovenLoop n) = asked g.hold) ∧
              (g.steps[o.step]? = none → g.hold = 0 →
                t.oven n = { o with state := .finished, elapsed, stepEnd := how, outcome := .done } ∧
                t.loop (ovenLoop n) = { l with
                  base := .off, integ := 0, deriv := 0, yPrev := 0, uLast := 0, demand := 0 })))

/-! ## Chapter 5: cabinets and plates -/

/-- The fields of a reply to a plate move: behind the taken value where the move was clamped, the counts moved and not
moved, then what the move itself adds (R87, R188). -/
def Sys2Proof.Machine.moveFields (asked moved : Nat) (more : List Byte) : List (List Byte) :=
  [(if moved = asked then [] else u16 moved) ++ u16 moved ++ u16 (asked - moved) ++ more]

/-- The status of a plate move (R87). -/
def Sys2Proof.Machine.moveStatus (asked moved : Nat) : Status := if moved = asked then .ok else .okTaken

/-- R81: a CONFIGURE CABINET that passes its three checks replaces the seven fields, asks the loop for the changed
setpoint of the mode the cabinet stands in, and is marked; the checks refuse in their order; it evaluates PLATES_LOW
once (R95; log entry 20), and where it changes the ready count the waves of the kind are judged, their WAVE_READY
triggers in the order of the slots (R94, R141; log entry 32). R82: SET CABINET MODE clears the wave-set flag; a new
mode asks the loop for OFF, or for its setpoint and then AUTO, and sets the heater's class, and the batches stay; the
loop takes what R33 makes of that AUTO, with the cycle at once. -/
def Obligations.CabinetFieldsAndModeAreTaken : Prop :=
  (∀ (s : State) (tag cabinet : Byte) (f : CabinetFields),
    let c : Instr := .configureCabinet tag cabinet f
    let inRange := f.kind.toNat < 4 ∧ 1 ≤ f.capacity.toNat ∧ f.capacity.toNat ≤ 300 ∧ f.standbySp.toNat ≤ 4000 ∧
      f.serviceSp.toNat ≤ 4000 ∧ f.readyTemp.toNat ≤ 4000 ∧ 60 ≤ f.warmTime.toNat ∧ f.warmTime.toNat ≤ 5400 ∧
      f.lowMark.toNat ≤ 300
    (8 ≤ cabinet.toNat ∨ ¬ inRange → exec c s = .next (s.answer 0x50 tag (s.part, { status := .range }))) ∧
    ∀ (h : cabinet.toNat < 8), inRange →
      let n : Fin 8 := ⟨cabinet.toNat, h⟩
      let old := s.cabinet n
      let l := s.loop (cabinetLoop n)
      let kindChanges := f.kind.toNat ≠ old.kind.val
      let held := old.batches ≠ [] ∧ (kindChanges ∨ f.capacity.toNat ≠ old.capacity) ∨
        kindChanges ∧ old.waveSlot.isSome = true
      (held → exec c s = .next (s.answer 0x50 tag (s.part, { status := .state }))) ∧
      (¬ held → ∃ t, exec c s = .next t ∧
        Answered { noticeFoot with cabinets := true, loops := true } 0x50 tag .ok [] s t ∧ Noticed [] s t ∧
        wavesJudged (fun v => (t.cabinet n).ready ≠ old.ready ∧ ofKind (t.cabinet n).kind v) s t ∧ lowEvaluated n s t ∧
        (∀ m, m ≠ n → t.cabinet m = s.cabinet m) ∧ (∀ m, m ≠ cabinetLoop n → t.loop m = s.loop m) ∧
        (∀ k : Fin 4, k.val = f.kind.toNat → t.cabinet n = { old with
          kind := k, capacity := f.capacity.toNat, standbySp := f.standbySp.toNat, serviceSp := f.serviceSp.toNat
          readyTemp := f.readyTemp.toNat, warmTime := f.warmTime.toNat, lowMark := f.lowMark.toNat }) ∧
        t.loop (cabinetLoop n) =
          (if old.mode = .standby ∧ f.standbySp.toNat ≠ old.standbySp then
            { l with sp := clamp 0 l.cfg.maxSetpoint f.standbySp.toNat }
          else if old.mode = .service ∧ f.serviceSp.toNat ≠ old.serviceSp then
            { l with sp := clamp 0 l.cfg.maxSetpoint f.serviceSp.toNat }
          else l) ∧
        ⟨.cabinet, n.val⟩ ∈ t.link.changeSet)) ∧
  ∀ (s : State) (tag cabinet mode : Byte),
    let c : Instr := .setCabinetMode tag cabinet mode
    (8 ≤ cabinet.toNat ∨ 3 ≤ mode.toNat → exec c s = .next (s.answer 0x51 tag (s.part, { status := .range }))) ∧
    ∀ (h : cabinet.toNat < 8) (m : CabinetMode), m.code = mode.toNat →
      let n : Fin 8 := ⟨cabinet.toNat, h⟩
      let old := s.cabinet n
      let l := s.loop (cabinetLoop n)
      ∃ t, exec c s = .next t ∧
        Answered { cabinets := true, loops := true, feeder := true, conds := true, pager := true } 0x51 tag .ok [] s t ∧
        DeskKept [overtempSlot (cabinetLoop n)] s t ∧
        (∀ x, x ≠ n → t.cabinet x = s.cabinet x) ∧ t.cabinet n = { old with mode := m, waveSet := false } ∧
        (∀ x, x ≠ cabinetLoop n → t.loop x = s.loop x) ∧ (∀ x, x ≠ cabinetLoop n → t.heater x = s.heater x) ∧
        t.part.feeder = { s.part.feeder with heaters := t.part.feeder.heaters } ∧
        (m = old.mode → t.loop (cabinetLoop n) = l ∧ t.heater (cabinetLoop n) = s.heater (cabinetLoop n)) ∧
        (m ≠ old.mode →
          t.heater (cabinetLoop n) =
            { s.heater (cabinetLoop n) with cls := if m = .service then .service else .standby } ∧
          (m = .off → t.loop (cabinetLoop n) =
            { l with base := .off, integ := 0, deriv := 0, yPrev := 0, uLast := 0, demand := 0 }) ∧
          (m ≠ .off →
            (t.loop (cabinetLoop n)).sp =
              clamp 0 l.cfg.maxSetpoint (if m = .service then old.serviceSp else old.standbySp) ∧
            (t.loop (cabinetLoop n)).base = (if l.base = .off then .auto else l.base) ∧
            (t.loop (cabinetLoop n)).cfg = l.cfg ∧
            autoStarted (cabinetLoop n)
              { l with sp := clamp 0 l.cfg.maxSetpoint (if m = .service then old.serviceSp else old.standbySp) } s t))

/-- R88, R91, R87: STOCK ADD, WRITE OFF and RETURN move plates between the counts of one kind, or change its total
with one location; a move is clamped to what its source holds, and one that moves nothing changes nothing. STOCK ADD
answers with the moved and not-moved counts of every move (log entry 12). A move of plates has the waves of its kind
judged, their WAVE_READY triggers in the order of the slots (R94, R141; log entry 32), and one from a cabinet
evaluates PLATES_LOW once (R95; log entry 20). -/
def Obligations.StockRequestsMovePlates : Prop :=
  (∀ (s : State) (tag kind : Byte) (count : Half) (h : kind.toNat < 4),
    let k : Fin 4 := ⟨kind.toNat, h⟩
    let old := s.stockOf k
    count.toNat ≠ 0 → old.total + count.toNat ≤ 65535 →
    ∃ t, exec (.stockAdd tag kind count) s = .next t ∧
      Answered { noticeFoot with stock := true } 0x52 tag .ok (moveFields count.toNat count.toNat []) s t ∧
      Noticed [] s t ∧ wavesJudged (ofKind k) s t ∧
      (∀ x, x ≠ k → t.stockOf x = s.stockOf x) ∧
      t.stockOf k = { old with total := old.total + count.toNat, clean := old.clean + count.toNat }) ∧
  (∀ (s : State) (tag kind : Byte) (count : Half),
    (4 ≤ kind.toNat ∨ count.toNat = 0 →
      exec (.stockAdd tag kind count) s = .next (s.answer 0x52 tag (s.part, { status := .range })) ∧
      exec (.returnPlates tag kind count) s = .next (s.answer 0x57 tag (s.part, { status := .range }))) ∧
    ∀ h : kind.toNat < 4, 65535 < (s.stockOf ⟨kind.toNat, h⟩).total + count.toNat →
      exec (.stockAdd tag kind count) s = .next (s.answer 0x52 tag (s.part, { status := .range }))) ∧
  (∀ (s : State) (tag kind location : Byte) (count : Half) (h : kind.toNat < 4),
    let k : Fin 4 := ⟨kind.toNat, h⟩
    let old := s.stockOf k
    let c : Instr := .writeOff tag kind location count
    let foot : Footprint := { noticeFoot with stock := true }
    let others (t : State) (moved : Nat) : Prop := Noticed [] s t ∧
      wavesJudged (fun v => 0 < moved ∧ ofKind k v) s t ∧ ∀ x, x ≠ k → t.stockOf x = s.stockOf x
    let unmoved := exec c s = .next (s.answer 0x53 tag
      (s.part, { status := .okTaken, pieces := moveFields count.toNat 0 [] }))
    count.toNat ≠ 0 →
    (∀ moved, moved = min count.toNat old.soiled → location.toNat = 8 →
      ∃ t, exec c s = .next t ∧ Answered foot 0x53 tag (moveStatus count.toNat moved)
        (moveFields count.toNat moved []) s t ∧ others t moved ∧
        t.stockOf k = { old with total := old.total - moved, soiled := old.soiled - moved }) ∧
    (old.soiled = 0 → location.toNat = 8 → unmoved) ∧
    (∀ moved, moved = min count.toNat old.clean → location.toNat = 9 →
      ∃ t, exec c s = .next t ∧ Answered foot 0x53 tag (moveStatus count.toNat moved)
        (moveFields count.toNat moved []) s t ∧ others t moved ∧
        t.stockOf k = { old with total := old.total - moved, clean := old.clean - moved }) ∧
    (old.clean = 0 → location.toNat = 9 → unmoved) ∧
    (∀ moved, moved = min count.toNat old.issued → location.toNat = 10 →
      ∃ t, exec c s = .next t ∧ Answered foot 0x53 tag (moveStatus count.toNat moved)
        (moveFields count.toNat moved []) s t ∧ others t moved ∧
        t.stockOf k = { old with total := old.total - moved, issued := old.issued - moved }) ∧
    (old.issued = 0 → location.toNat = 10 → unmoved) ∧
    ∀ (hl : location.toNat < 8) (moved : Nat), moved = min count.toNat (s.cabinet ⟨location.toNat, hl⟩).held →
      let n : Fin 8 := ⟨location.toNat, hl⟩
      ((s.cabinet n).kind = k → 0 < moved →
        ∃ t, exec c s = .next t ∧ Answered { foot with cabinets := true } 0x53 tag (moveStatus count.toNat moved)
          (moveFields count.toNat moved []) s t ∧ others t moved ∧
          t.stockOf k = { old with total := old.total - moved } ∧ (∀ x, x ≠ n → t.cabinet x = s.cabinet x) ∧
          lowEvaluated n s t ∧
          t.cabinet n = { s.cabinet n with batches := takeOldest moved (s.cabinet n).batches }) ∧
      ((s.cabinet n).kind = k → moved = 0 →
        exec c s = .next (s.answer 0x53 tag
          (s.part, { status := .okTaken, pieces := moveFields count.toNat 0 [] }))) ∧
      ((s.cabinet n).kind ≠ k → exec c s = .next (s.answer 0x53 tag (s.part, { status := .range })))) ∧
  (∀ (s : State) (tag kind location : Byte) (count : Half),
    4 ≤ kind.toNat ∨ 11 ≤ location.toNat ∨ count.toNat = 0 →
    exec (.writeOff tag kind location count) s = .next (s.answer 0x53 tag (s.part, { status := .range }))) ∧
  ∀ (s : State) (tag kind : Byte) (count : Half) (h : kind.toNat < 4) (moved : Nat),
    let k : Fin 4 := ⟨kind.toNat, h⟩
    let old := s.stockOf k
    count.toNat ≠ 0 → moved = min count.toNat old.issued →
    (∃ t, exec (.returnPlates tag kind count) s = .next t ∧
      Answered { noticeFoot with stock := true } 0x57 tag (moveStatus count.toNat moved)
        (moveFields count.toNat moved []) s t ∧ Noticed [] s t ∧
      wavesJudged (fun v => 0 < moved ∧ ofKind k v) s t ∧
      (∀ x, x ≠ k → t.stockOf x = s.stockOf x) ∧
      t.stockOf k = { old with issued := old.issued - moved, soiled := old.soiled + moved }) ∧
    (moved = 0 → exec (.returnPlates tag kind count) s = .next (s.answer 0x57 tag
      (s.part, { status := .okTaken, pieces := moveFields count.toNat 0 [] })))

/-- R89: LOAD moves the smallest of the count asked for, the clean count and the room left from clean into a new batch
at the newest end, or into the newest of 8, whose dwell starts again; in the trip state it is refused with TRIPPED.
The waves of the kind are judged, their WAVE_READY triggers in the order of the slots (R94, R141; log entry 32), and
PLATES_LOW is evaluated once (R95; log entry 20). -/
def Obligations.LoadFillsTheNewestEnd : Prop :=
  ∀ (s : State) (tag cabinet : Byte) (count : Half),
    let i : Instr := .load tag cabinet count
    (8 ≤ cabinet.toNat ∨ count.toNat = 0 → exec i s = .next (s.answer 0x54 tag (s.part, { status := .range }))) ∧
    ∀ (h : cabinet.toNat < 8), count.toNat ≠ 0 →
      let n : Fin 8 := ⟨cabinet.toNat, h⟩
      let c := s.cabinet n
      let old := s.stockOf c.kind
      let moved := min count.toNat (min old.clean (c.capacity - c.held))
      (s.part.interlock.trip = true → exec i s = .next (s.answer 0x54 tag (s.part, { status := .tripped }))) ∧
      (s.part.interlock.trip = false → moved = 0 →
        exec i s = .next (s.answer 0x54 tag
          (s.part, { status := .okTaken, pieces := moveFields count.toNat 0 [] }))) ∧
      (s.part.interlock.trip = false → 0 < moved →
        ∃ t, exec i s = .next t ∧
          Answered { noticeFoot with stock := true, cabinets := true } 0x54 tag (moveStatus count.toNat moved)
            (moveFields count.toNat moved []) s t ∧ Noticed [] s t ∧
          wavesJudged (ofKind c.kind) s t ∧ lowEvaluated n s t ∧
          (∀ k, k ≠ c.kind → t.stockOf k = s.stockOf k) ∧ t.stockOf c.kind = { old with clean := old.clean - moved } ∧
          (∀ m, m ≠ n → t.cabinet m = s.cabinet m) ∧
          (c.batches.length < 8 → t.cabinet n = { c with
            batches := c.batches ++ [{ count := moved, load := s.part.uptime, dwell := 0 }] }) ∧
          ∀ older newest, c.batches = older ++ [newest] → 8 ≤ c.batches.length → t.cabinet n = { c with
            batches := older ++ [{ count := newest.count + moved, load := s.part.uptime, dwell := 0 }] })

/-- R90, R91, R138: ISSUE and UNLOAD PLATES take plates from the oldest batches, to issued and to clean; an ISSUE says
how many came from batches not ready, and a serving wave counts it and closes at its covers, which cancels its
WAVE_READY page (R139; the whole of the pager is stated while the port is busy and no route is enabled). R88: plates
leave a batch list from its oldest end: the batches before some place are gone, and at most the batch at that place is
reduced, with its dwell and load uptime kept; what is gone adds up to the plates taken. R90: the figure for plates not
ready is the sum, over the batches taken from that are not ready, of the portions taken from each. R95: an ISSUE that
leaves a serving cabinet below its low mark sends PLATES_LOW with its ready count, once for the ISSUE, which changes
the held and the ready count together (log entry 20; worked case 5.5) (stated while the port is busy and no other
route is enabled), and an UNLOAD PLATES evaluates it in the same way. R94, R141: the waves of the kind are judged,
their WAVE_READY triggers in the order of the slots (log entry 32), and a serving wave's short flag with them. A wave
closed at its covers stands as just closed for the next command (R139; log entry 41). -/
def Obligations.IssueAndUnloadTakeTheOldest : Prop :=
  (∀ (s : State) (tag cabinet : Byte) (count : Half),
    (8 ≤ cabinet.toNat ∨ count.toNat = 0 →
      exec (.issue tag cabinet count) s = .next (s.answer 0x55 tag (s.part, { status := .range })) ∧
      exec (.unloadPlates tag cabinet count) s = .next (s.answer 0x56 tag (s.part, { status := .range }))) ∧
    ∀ (h : cabinet.toNat < 8), count.toNat ≠ 0 →
      let n : Fin 8 := ⟨cabinet.toNat, h⟩
      let c := s.cabinet n
      let old := s.stockOf c.kind
      let moved := min count.toNat c.held
      let cold := u16 (takenNotReady c.warmTime moved c.batches)
      (moved = 0 →
        exec (.issue tag cabinet count) s = .next (s.answer 0x55 tag
          (s.part, { status := .okTaken, pieces := moveFields count.toNat 0 cold })) ∧
        exec (.unloadPlates tag cabinet count) s = .next (s.answer 0x56 tag
          (s.part, { status := .okTaken, pieces := moveFields count.toNat 0 [] }))) ∧
      (0 < moved →
        (∃ t, exec (.unloadPlates tag cabinet count) s = .next t ∧
          Answered { noticeFoot with stock := true, cabinets := true } 0x56 tag (moveStatus count.toNat moved)
            (moveFields count.toNat moved []) s t ∧ Noticed [] s t ∧
          wavesJudged (ofKind c.kind) s t ∧ lowEvaluated n s t ∧
          (∀ k, k ≠ c.kind → t.stockOf k = s.stockOf k) ∧ t.stockOf c.kind = { old with clean := old.clean + moved } ∧
          (∀ m, m ≠ n → t.cabinet m = s.cabinet m) ∧
          t.cabinet n = { c with batches := takeOldest moved c.batches }) ∧
        ∃ t, exec (.issue tag cabinet count) s = .next t ∧
          Answered { waveFoot with stock := true } 0x55 tag (moveStatus count.toNat moved)
            (moveFields count.toNat moved cold) s t ∧
          ((∀ w v, c.waveSlot = some w → s.wave w = some v → v.state ≠ .serving) →
            Noticed [] s t ∧ wavesJudged (ofKind c.kind) s t) ∧
          (∀ x, (∀ v, s.wave x = some v → c.waveSlot ≠ some x ∨ v.state ≠ .serving) →
            noticedAt (ofKind c.kind) s t x) ∧
          (∀ w v, c.waveSlot = some w → s.wave w = some v →
            DeskKept (waveSlots ++ v.cabinets.map fun m => overtempSlot (cabinetLoop m)) s t) ∧
          (∀ k, k ≠ c.kind → t.stockOf k = s.stockOf k) ∧
          t.stockOf c.kind = { old with issued := old.issued + moved } ∧
          (∀ m, m ≠ n → (t.cabinet m).batches = (s.cabinet m).batches) ∧
          (t.cabinet n).batches = takeOldest moved c.batches ∧
          (∀ x v, s.wave x = some v → c.waveSlot ≠ some x ∨ v.state ≠ .serving →
            ∃ u, t.wave x = some u ∧ u.issued = v.issued ∧ u.cabinets = v.cabinets ∧ u.ovens = v.ovens) ∧
          (∀ w v, c.waveSlot = some w → s.wave w = some v → v.state = .serving →
            ∃ u, t.wave w = some u ∧ u.issued = min 65535 (v.issued + moved) ∧
              u.state = (if v.covers ≤ u.issued then .closed else .serving) ∧
              (u.issued < v.covers →
                u = { v with issued := u.issued, short := decide (potentialOf t v < v.covers - u.issued) } ∧
                t.slot (platesShortSlot w) =
                  shortSlotAfter s w v.short u.short (v.covers - u.issued - potentialOf t v) ∧
                t.slot (waveLateSlot w) = s.slot (waveLateSlot w)) ∧
              (v.issued < v.covers → v.covers ≤ u.issued → WavesApart s.part → t.part.justClosed = some w) ∧
              (v.covers ≤ u.issued →
                (PagesKept s.pager → noPageBut (.wave w) t.pager) ∧
                (s.pager.port ≠ .idle → (∀ k, (s.pager.routes.get k).enabled = false) →
                  noticeCancels s.part.uptime (.wave w) s.pager t.pager))) ∧
          (s.pager.port ≠ .idle → (∀ k, k ≠ 15 → (s.pager.routes.get k).enabled = false) →
            ∀ w v, c.waveSlot = some w → s.wave w = some v → v.state = .serving →
            min 65535 (v.issued + moved) < v.covers →
            let ready := (t.cabinet n).ready
            (ready < c.lowMark →
              triggered s.part.uptime (.cabinet n) 15 (BitVec.ofNat 16 ready) s.pager t.pager) ∧
            (c.lowMark ≤ ready → t.pager = s.pager)) ∧
          ((∀ w v, c.waveSlot = some w → s.wave w = some v → v.state ≠ .serving) →
            t.part.loops = s.part.loops ∧ t.part.feeder = s.part.feeder ∧
            (∀ m, m ≠ n → t.cabinet m = s.cabinet m) ∧
            t.cabinet n = { c with batches := takeOldest moved c.batches }))) ∧
  ∀ (n : Nat) (batches : List Batch), n ≤ heldIn batches →
    heldIn (takeOldest n batches) + n = heldIn batches ∧
    ∃ gone left, batches = gone ++ left ∧
      let cold (warmTime : Nat) : Nat := (gone.map fun b => if b.dwell < warmTime then b.count else 0).sum
      (takeOldest n batches = left ∧ heldIn gone = n ∧ (∀ warmTime, takenNotReady warmTime n batches = cold warmTime) ∨
        ∃ b rest, left = b :: rest ∧ heldIn gone < n ∧ n - heldIn gone < b.count ∧
          takeOldest n batches = { b with count := b.count - (n - heldIn gone) } :: rest ∧
          ∀ warmTime, takenNotReady warmTime n batches =
            cold warmTime + if b.dwell < warmTime then n - heldIn gone else 0)

/-- R85, R86: a warm tick of a cabinet that holds batches, whose channel reads OK at or above its ready temperature,
adds a second to every dwell; any other warm tick changes nothing. A tick that changes the ready count
has the waves of the kind judged, their WAVE_READY triggers in the order of the slots, and evaluates PLATES_LOW once
(R94, R95, R141; log entries 20 and 32). 00_scope.md, section 3: the uptime counter counts
whole seconds and nothing else changes; what 32 bits hold a second after their largest value is a free value (log
entry 1). -/
def Obligations.SecondsAreCounted : Prop :=
  (∀ (s : State) (n : Fin 8),
    let c := s.cabinet n
    let warm := ∃ value, s.part.reading (cabinetChannel n) = some value ∧ (c.readyTemp : Int) ≤ value
    (c.batches = [] ∨ ¬ warm → exec (.warmTick n) s = .next (s.event s.part)) ∧
    (c.batches ≠ [] → warm →
      ∃ t, exec (.warmTick n) s = .next t ∧ Happened { noticeFoot with cabinets := true } s t ∧ Noticed [] s t ∧
        wavesJudged (fun v => (t.cabinet n).ready ≠ c.ready ∧ ofKind c.kind v) s t ∧
        ((t.cabinet n).ready ≠ c.ready → lowEvaluated n s t) ∧ ((t.cabinet n).ready = c.ready → t.pager = s.pager) ∧
        (∀ m, m ≠ n → t.cabinet m = s.cabinet m) ∧
        t.cabinet n = { c with batches := c.batches.map fun b => { b with dwell := min 65535 (b.dwell + 1) } })) ∧
  ∀ s : State, ∃ t, exec .uptimeSecond s = .next t ∧ t.pending = s.pending ∧ t.link = s.link.kick ∧
    Touches { uptime := true } s.part t.part ∧
    (s.part.uptime.toNat < 4294967295 → t.part.uptime.toNat = s.part.uptime.toNat + 1) ∧
    (s.part.uptime.toNat = 4294967295 → t.part.uptime = Config.uptimeAfterLargest)

/-! ## Chapter 6: the dish tunnel -/

/-- The tunnel's centre-in-zone test of R101 for the rinse zone, over a queue of racks. -/
def Sys2Proof.Machine.rinsing (g : DishConfig) (queue : List Rack) : Bool :=
  queue.any fun r => decide (g.rinseStart + 250 ≤ r.position) && decide (r.position ≤ g.rinseEnd + 250)

/-- The lock of heater 15 after the valve has gone from one state to another (R49, R116): a notice is sent where the
two differ. -/
def Sys2Proof.Machine.lockAfter (before after locked : Bool) : Bool := if before = after then locked else after

/-- R100, R105: a CONFIGURE DISH that passes both checks replaces every field, and asks loops that are in AUTO for a
changed setpoint; DISH ON in OFF starts both loops and warms up, each loop taking what R33 makes of its AUTO, with the
cycle at once. The refusals are the rules'. -/
def Obligations.ConfigureDishAndDishOnAreTaken : Prop :=
  (∀ (s : State) (tag : Byte) (f : DishFields),
    let d := s.dish
    let g : DishConfig :=
      { washSp := f.washSp.toNat, washMin := f.washMin.toNat, boosterSp := f.boosterSp.toNat,
        rinseReady := f.rinseReady.toNat, dose := f.dose.toNat, tunnelLength := f.tunnelLength.toNat,
        washStart := f.washStart.toNat, washEnd := f.washEnd.toNat, rinseStart := f.rinseStart.toNat,
        rinseEnd := f.rinseEnd.toNat, exitTolerance := f.exitTolerance.toNat }
    let inRange := g.washSp ≤ 4000 ∧ g.washMin ≤ 4000 ∧ g.boosterSp ≤ 4000 ∧ g.rinseReady ≤ 4000 ∧ 100 ≤ g.dose ∧
      g.dose ≤ 10000 ∧ 1000 ≤ g.tunnelLength ∧ g.tunnelLength ≤ 6000 ∧ g.washStart < g.washEnd ∧
      g.washEnd ≤ g.tunnelLength ∧ g.rinseStart < g.rinseEnd ∧ g.rinseEnd ≤ g.tunnelLength ∧ 50 ≤ g.exitTolerance ∧
      g.exitTolerance ≤ 300
    let zonesHeld := g = { d.cfg with
      washSp := g.washSp, washMin := g.washMin, boosterSp := g.boosterSp, rinseReady := g.rinseReady, dose := g.dose }
    let auto := d.state = .warming ∨ d.state = .ready ∨ d.state = .running ∨ d.state = .held ∧ d.reasons.trip = false
    let asked (n : Fin 16) (sp : Nat) : Loop := { s.loop n with sp := clamp 0 (s.loop n).cfg.maxSetpoint sp }
    (¬ inRange → exec (.configureDish tag f) s = .next (s.answer 0x60 tag (s.part, { status := .range }))) ∧
    (inRange → ¬ zonesHeld → d.state ≠ .off →
      exec (.configureDish tag f) s = .next (s.answer 0x60 tag (s.part, { status := .state }))) ∧
    (inRange → zonesHeld ∨ d.state = .off →
      ∃ t, exec (.configureDish tag f) s = .next t ∧ Answered { dish := true, loops := true } 0x60 tag .ok [] s t ∧
        t.dish = { d with cfg := g } ∧ ⟨.dish, 0⟩ ∈ t.link.changeSet ∧
        (∀ m, m ≠ 14 → m ≠ 15 → t.loop m = s.loop m) ∧
        (auto → g.washSp ≠ d.cfg.washSp → t.loop 14 = asked 14 g.washSp) ∧
        (auto → g.boosterSp ≠ d.cfg.boosterSp → t.loop 15 = asked 15 g.boosterSp) ∧
        (¬ auto ∨ g.washSp = d.cfg.washSp → t.loop 14 = s.loop 14) ∧
        (¬ auto ∨ g.boosterSp = d.cfg.boosterSp → t.loop 15 = s.loop 15))) ∧
  ∀ (s : State) (tag : Byte),
    (s.part.interlock.trip = true →
      exec (.dishOn tag) s = .next (s.answer 0x61 tag (s.part, { status := .tripped }))) ∧
    (s.part.interlock.trip = false → s.dish.state ≠ .off →
      exec (.dishOn tag) s = .next (s.answer 0x61 tag (s.part, { status := .state }))) ∧
    (s.part.interlock.trip = false → s.dish.state = .off →
      ∃ t, exec (.dishOn tag) s = .next t ∧
        Answered { dish := true, loops := true, conds := true, pager := true } 0x61 tag .ok [] s t ∧
        DeskKept [overtempSlot 14, overtempSlot 15] s t ∧
        t.dish = { s.dish with state := .warming, gateOpen := false } ∧
        (∀ m, m ≠ 14 → m ≠ 15 → t.loop m = s.loop m) ∧
        (t.loop 14).sp = clamp 0 (s.loop 14).cfg.maxSetpoint s.dish.cfg.washSp ∧
        (t.loop 15).sp = clamp 0 (s.loop 15).cfg.maxSetpoint s.dish.cfg.boosterSp ∧
        (∀ m, m = 14 ∨ m = 15 → (t.loop m).base = if (s.loop m).base = .off then .auto else (s.loop m).base) ∧
        autoStarted 14 { s.loop 14 with sp := clamp 0 (s.loop 14).cfg.maxSetpoint s.dish.cfg.washSp } s t ∧
        autoStarted 15 { s.loop 15 with sp := clamp 0 (s.loop 15).cfg.maxSetpoint s.dish.cfg.boosterSp } s t)

/-- R106, R107, R111, R116: RUN in READY with the door closed and no overload starts the conveyor and judges gate and
valve; STOP in RUNNING ends it; the lock of heater 15 follows the valve. The refusals are the rules'. R110, R102,
R103: DISH OFF removes every rack as UNVERIFIED, oldest first, into the ring, with its plates back to soiled, and
leaves the tunnel OFF with its loops OFF; in OFF it changes nothing. R94, R141: a move of plates has the waves of its
kind judged. -/
def Obligations.RunStopAndDishOffDriveTheTunnel : Prop :=
  (∀ (s : State) (tag : Byte),
    let d := s.dish
    let shut := s.part.asserted .dishDoor = false ∧ s.part.asserted .conveyorOverload = false
    let valve := rinsing d.cfg d.queue
    (s.part.interlock.trip = true →
      exec (.run tag) s = .next (s.answer 0x62 tag (s.part, { status := .tripped }))) ∧
    (s.part.interlock.trip = false → d.state ≠ .ready ∨ ¬ shut →
      exec (.run tag) s = .next (s.answer 0x62 tag (s.part, { status := .state }))) ∧
    (s.part.interlock.trip = false → d.state = .ready → shut →
      ∃ t, exec (.run tag) s = .next t ∧ Answered { dish := true, feeder := true } 0x62 tag .ok [] s t ∧
        t.dish = { d with
          state := .running, conveyor := true, coldTimer := 0, valveOpen := valve
          gateOpen := decide (d.queue.length < 12) && d.tankWarm && d.boosterHot && !d.rinseFail } ∧
        t.part.feeder = { s.part.feeder with heaters := t.part.feeder.heaters } ∧
        (∀ m, m ≠ 15 → t.heater m = s.heater m) ∧
        t.heater 15 = { s.heater 15 with locked := lockAfter d.valveOpen valve (s.heater 15).locked }) ∧
    (d.state ≠ .running → exec (.stop tag) s = .next (s.answer 0x63 tag (s.part, { status := .state }))) ∧
    (d.state = .running →
      ∃ t, exec (.stop tag) s = .next t ∧ Answered { dish := true, feeder := true } 0x63 tag .ok [] s t ∧
        t.dish = { d with state := .ready, conveyor := false, gateOpen := false, coldTimer := 0, valveOpen := false } ∧
        t.part.feeder = { s.part.feeder with heaters := t.part.feeder.heaters } ∧
        (∀ m, m ≠ 15 → t.heater m = s.heater m) ∧
        t.heater 15 = { s.heater 15 with locked := lockAfter d.valveOpen false (s.heater 15).locked })) ∧
  ∀ (s : State) (tag : Byte),
    let d := s.dish
    let records := d.queue.map fun r =>
      { r with outcome := some .unverified, removal := some s.part.uptime }
    let lost := d.ring.length + d.queue.length - 64
    (d.state = .off → exec (.dishOff tag) s = .next (s.answer 0x64 tag (s.part, { status := .ok }))) ∧
    (d.state ≠ .off → d.ring.length ≤ 64 → d.overwrites ≤ 65535 → (s.heater 15).locked = d.valveOpen →
      ∃ t, exec (.dishOff tag) s = .next t ∧ Answered { rackFoot with loops := true } 0x64 tag .ok [] s t ∧
        Noticed [washColdSlot] s t ∧
        (∀ w, noticedAt (fun v => ∃ r ∈ d.queue, r.count ≠ 0 ∧ ∃ kind, r.kind = some kind ∧ ofKind kind v) s t w) ∧
        t.dish = { d with
          state := .off, reasons := { door := false, overload := false, lost := false, trip := false }
          conveyor := false, gateOpen := false, valveOpen := false, coldTimer := 0, washCold := false, queue := []
          ring := (d.ring ++ records).drop lost, overwrites := min 65535 (d.overwrites + lost) } ∧
        (∀ kind, t.stockOf kind = { s.stockOf kind with
          tunnel := (s.stockOf kind).tunnel - d.plates kind, soiled := (s.stockOf kind).soiled + d.plates kind }) ∧
        (∀ m, m ≠ 14 → m ≠ 15 → t.loop m = s.loop m) ∧
        (∀ m, m = 14 ∨ m = 15 → t.loop m = { s.loop m with
          base := .off, integ := 0, deriv := 0, yPrev := 0, uLast := 0, demand := 0 }) ∧
        (∀ m, m ≠ 15 → t.heater m = s.heater m) ∧ t.heater 15 = { s.heater 15 with locked := false } ∧
        t.slot washColdSlot = if d.washCold then (s.slot washColdSlot).ret else s.slot washColdSlot)

/-- R112, R122: DECLARE RACK appends a declaration to fewer than 8; TAKE RACKS takes the oldest records of the ring;
CLEAR RING COUNT clears the overwrite count. R173: TAKE OUTCOMES removes the oldest records, up to its maximum of 1 to
16, and answers them with the number still held; a record appended to a list of 16 pushes out the oldest. -/
def Obligations.RecordsJoinAndLeaveTheirLists : Prop :=
  ((∀ (s : State) (tag kind count : Byte),
    let d := s.dish
    let inRange := kind.toNat < 4 ∧ 1 ≤ count.toNat ∧ count.toNat ≤ 40
    (¬ inRange → exec (.declareRack tag kind count) s = .next (s.answer 0x65 tag (s.part, { status := .range }))) ∧
    (inRange → 8 ≤ d.declared.length →
      exec (.declareRack tag kind count) s = .next (s.answer 0x65 tag (s.part, { status := .full }))) ∧
    (inRange → d.declared.length < 8 → ∀ k : Fin 4, k.val = kind.toNat →
      ∃ t, exec (.declareRack tag kind count) s = .next t ∧
        Answered { dish := true } 0x65 tag .ok [u8 (d.declared.length + 1)] s t ∧
        t.dish = { d with declared := d.declared ++ [{ kind := k, count := count.toNat }] })) ∧
  (∀ (s : State) (tag maximum : Byte),
    (maximum.toNat < 1 ∨ 8 < maximum.toNat →
      exec (.takeRacks tag maximum) s = .next (s.answer 0x66 tag (s.part, { status := .range }))) ∧
    (1 ≤ maximum.toNat → maximum.toNat ≤ 8 →
      ∃ t, exec (.takeRacks tag maximum) s = .next t ∧
        Answered { dish := true } 0x66 tag .ok
          (listPieces ((s.dish.ring.take maximum.toNat).map Rack.bytes) ++
            [u16 s.dish.overwrites ++ u8 (s.dish.ring.drop maximum.toNat).length]) s t ∧
        t.dish = { s.dish with ring := s.dish.ring.drop maximum.toNat })) ∧
  ∀ (s : State) (tag : Byte), ∃ t, exec (.clearRingCount tag) s = .next t ∧
    Answered { dish := true } 0x67 tag .ok [] s t ∧ t.dish = { s.dish with overwrites := 0 }) ∧
  (∀ (s : State) (tag maximum : Byte),
    let held := s.pager.outcomes
    let n := maximum.toNat
    (n < 1 ∨ 16 < n → exec (.takeOutcomes tag maximum) s = .next (s.answer 0x97 tag (s.part, { status := .range }))) ∧
    (1 ≤ n → n ≤ 16 →
      ∃ t, exec (.takeOutcomes tag maximum) s = .next t ∧ t.part.desk.conds = s.part.desk.conds ∧
        Answered { pager := true } 0x97 tag .ok
          (listPieces ((held.take n).map OutcomeRecord.bytes) ++ [u8 (held.drop n).length]) s t ∧
        t.pager = { s.pager with outcomes := held.drop n } ∧ (held ≠ [] → ⟨.outcomes, 0⟩ ∈ t.link.changeSet))) ∧
  ∀ (r : OutcomeRecord) (records : List OutcomeRecord),
    (records.length < 16 → appendOutcome r records = records ++ [r]) ∧
    ∀ oldest rest, records = oldest :: rest → 16 ≤ records.length → appendOutcome r records = rest ++ [r]

/-- R101, R116, R119, R180: an encoder pulse counts travel and advances every rack; with the oldest rack within the
lost limit the valve is judged on the new positions; beyond it, the rack is removed as LOST with its plates back to
soiled, RACK_LOST is raised, and the tunnel is HELD. One pulse removes one rack, also where the next is beyond the
limit too (log entry 23). R94, R141: a move of plates has the waves of its kind judged. -/
def Obligations.EncoderPulseAdvancesEveryRack : Prop :=
  ∀ s : State,
    let d := s.dish
    let moved := d.queue.map fun r => { r with position := min 65535 (r.position + 1) }
    let limit := d.cfg.tunnelLength + d.cfg.exitTolerance
    ((∀ r ∈ moved.head?, r.position ≤ limit) →
      let valve := decide (d.state = .running) && rinsing d.cfg moved
      ∃ t, exec .encoderPulse s = .next t ∧ Happened { dish := true, feeder := true, interlock := true } s t ∧
        t.part.interlock = { s.part.interlock with travel := s.part.interlock.travel + 1 } ∧
        t.dish = { d with queue := moved, valveOpen := valve } ∧
        t.part.feeder = { s.part.feeder with heaters := t.part.feeder.heaters } ∧
        (∀ m, m ≠ 15 → t.heater m = s.heater m) ∧
        t.heater 15 = { s.heater 15 with locked := lockAfter d.valveOpen valve (s.heater 15).locked }) ∧
    ∀ r rest, moved = r :: rest → limit < r.position → d.state ≠ .off →
      let entering := decide (d.state ≠ .held)
      let reasons : HoldReasons := if entering then {} else d.reasons
      let lost : Rack := { r with outcome := some .lost, removal := some s.part.uptime }
      ∃ t, exec .encoderPulse s = .next t ∧ Happened { rackFoot with interlock := true } s t ∧
        t.part.interlock = { s.part.interlock with travel := s.part.interlock.travel + 1 } ∧
        t.dish = { d with
          state := .held, reasons := { reasons with lost := true }, queue := rest, valveOpen := false, gateOpen := false
          conveyor := if entering then false else d.conveyor, coldTimer := if entering then 0 else d.coldTimer
          ring := (d.appendRing lost).ring, overwrites := (d.appendRing lost).overwrites } ∧
        t.slot rackLostSlot = ((s.slot rackLostSlot).raise s.part.uptime r.number).ret ∧
        Noticed [rackLostSlot] s t ∧
        (∀ w, noticedAt (fun v => r.count ≠ 0 ∧ ∃ kind, r.kind = some kind ∧ ofKind kind v) s t w) ∧
        (∀ kind, r.kind = some kind → t.stockOf kind = { s.stockOf kind with
          tunnel := (s.stockOf kind).tunnel - r.count, soiled := (s.stockOf kind).soiled + r.count }) ∧
        ∀ kind, r.kind ≠ some kind → t.stockOf kind = s.stockOf kind

/-- A line whose stability timer is running on an asserted level against a deasserted filtered state. -/
def Sys2Proof.Machine.rising (line : Line) (s : State) : Prop :=
  s.part.interlock.lines.get (lineIndex line) = { raw := true, filtered := false, timing := true }

/-- R113, R92: a rack entry edge with fewer than 12 racks, in any state but OFF, tracks a rack under the next number
with the oldest declaration, whose plates move from soiled to tunnel as far as soiled holds them; otherwise it is not
tracked. (The interval since the last entry is taken in 32 bits, as the uptimes are: log entry 29.) R94, R141: a move
of plates has the waves of its kind judged, their WAVE_READY triggers in the order of the slots (log entry 32). -/
def Obligations.RackEntryTracksTheRack : Prop :=
  ∀ s : State, rising .rackEntry s →
    let d := s.dish
    let foot : Footprint := { noticeFoot with interlock := true, dish := true, stock := true }
    let kind := d.declared.head?.map Declaration.kind
    let count := match d.declared.head? with | some a => min a.count (s.stockOf a.kind).soiled | none => 0
    let record : Rack :=
      { number := d.rackCounter + 1, kind, count, entry := s.part.uptime
        interval := d.lastEntry.map fun last => s.part.uptime - last
        position := 0, washMin := none, dose := 0, outcome := none, removal := none }
    ∃ t, exec (.filterTimerExpiry .rackEntry) s = .next t ∧ Happened foot s t ∧ Noticed [] s t ∧
      wavesJudged (fun v => d.state ≠ .off ∧ d.queue.length < 12 ∧ count ≠ 0 ∧ ∃ k, kind = some k ∧ ofKind k v) s t ∧
      t.part.asserted .rackEntry = true ∧
      (d.state = .off ∨ 12 ≤ d.queue.length → t.dish = d ∧ t.part.stock = s.part.stock) ∧
      (d.state ≠ .off → d.queue.length < 12 →
        t.dish = { d with
          rackCounter := d.rackCounter + 1, lastEntry := some s.part.uptime, declared := d.declared.drop 1
          queue := d.queue ++ [record]
          gateOpen := decide (d.state = .running) && decide (d.queue.length + 1 < 12) && d.tankWarm && d.boosterHot &&
            !d.rinseFail && !s.part.interlock.trip } ∧
        ∀ k, t.stockOf k = if kind = some k then { s.stockOf k with
            soiled := (s.stockOf k).soiled - count, tunnel := (s.stockOf k).tunnel + count } else s.stockOf k)

/-- R118, R102, R93: a rack exit edge, in any state but OFF, completes the oldest rack where its position lies in the
exit window: FAILED_DOSE, else FAILED_WASH, else PASSED, its record in the ring, its plates to clean if PASSED and to
soiled otherwise, RINSE_FAIL raised for a failure; with no match EXIT_UNMATCHED is raised and nothing else changes.
R94, R141: a move of plates has the waves of its kind judged. -/
def Obligations.RackExitJudgesTheOldestRack : Prop :=
  ∀ s : State, rising .rackExit s →
    let d := s.dish
    let inWindow (r : Rack) := d.cfg.tunnelLength - d.cfg.exitTolerance ≤ r.position ∧
      r.position ≤ d.cfg.tunnelLength + d.cfg.exitTolerance
    let unmatched (t : State) (position : Half) : Prop := t.dish = d ∧ t.part.stock = s.part.stock ∧
      t.slot exitUnmatchedSlot = ((s.slot exitUnmatchedSlot).raise s.part.uptime position).ret
    ∃ t, exec (.filterTimerExpiry .rackExit) s = .next t ∧ Happened { rackFoot with interlock := true } s t ∧
      Noticed [exitUnmatchedSlot, rinseFailSlot] s t ∧
      (∀ w, noticedAt (fun v => d.state ≠ .off ∧ ∃ r, d.queue.head? = some r ∧ inWindow r ∧ r.count ≠ 0 ∧
        ∃ kind, r.kind = some kind ∧ ofKind kind v) s t w) ∧ t.part.asserted .rackExit = true ∧
      (d.state = .off → t.dish = d ∧ t.part.stock = s.part.stock ∧ t.part.desk.conds = s.part.desk.conds) ∧
      (d.state ≠ .off → d.queue = [] → unmatched t 65535) ∧
      ∀ r rest, d.queue = r :: rest → d.state ≠ .off →
        (¬ inWindow r → unmatched t (BitVec.ofNat 16 r.position)) ∧
        (inWindow r →
          let washed := ∃ low, r.washMin = some low ∧ (d.cfg.washMin : Int) ≤ low
          ∃ outcome : RackOutcome,
            (r.dose < d.cfg.dose → outcome = .failedDose) ∧
            (d.cfg.dose ≤ r.dose → ¬ washed → outcome = .failedWash) ∧
            (d.cfg.dose ≤ r.dose → washed → outcome = .passed) ∧
            let record : Rack := { r with outcome := some outcome, removal := some s.part.uptime }
            let failed := outcome ≠ .passed
            t.dish.queue = rest ∧ t.dish.ring = (d.appendRing record).ring ∧
              t.dish.overwrites = (d.appendRing record).overwrites ∧ t.dish.state = d.state ∧
              (failed → t.dish.rinseFail = true ∧ t.dish.gateOpen = false ∧
                t.slot rinseFailSlot = ((s.slot rinseFailSlot).raise s.part.uptime r.number).ret) ∧
              (¬ failed → t.dish.rinseFail = d.rinseFail ∧ t.slot rinseFailSlot = s.slot rinseFailSlot) ∧
              t.dish.valveOpen = (decide (d.state = .running) && rinsing d.cfg rest) ∧
              ∀ kind, t.stockOf kind =
                if r.kind ≠ some kind then s.stockOf kind
                else if outcome = .passed then { s.stockOf kind with
                  tunnel := (s.stockOf kind).tunnel - r.count, clean := (s.stockOf kind).clean + r.count }
                else { s.stockOf kind with
                  tunnel := (s.stockOf kind).tunnel - r.count, soiled := (s.stockOf kind).soiled + r.count })

/-- R104, R111, R115: a temperature check sets tank warm and booster hot, takes a WARMING tunnel with both to READY
and judges the gate; a wash-cold judgement counts the seconds of RUNNING without warm tank water and raises or returns
WASH_COLD. -/
def Obligations.TankChecksFollowTheReadings : Prop :=
  (∀ s : State,
    let d := s.dish
    let tank := s.part.readsAtLeast 20 d.cfg.washMin
    let booster := s.part.readsAtLeast 21 d.cfg.rinseReady
    ∃ t, exec .temperatureCheck s = .next t ∧ Happened { dish := true } s t ∧
      (tank = true ↔ ∃ value, s.part.reading 20 = some value ∧ (d.cfg.washMin : Int) ≤ value) ∧
      (booster = true ↔ ∃ value, s.part.reading 21 = some value ∧ (d.cfg.rinseReady : Int) ≤ value) ∧
      t.dish = { d with
        tankWarm := tank, boosterHot := booster
        state := if d.state = .warming ∧ tank = true ∧ booster = true then .ready else d.state
        gateOpen := decide (d.state = .running) && decide (d.queue.length < 12) && tank && booster && !d.rinseFail &&
          !s.part.interlock.trip }) ∧
  ∀ s : State,
    let d := s.dish
    let slot := s.slot washColdSlot
    ∃ t, exec .washColdJudgement s = .next t ∧ Happened { dish := true, conds := true, pager := true } s t ∧
      (∀ i, i ≠ washColdSlot → i ≠ unansweredSlot → t.slot i = s.slot i) ∧
      (d.tankWarm = true → t.dish = { d with coldTimer := 0, washCold := false } ∧
        t.slot washColdSlot = if d.washCold then slot.ret else slot) ∧
      (d.tankWarm = false → d.state ≠ .running → t.dish = { d with coldTimer := 0 } ∧ t.slot washColdSlot = slot) ∧
      (d.tankWarm = false → d.state = .running →
        let reached := 30 ≤ d.coldTimer + 1 ∧ d.washCold = false
        t.dish = { d with coldTimer := min 30 (d.coldTimer + 1), washCold := d.washCold || decide reached } ∧
        t.slot washColdSlot =
          if reached then slot.raise s.part.uptime (BitVec.ofInt 16 (s.entry 20).value) else slot)

/-! ## Chapter 7: waves -/

/-- A cabinet as a release notice leaves it (R83). -/
def Sys2Proof.Machine.releasedCabinet (c : Cabinet) : Cabinet :=
  { c with
    waveSlot := none, waveSet := false
    mode := if c.waveSet = true ∧ c.mode = .service then .standby else c.mode }

/-- A cabinet as a service notice leaves it (R83). -/
def Sys2Proof.Machine.servingCabinet (c : Cabinet) : Cabinet :=
  { c with mode := .service, waveSet := if c.mode = .service then c.waveSet else true }

/-- The slots that a wave's judgement or close may raise or return: its own two, and the OVERTEMP of the loops it
starts. -/
def Sys2Proof.Machine.slotsOfWave (w : Fin 12) (v : Wave) : List (Fin 87) :=
  platesShortSlot w :: waveLateSlot w :: v.cabinets.map fun n => overtempSlot (cabinetLoop n)

/-- What the serving notices of a list of cabinets make of the pages, in order: each cabinet with fewer plates ready
than its low mark sends PLATES_LOW with its ready count (R95, R137, R160). -/
def Sys2Proof.Machine.lowTriggers (s : State) : List (Fin 8) → Pager → Pager → Prop
  | [], g, h => h = g
  | n :: rest, g, h =>
    ∃ next, lowTriggers s rest next h ∧
      ((s.cabinet n).lowMark ≤ (s.cabinet n).ready → next = g) ∧
      ((s.cabinet n).ready < (s.cabinet n).lowMark →
        triggered s.part.uptime (.cabinet n) 15 (BitVec.ofNat 16 (s.cabinet n).ready) g next)

/-- A CREATE with every field in its range (R128, first check). -/
def Sys2Proof.Machine.createInRange (f : CreateFields) : Prop :=
  f.number.toNat ≠ 0 ∧ f.ballroom.toNat ≤ 15 ∧ 1 ≤ f.covers.toNat ∧ f.covers.toNat ≤ 3000 ∧ f.kind.toNat < 4 ∧
    1 ≤ f.cabinets.length ∧ f.cabinets.length ≤ 4 ∧ (∀ b ∈ f.cabinets, b.toNat < 8) ∧ f.cabinets.Nodup ∧
    f.ovens.length ≤ 6 ∧ (∀ b ∈ f.ovens, b.toNat < 6) ∧ f.ovens.Nodup ∧ f.due.toNat ≤ 86400 ∧ f.lead.toNat ≤ 7200

/-- The fields of a CREATE for a wave (R192, R194). -/
def Sys2Proof.Machine.createFields (v : Wave) : CreateFields :=
  { number := v.number, ballroom := BitVec.ofNat 8 v.ballroom, covers := BitVec.ofNat 16 v.covers,
    kind := BitVec.ofNat 8 v.kind.val, cabinets := v.cabinets.map fun n => BitVec.ofNat 8 n.val,
    ovens := v.ovens.map fun n => BitVec.ofNat 8 n.val, due := BitVec.ofNat 32 v.due, lead := BitVec.ofNat 16 v.lead }

/-- A wave as its record stands before anything is judged: in PLANNED, nothing issued, no flag set. -/
def Sys2Proof.Machine.freshWave (v : Wave) : Prop :=
  v.state = .planned ∧ v.issued = 0 ∧ v.readyLate = false ∧ v.short = false ∧ v.late = false ∧ v.ballroom ≤ 15 ∧
    v.covers ≤ 3000 ∧ v.due ≤ 86400 ∧ v.lead ≤ 7200

/-- R128, R129: a CREATE that passes every check takes the EMPTY slot with the lowest number, holds its cabinets, and
is judged at once, with its flags and its two slots; each refusal is the first check that fails. -/
def Obligations.CreateTakesTheLowestEmptySlot : Prop :=
  (∀ (s : State) (tag : Byte) (f : CreateFields), ¬ createInRange f →
    exec (.create tag f) s = .next (s.answer 0x70 tag (s.part, { status := .range }))) ∧
  (∀ f : CreateFields, createInRange f → ∃ v, freshWave v ∧ f = createFields v) ∧
  ∀ (s : State) (tag : Byte) (v : Wave), freshWave v → createInRange (createFields v) →
    let f := createFields v
    let refused (status : Status) : Prop := exec (.create tag f) s = .next (s.answer 0x70 tag (s.part, { status }))
    let kinds := ∀ n ∈ v.cabinets, (s.cabinet n).kind = v.kind
    let numbered := ∃ x u, s.wave x = some u ∧ u.number = v.number
    let listed := (∃ x, ∃ n ∈ v.cabinets, s.part.holdsCabinet x n) ∨ ∃ x, ∃ n ∈ v.ovens, s.part.holdsOven x n
    (¬ kinds → refused .range) ∧ (kinds → numbered ∨ listed → refused .conflict) ∧
    (kinds → ¬ numbered → ¬ listed → (∀ x, s.wave x ≠ none) → refused .full) ∧
    (kinds → ¬ numbered → ¬ listed → ∀ w, s.wave w = none → (∀ x, x < w → s.wave x ≠ none) →
      let state := judgedState s v.covers v.due v.lead v
      let potential := (v.cabinets.map fun n => (s.cabinet n).held).sum + (s.stockOf v.kind).clean
      let short := if state = .planned then false else decide (potential < v.covers)
      let param : Half := BitVec.ofNat 16 (v.ballroom * 256 + v.number.toNat)
      ∃ t, exec (.create tag f) s = .next t ∧
        Answered waveFoot 0x70 tag .ok [u8 w.val ++ u8 state.code] s t ∧ (∀ x, x ≠ w → t.wave x = s.wave x) ∧
        DeskKept (slotsOfWave w v) s t ∧
        t.wave w = some { v with state, short, late := decide (state = .late) } ∧
        t.slot (platesShortSlot w) = shortSlotAfter s w false short (v.covers - potential) ∧
        t.slot (waveLateSlot w) = (if state = .late then (s.slot (waveLateSlot w)).raise s.part.uptime param
          else s.slot (waveLateSlot w)) ∧
        (∀ n, n ∉ v.cabinets → t.cabinet n = s.cabinet n) ∧
        (∀ n ∈ v.cabinets, t.cabinet n =
          if state = .planned then { s.cabinet n with waveSlot := some w }
          else servingCabinet { s.cabinet n with waveSlot := some w }) ∧
        (state ≠ .planned → ∀ n ∈ v.ovens, (t.heater (ovenLoop n)).cls = .service) ∧
        (state = .planned → t.part.loops = s.part.loops ∧ t.part.feeder = s.part.feeder))

/-- R136, R130: AMEND in PLANNED, PREPARING or LATE replaces covers, countdown and lead time, puts a LATE wave with a
new countdown back to PREPARING, and judges the wave, its flags and its two slots with it; out of range it is refused
with RANGE, in another state with STATE. R127: a request to a wave that names no slot or no wave of that number is
refused before anything else. -/
def Obligations.AmendReplacesAndJudges : Prop :=
  (∀ (s : State) (tag slot number : Byte) (covers lead : Half) (due : Word) (w : Fin 12),
    w.val = slot.toNat → number.toNat ≠ 0 → ∀ v, s.wave w = some v → v.number = number →
    let c : Instr := .amend tag slot number covers due lead
    let inRange := 1 ≤ covers.toNat ∧ covers.toNat ≤ 3000 ∧ due.toNat ≤ 86400 ∧ lead.toNat ≤ 7200
    let amendable := v.state = .planned ∨ v.state = .preparing ∨ v.state = .late
    (¬ inRange → exec c s = .next (s.answer 0x71 tag (s.part, { status := .range }))) ∧
    (inRange → ¬ amendable → exec c s = .next (s.answer 0x71 tag (s.part, { status := .state }))) ∧
    (inRange → amendable →
      let back : Wave := if v.state = .late ∧ 0 < due.toNat then { v with state := .preparing, late := false } else v
      let state := judgedState s covers.toNat due.toNat lead.toNat back
      let potential := (v.cabinets.map fun n => (s.cabinet n).held).sum + (s.stockOf v.kind).clean
      let need := covers.toNat - v.issued
      let short := if state = .planned then v.short else decide (potential < need)
      let becameLate := state = .late ∧ back.state ≠ .late
      let param : Half := BitVec.ofNat 16 (v.ballroom * 256 + v.number.toNat)
      let lateSlot := s.slot (waveLateSlot w)
      let returned := if v.late = true ∧ back.late = false then lateSlot.ret else lateSlot
      ∃ t, exec c s = .next t ∧ Answered waveFoot 0x71 tag .ok [u8 state.code] s t ∧
        (∀ x, x ≠ w → t.wave x = s.wave x) ∧ ⟨.wave, w.val⟩ ∈ t.link.changeSet ∧ DeskKept (slotsOfWave w v) s t ∧
        t.wave w = some { v with
          covers := covers.toNat, due := due.toNat, lead := lead.toNat, state, short
          late := if state = .ready then false else if becameLate then true else back.late
          readyLate := v.readyLate || (decide (state = .ready) && decide (back.state = .late)) } ∧
        t.slot (platesShortSlot w) = shortSlotAfter s w v.short short (need - potential) ∧
        t.slot (waveLateSlot w) =
          (if becameLate then returned.raise s.part.uptime param
          else if state = .ready ∧ back.late = true then returned.ret else returned) ∧
        (∀ n, n ∉ v.cabinets ∨ v.state ≠ .planned ∨ state = .planned → t.cabinet n = s.cabinet n) ∧
        (v.state ≠ .planned ∨ state = .planned → t.part.loops = s.part.loops ∧ t.part.feeder = s.part.feeder) ∧
        (v.state = .planned → state ≠ .planned → ∀ n ∈ v.cabinets, t.cabinet n = servingCabinet (s.cabinet n)) ∧
        (v.state = .late → v.late = true → 0 < due.toNat →
          t.slot (waveLateSlot w) = (s.slot (waveLateSlot w)).ret))) ∧
  ∀ (s : State) (tag slot number : Byte) (covers lead : Half) (due : Word),
    let refused (status : Status) : Prop :=
      exec (.amend tag slot number covers due lead) s = .next (s.answer 0x71 tag (s.part, { status })) ∧
      exec (.release tag slot number) s = .next (s.answer 0x72 tag (s.part, { status })) ∧
      exec (.close tag slot number) s = .next (s.answer 0x73 tag (s.part, { status })) ∧
      exec (.delete tag slot number) s = .next (s.answer 0x74 tag (s.part, { status })) ∧
      exec (.readWave tag slot number) s = .next (s.answer 0x75 tag (s.part, { status }))
    (12 ≤ slot.toNat ∨ number.toNat = 0 → refused .range) ∧
    ∀ h : slot.toNat < 12, number.toNat ≠ 0 →
      (s.wave ⟨slot.toNat, h⟩ = none → refused .state) ∧
      ∀ v, s.wave ⟨slot.toNat, h⟩ = some v → v.number ≠ number → refused .conflict

/-- R137, R139, R140: RELEASE takes a READY or LATE wave to SERVING with a serving notice to each cabinet, in list
order, and judges its plates; CLOSE closes any wave that is not CLOSED, releasing its cabinets and ovens, returning
its conditions and cancelling its WAVE_READY page (R172); DELETE empties the slot of a PLANNED or CLOSED wave. In
every other state they are refused with STATE, but for a CLOSE that arrives together with the issue notice that closed
the wave: taken next after the ISSUE it changes nothing and its reply is OK (R139; which wave the command before has
closed so, the part holds for the next one: log entry 41). (The PLATES_LOW triggers of the serving notices are stated
while the port is busy and no PLATES_SHORT page can come of the same step, the whole of the pager after a CLOSE while
it is busy and no OVERTEMP page can come of a released cabinet's loop.) -/
def Obligations.ReleaseCloseAndDeleteEndAWave : Prop :=
  (∀ (s : State) (tag slot number : Byte) (w : Fin 12), w.val = slot.toNat →
      number.toNat ≠ 0 → ∀ v, s.wave w = some v → v.number = number →
      let others (t : State) : Prop := (∀ x, x ≠ w → t.wave x = s.wave x) ∧ DeskKept (slotsOfWave w v) s t
      let released (t : State) : Prop := (∀ n ∈ v.cabinets, t.cabinet n = releasedCabinet (s.cabinet n)) ∧
        ∀ n, n ∉ v.cabinets → t.cabinet n = s.cabinet n
      (v.state = .ready ∨ v.state = .late →
        let potential := (v.cabinets.map fun n => (s.cabinet n).held).sum + (s.stockOf v.kind).clean
        let need := v.covers - v.issued
        let short := decide (potential < need)
        ∃ t, exec (.release tag slot number) s = .next t ∧ Answered noticeFoot 0x72 tag .ok [] s t ∧ others t ∧
          t.wave w = some { v with state := .serving, short } ∧
          t.slot (platesShortSlot w) = shortSlotAfter s w v.short short (need - potential) ∧
          t.slot (waveLateSlot w) = s.slot (waveLateSlot w) ∧
          (s.pager.port ≠ .idle → (∀ n ∈ v.cabinets, (s.cabinet n).waveSlot = some w) →
            (short = true → v.short = true ∨ (s.pager.routes.get 7).enabled = false) →
            lowTriggers s v.cabinets s.pager t.pager)) ∧
      (v.state ≠ .ready → v.state ≠ .late →
        exec (.release tag slot number) s = .next (s.answer 0x72 tag (s.part, { status := .state }))) ∧
      (v.state ≠ .closed →
        ∃ t, exec (.close tag slot number) s = .next t ∧ Answered waveFoot 0x73 tag .ok [] s t ∧ others t ∧
          t.wave w = some { v with state := .closed, short := false, late := false } ∧ released t ∧
          (v.state ≠ .planned → ∀ n ∈ v.ovens, (t.heater (ovenLoop n)).cls = .standby) ∧
          (∀ n, n ∉ v.ovens → t.heater (ovenLoop n) = s.heater (ovenLoop n)) ∧
          t.slot (platesShortSlot w) =
            (if v.short then (s.slot (platesShortSlot w)).ret else s.slot (platesShortSlot w)) ∧
          t.slot (waveLateSlot w) = (if v.late then (s.slot (waveLateSlot w)).ret else s.slot (waveLateSlot w)) ∧
          (PagesKept s.pager → noPageBut (.wave w) t.pager) ∧
          (s.pager.port ≠ .idle →
            (s.pager.routes.get 1).enabled = false ∨ (∀ n ∈ v.cabinets, (s.loop (cabinetLoop n)).base ≠ .off) →
            noticeCancels s.part.uptime (.wave w) s.pager t.pager)) ∧
      (v.state = .closed → s.part.justClosed ≠ some w →
        exec (.close tag slot number) s = .next (s.answer 0x73 tag (s.part, { status := .state }))) ∧
      (v.state = .closed → s.part.justClosed = some w →
        exec (.close tag slot number) s = .next (s.answer 0x73 tag (s.part, { status := .ok }))) ∧
      (v.state = .planned ∨ v.state = .closed →
        ∃ t, exec (.delete tag slot number) s = .next t ∧
          Answered waveFoot 0x74 tag .ok [] s t ∧ others t ∧ t.wave w = none ∧
          (v.state = .planned → released t) ∧ (v.state = .closed → t.part.cabinets = s.part.cabinets)) ∧
      (v.state ≠ .planned → v.state ≠ .closed →
        exec (.delete tag slot number) s = .next (s.answer 0x74 tag (s.part, { status := .state })))) ∧
  (∀ (c : Instr) (s t : State), exec c s = .next t →
    t.part.justClosed = closedByIssue s.part.waves t.part.waves) ∧
  ∀ (before after : Table (Option Wave) 12) (w : Fin 12),
    let closes := ∃ v u, before.get w = some v ∧ after.get w = some u ∧ v.state = .serving ∧ u.state = .closed ∧
      v.issued < u.issued
    (closedByIssue before after = some w → closes) ∧ (closes → closedByIssue before after ≠ none)

/-- R131 to R135: a countdown tick of a wave in PLANNED, PREPARING, READY or LATE takes a second from its countdown
and judges it: its state, its flags, and the raises and returns of its PLATES_SHORT and WAVE_LATE. A wave that becomes
READY sends WAVE_READY with ballroom code times 256 plus wave number (R134, R160; stated while the port is busy and no
other page can come of the same step). A slot in another state or EMPTY takes no tick. -/
def Obligations.CountdownTickJudgesTheWave : Prop :=
  ∀ (s : State) (w : Fin 12),
    ((∀ v, s.wave w = some v → v.state = .serving ∨ v.state = .closed) →
      exec (.countdownTick w) s = .next (s.event s.part)) ∧
    ∀ v, s.wave w = some v → v.state ≠ .serving → v.state ≠ .closed →
      let due := v.due - 1
      let state := judgedState s v.covers due v.lead v
      let potential := (v.cabinets.map fun n => (s.cabinet n).held).sum + (s.stockOf v.kind).clean
      let need := v.covers - v.issued
      let short := if state = .planned then v.short else decide (potential < need)
      let becameReady := state = .ready ∧ v.state ≠ .ready
      let becameLate := state = .late ∧ v.state ≠ .late
      let param : Half := BitVec.ofNat 16 (v.ballroom * 256 + v.number.toNat)
      ∃ t, exec (.countdownTick w) s = .next t ∧ Happened waveFoot s t ∧ (∀ x, x ≠ w → t.wave x = s.wave x) ∧
        DeskKept (slotsOfWave w v) s t ∧
        t.wave w = some { v with
          due, state, short
          readyLate := v.readyLate || decide (becameReady ∧ v.state = .late)
          late := if becameReady then false else if becameLate then true else v.late } ∧
        (v.state ≠ .planned ∨ state = .planned →
          t.part.cabinets = s.part.cabinets ∧ t.part.loops = s.part.loops ∧ t.part.feeder = s.part.feeder) ∧
        (v.state = .planned → state ≠ .planned →
          (∀ n ∈ v.cabinets, t.cabinet n = servingCabinet (s.cabinet n)) ∧
          (∀ n, n ∉ v.cabinets → t.cabinet n = s.cabinet n) ∧
          ∀ n ∈ v.ovens, (t.heater (ovenLoop n)).cls = .service) ∧
        t.slot (platesShortSlot w) = shortSlotAfter s w v.short short (need - potential) ∧
        (becameReady → s.pager.port ≠ .idle →
          v.state ≠ .planned ∧ short = v.short ∨ (∀ k, k ≠ 14 → (s.pager.routes.get k).enabled = false) →
          triggered s.part.uptime (.wave w) 14 param s.pager t.pager) ∧
        t.slot (waveLateSlot w) =
          if becameLate then (s.slot (waveLateSlot w)).raise s.part.uptime param
          else if becameReady ∧ v.late = true then (s.slot (waveLateSlot w)).ret
          else s.slot (waveLateSlot w)

/-! ## Chapter 8: conditions -/

/-- R145, R147: what a raise makes of a slot by its state; an event kind also takes the return, as one whole update.
No other slot changes but PAGE_UNANSWERED, which the radio arbiter may raise. R146: a return takes ACTIVE to RETURNED
and ACKED to NORMAL and leaves NORMAL and RETURNED; "A return changes no other field", it sends no trigger and no
cancel notice, and one that finds the slot NORMAL or RETURNED changes nothing. (The mark of a changed slot is R154's.)
-/
def Obligations.RaisesAndReturnsActByState : Prop :=
  (∀ (d : Desk) (now : Word) (i : Fin 87) (param : Half), i ≠ unansweredSlot →
    let c := d.conds.get i
    let after := (d.raise now i param).conds
    let settled : CondState := if isEventKind i then .returned else .active
    (c.state = .normal → after.get i = { state := settled, count := c.count + 1, first := now, last := now, param }) ∧
    (c.state = .returned →
      after.get i = { state := settled, count := c.count + 1, first := c.first, last := now, param }) ∧
    (c.state = .active → isEventKind i = false → after.get i = { c with last := now, param }) ∧
    (c.state = .acked → isEventKind i = false → after.get i = { c with last := now, param }) ∧
    ∀ j, j ≠ i → j ≠ unansweredSlot → after.get j = d.conds.get j) ∧
  ∀ (d : Desk) (i : Fin 87),
    let c := d.conds.get i
    let moved (state : CondState) : Desk :=
      { d with conds := d.conds.set i { c with state }, link := d.link.mark .condition i.val }
    (c.state = .active → d.ret i = moved .returned) ∧ (c.state = .acked → d.ret i = moved .normal) ∧
    (c.state = .normal ∨ c.state = .returned → d.ret i = d)

/-- R149, R150, R120: an ACKNOWLEDGE of a pending slot under its present count takes ACTIVE to ACKED and RETURNED to
NORMAL, cancels the slot's page (R172; the whole of the pager is stated while the port is busy), and reports
RINSE_FAIL and RACK_LOST to the tunnel; it is refused with RANGE, STATE and STALE in that order. -/
def Obligations.AcknowledgeNeedsThePresentCount : Prop :=
  (∀ (s : State) (tag slot count : Byte), 87 ≤ slot.toNat →
    exec (.acknowledge tag slot count) s = .next (s.answer 0x80 tag (s.part, { status := .range }))) ∧
  ∀ (s : State) (tag slot count : Byte) (i : Fin 87), i.val = slot.toNat →
    let c := s.slot i
    let pending := c.state = .active ∨ c.state = .returned
    (¬ pending → exec (.acknowledge tag slot count) s = .next (s.answer 0x80 tag (s.part, { status := .state }))) ∧
    (pending → c.count ≠ count → exec (.acknowledge tag slot count) s =
      .next (s.answer 0x80 tag (s.part, { status := .stale, pieces := [[c.count]] }))) ∧
    (pending → c.count = count →
      let after : CondState := if c.state = .active then .acked else .normal
      ∃ t, exec (.acknowledge tag slot count) s = .next t ∧
        Answered { conds := true, pager := true, dish := true, feeder := true } 0x80 tag .ok [u8 after.code] s t ∧
        (i ≠ unansweredSlot ∨ s.pager.port ≠ .idle ∨ (∀ page ∈ s.pager.queue, page.state ≠ .queued) →
          t.slot i = { c with state := after }) ∧
        (∀ j, j ≠ i → j ≠ unansweredSlot → t.slot j = s.slot j) ∧
        (PagesKept s.pager → i ≠ unansweredSlot → ∀ page ∈ t.pager.queue, page.source = .slot i →
          page.state = .onAir ∧ page.cancelMark = true ∧ page.latch = none) ∧
        (s.pager.port ≠ .idle → noticeCancels s.part.uptime (.slot i) s.pager t.pager) ∧
        (i ≠ rinseFailSlot → i ≠ rackLostSlot → t.dish = s.dish ∧ t.part.feeder = s.part.feeder) ∧
        (i = rinseFailSlot → t.part.feeder = s.part.feeder ∧ t.dish = { s.dish with
          rinseFail := false
          gateOpen := decide (s.dish.state = .running) && decide (s.dish.queue.length < 12) && s.dish.tankWarm &&
            s.dish.boosterHot && !s.part.interlock.trip }) ∧
        (i = rackLostSlot → s.dish.state = .held → s.dish.reasons.lost = true →
          t.dish.reasons = { s.dish.reasons with lost := false } ∧
          t.dish.state = if s.dish.reasons.door || s.dish.reasons.overload || s.dish.reasons.trip then .held
            else .ready) ∧
        (i = rackLostSlot → s.dish.state ≠ .held ∨ s.dish.reasons.lost = false → t.dish = s.dish))

/-! ## Chapter 9: paging -/

/-- The part with its pager controller replaced. -/
def Sys2Proof.Machine.withPager (s : State) (g : Pager) : Part := { s.part with desk := { s.part.desk with pager := g } }

/-- The state with its pager controller replaced by an event, an idle transmitter taking up what waits. -/
def Sys2Proof.Machine.pagerEvent (s : State) (g : Pager) : State := s.event (withPager s g)

/-- R156: SET PAGER and CLEAR PAGER store and clear an entry; in use, it is BUSY; out of range or with an address that
another entry holds, RANGE. R157, R158, R164: SET GROUP, SET ROUTE and CONFIGURE RADIO in range store their fields and
nothing else. -/
def Obligations.PagerTablesAreStored : Prop :=
  ((∀ (s : State) (tag entry groups duty : Byte) (address : Half) (e : Fin 64), e.val = entry.toNat →
    let g := s.pager
    let held := g.directory.get e
    let c : Instr := .setPager tag entry address groups duty
    let inRange := 1 ≤ address.toNat ∧ address.toNat ≤ 4095 ∧ duty.toNat ≤ 1 ∧
      ∀ x, x ≠ e → (g.directory.get x).address ≠ address.toNat
    let inUse := 0 < held.outstanding ∨ ∃ page ∈ g.queue, e ∈ page.tried
    let busy := held.address ≠ 0 ∧ held.address ≠ address.toNat ∧ inUse
    let stored : PagerEntry := { held with address := address.toNat, groups, duty := decide (duty.toNat = 1) }
    let cleared : PagerEntry := { held with address := 0, groups := 0, duty := false }
    (¬ inRange → exec c s = .next (s.answer 0x90 tag (s.part, { status := .range }))) ∧
    (inRange → busy → exec c s = .next (s.answer 0x90 tag (s.part, { status := .busy }))) ∧
    (inRange → ¬ busy → exec c s = .next (s.answer 0x90 tag
      (withPager s { g with directory := g.directory.set e stored }, { status := .ok }))) ∧
    (inUse → exec (.clearPager tag entry) s = .next (s.answer 0x91 tag (s.part, { status := .busy }))) ∧
    (¬ inUse → exec (.clearPager tag entry) s = .next (s.answer 0x91 tag
      (withPager s { g with directory := g.directory.set e cleared }, { status := .ok })))) ∧
  ∀ (s : State) (tag entry groups duty : Byte) (address : Half), 64 ≤ entry.toNat →
    exec (.setPager tag entry address groups duty) s = .next (s.answer 0x90 tag (s.part, { status := .range })) ∧
    exec (.clearPager tag entry) s = .next (s.answer 0x91 tag (s.part, { status := .range }))) ∧
  (∀ (s : State) (tag group escalation limit : Byte) (timeout : Half),
    let c : Instr := .setGroup tag group escalation limit timeout
    let inRange := group.toNat < 8 ∧ (escalation.toNat < 8 ∧ escalation ≠ group ∨ escalation.toNat = 255) ∧
      1 ≤ limit.toNat ∧ limit.toNat ≤ 8 ∧ 10 ≤ timeout.toNat ∧ timeout.toNat ≤ 600
    (¬ inRange → exec c s = .next (s.answer 0x92 tag (s.part, { status := .range }))) ∧
    (inRange → ∀ (n : Fin 8) (next : Option (Fin 8)), n.val = group.toNat →
      (next = none ↔ escalation.toNat = 255) → (∀ e ∈ next, e.val = escalation.toNat) →
      let stored : Group := { s.pager.groups.get n with
        escalation := next, limit := limit.toNat, timeout := timeout.toNat }
      exec c s = .next (s.answer 0x92 tag
        (withPager s { s.pager with groups := s.pager.groups.set n stored }, { status := .ok })))) ∧
  (∀ (s : State) (tag route enabled group priority code : Byte),
    let c : Instr := .setRoute tag route enabled group priority code
    let inRange := route.toNat < 16 ∧ enabled.toNat ≤ 1 ∧ group.toNat < 8 ∧ priority.toNat < 4
    (¬ inRange → exec c s = .next (s.answer 0x93 tag (s.part, { status := .range }))) ∧
    (inRange → ∀ (n : Fin 16) (g : Fin 8) (u : Fin 4), n.val = route.toNat → g.val = group.toNat →
      u.val = priority.toNat →
      let stored : Route := { enabled := decide (enabled.toNat = 1), group := g, priority := u, code }
      exec c s = .next (s.answer 0x93 tag
        (withPager s { s.pager with routes := s.pager.routes.set n stored }, { status := .ok })))) ∧
  ∀ (s : State) (tag : Byte) (backoff : Half),
    (200 ≤ backoff.toNat → backoff.toNat ≤ 5000 →
      exec (.configureRadio tag backoff) s = .next (s.answer 0x96 tag
        (withPager s { s.pager with backoff := backoff.toNat }, { status := .ok }))) ∧
    (backoff.toNat < 200 ∨ 5000 < backoff.toNat →
      exec (.configureRadio tag backoff) s = .next (s.answer 0x96 tag (s.part, { status := .range })))

/-- R159, R163: PAGE with room in the queue takes the next page id that no page of the queue holds, answers with it,
and puts the page behind every page of its priority or a more urgent one; while the port is busy that is all it does.
CANCEL PAGE by the page's state, likewise, a set latch then making a page of its source (R162). FULL, RANGE and STATE
as the rule says. R160, R161: a trigger by its route and its source's page, while the port is busy (a new page's id is
chosen while the worst page of a full queue still holds its own: log entry 35); with the port idle the arbiter is
judged on what it left. R148: an occurrence sends a trigger under its slot, the slot's kind and the raise's parameter,
and another raise sends none. -/
def Obligations.PageAndCancelPageWorkTheQueue : Prop :=
  (∀ (s : State) (tag hostTag group priority code : Byte) (param : Half),
    let c : Instr := .page tag hostTag group priority code param
    let inRange := group.toNat < 8 ∧ priority.toNat < 4
    (¬ inRange → exec c s = .next (s.answer 0x94 tag (s.part, { status := .range }))) ∧
    (inRange → 32 ≤ s.pager.queue.length → exec c s = .next (s.answer 0x94 tag (s.part, { status := .full }))) ∧
    (inRange → s.pager.queue.length < 32 → ∀ (g : Fin 8) (u : Fin 4), g.val = group.toNat → u.val = priority.toNat →
      ∃ (id : Half) (t : State), exec c s = .next t ∧ Answered deskFoot 0x94 tag .ok [bytes16 id] s t ∧ DeskKept [] s t ∧
        nextFree (s.pager.queue.map Page.id) s.pager.pageCounter id ∧
        (s.pager.port ≠ .idle → t.part.desk.conds = s.part.desk.conds ∧
          joins (newPage id (.host hostTag) g u code param) s.pager.queue t.pager.queue ∧
          t.pager = { s.pager with pageCounter := id, queue := t.pager.queue }))) ∧
  (∀ (s : State) (tag : Byte) (id : Half),
    ((∀ page ∈ s.pager.queue, page.id ≠ id) →
      exec (.cancelPage tag id) s = .next (s.answer 0x95 tag (s.part, { status := .state }))) ∧
    ∀ page, findPage id s.pager.queue = some page →
      ∃ t, exec (.cancelPage tag id) s = .next t ∧ Answered deskFoot 0x95 tag .ok [] s t ∧ DeskKept [] s t ∧
        (s.pager.port ≠ .idle → page.state = .onAir → t.pager = { s.pager with
          queue := updatePage id (fun q => { q with cancelMark := true }) s.pager.queue }) ∧
        (s.pager.port ≠ .idle → page.state ≠ .onAir → t.part.desk.conds = s.part.desk.conds ∧
          ends s.part.uptime page .cancelled none { s.pager with directory := t.pager.directory } t.pager) ∧
        (∀ e, (t.pager.directory.get e).outstanding =
          if page.state = .awaiting ∧ page.broadcast = false ∧ page.target = some e then
            (s.pager.directory.get e).outstanding - 1 else (s.pager.directory.get e).outstanding)) ∧
  (∀ (d : Desk) (now : Word) (source : Source) (param : Half),
    (∀ kind, routeOf source = some kind → d.pager.port ≠ .idle →
      (d.trigger now source param).conds = d.conds ∧
      triggered now source kind param d.pager (d.trigger now source param).pager) ∧
    (d.pager.port = .idle → d.trigger now source param =
      (({ d with pager := { d.pager with port := .waiting } }.trigger now source param).setPort .idle).arbiter now)) ∧
  (∀ (d : Desk) (now : Word) (i : Fin 87) (param : Half), d.pager.port ≠ .idle →
    let c := d.conds.get i
    let after := (d.raise now i param).pager
    (c.state = .normal ∨ c.state = .returned → triggered now (.slot i) (slotKind i) param d.pager after) ∧
    (c.state = .active ∨ c.state = .acked → after = d.pager)) ∧
  (∀ n, routeOf (.oven n) = some 13) ∧ (∀ w, routeOf (.wave w) = some 14) ∧ (∀ n, routeOf (.cabinet n) = some 15) ∧
  (∀ i, routeOf (.slot i) = some (slotKind i)) ∧ ∀ tag, routeOf (.host tag) = none

/-- A used entry of the group, ON duty (R165). -/
def Sys2Proof.Machine.onDuty (g : Pager) (group : Fin 8) (x : Fin 64) : Bool :=
  decide ((g.directory.get x).address ≠ 0) && (g.directory.get x).duty && (g.directory.get x).groups.getLsbD group.val

/-- An entry that a page of priority 1 to 3 may be sent to: untried and below 3 outstanding as well (R165). -/
def Sys2Proof.Machine.qualifies (g : Pager) (page : Page) (x : Fin 64) : Prop :=
  onDuty g page.current x = true ∧ x ∉ page.tried ∧ (g.directory.get x).outstanding < 3

/-- No entry qualifies for a page, or its broadcast finds no member ON duty (R165). -/
def Sys2Proof.Machine.stuck (g : Pager) (page : Page) : Prop :=
  (page.priority = 0 → ∀ x, onDuty g page.current x = false) ∧ (page.priority ≠ 0 → ∀ x, ¬ qualifies g page x)

/-- The transmission of a page worked out: to the first entry that qualifies after the group's pointer, or to every
member ON duty at once, under the next tag (R164, R165; log entries 17 and 18). The group byte of a frame to one pager
is a free value (log entry 2). -/
def Sys2Proof.Machine.sends (page : Page) (g h : Pager) : Prop :=
  let group := g.groups.get page.current
  let distance (x : Fin 64) : Nat := (x.val + 63 - group.pointer.val) % 64
  let on (g : Pager) (sent : Page) (address : Nat) (byte : Byte) : Pager := { g with
    queue := updatePage page.id (fun _ => sent) g.queue
    port := .sending page.id (g.tagCounter + 1) false
    tagCounter := g.tagCounter + 1
    lastSent := some (transmitFrame (g.tagCounter + 1) page address byte) }
  (page.priority ≠ 0 ∧ ∃ e, qualifies g page e ∧ (∀ x, qualifies g page x → distance e ≤ distance x) ∧
    h = on { g with groups := g.groups.set page.current { group with pointer := e } }
      { page with state := .onAir, tried := page.tried ++ [e], target := some e, broadcast := false }
      (g.directory.get e).address (Config.singleTransmitGroup page.id)) ∨
  (page.priority = 0 ∧ ∃ members, members = (List.finRange 64).filter (onDuty g page.current) ∧ members ≠ [] ∧
    h = on g { page with state := .onAir, tried := joinTried members page.tried, target := none, broadcast := true }
      0 (BitVec.ofNat 8 page.current.val))

/-- R165: with the port IDLE, the first QUEUED page of priority 1 to 3 goes to the first entry after the group's
pointer that is used, in the group, ON duty, untried and below 3 outstanding: the pointer moves, the entry becomes
tried and target, and the port is SENDING under the next tag. A page of priority 0 goes to every used ON-duty member
of its group at once, as a broadcast. A page that nobody can get escalates at once, with no attempt counted, and the
arbiter is judged again; where it cannot, or nobody can get it there either, it ends as EXPIRED with PAGE_UNANSWERED
raised, and the arbiter goes on to the next QUEUED page (the order is log entry 10). A BACKOFF_END in WAITING is such a
judgement; the group byte of a frame to one pager is a free value (log entry 2); the frame last sent and the first tag
are log entries 17 and 18. -/
def Obligations.TheArbiterSendsToTheNextPagerOnDuty : Prop :=
  ∀ (s : State) (page : Page), firstQueued s.pager.queue = some page → s.pager.port = .waiting →
    let g := s.pager
    let group := g.groups.get page.current
    let moved (next : Fin 8) : Page := { page with
      current := next, attempts := 0, tried := [], target := none, escalated := true }
    let slot := s.slot unansweredSlot
    (stuck g page ∨ ∃ h, sends page g h) ∧
    (∀ h, sends page g h → exec .backoffEnd s = .next (pagerEvent s h)) ∧
    (stuck g page → page.escalated = false → ∀ next, group.escalation = some next → ∀ h,
      sends (moved next) { g with queue := updatePage page.id (fun _ => moved next) g.queue } h →
      exec .backoffEnd s = .next (pagerEvent s h)) ∧
    (stuck g page → page.escalated = true ∨ (∀ next, group.escalation = some next → stuck g (moved next)) →
      ∃ (t : State) (left : Pager), exec .backoffEnd s = .next t ∧ Happened deskFoot s t ∧ DeskKept [] s t ∧
        (slot.state = .normal ∨ slot.state = .returned →
          endsUnanswered s.part.uptime page .expired { g with port := .idle } left) ∧
        ((∀ other, firstQueued left.queue = some other → ¬ stuck left other) →
          t.slot unansweredSlot = (if page.source = .slot unansweredSlot then slot
            else (slot.raise s.part.uptime page.id).ret) ∧
          (firstQueued left.queue = none → t.pager = left) ∧
          ∀ other, firstQueued left.queue = some other → sends other left t.pager))

/-- The state with its radio port in another state. -/
def Sys2Proof.Machine.withPort (port : Port) (s : State) : State := { s with part := withPager s { s.pager with port } }

/-- A command ends the attempt of a page, with the pager controller otherwise as in `g`: with attempts left the page
goes back to QUEUED; at the limit it escalates where it may; else it ends, with PAGE_UNANSWERED raised but for a page
of that slot itself (R171). -/
def Sys2Proof.Machine.attemptEnds (c : Instr) (s : State) (page : Page) (how : PageOutcome) (g : Pager) : Prop :=
  let group := g.groups.get page.current
  let attempts := page.attempts + 1
  let slot := s.slot unansweredSlot
  let settled (next : Page) : Pager := { g with queue := updatePage page.id (fun _ => next) g.queue }
  let ended : Page := { page with deadline := none, declineMark := false, attempts }
  (attempts < group.limit → exec c s = .next (pagerEvent s (settled { ended with state := .queued }))) ∧
  (group.limit ≤ attempts → page.escalated = false → ∀ next, group.escalation = some next →
    exec c s = .next (pagerEvent s (settled { ended with
      current := next, attempts := 0, tried := [], target := none, escalated := true, state := .queued }))) ∧
  (group.limit ≤ attempts → page.escalated = true ∨ group.escalation = none →
    ∃ t, exec c s = .next t ∧ Happened deskFoot s t ∧ DeskKept [] s t ∧ t.pager.directory = g.directory ∧
      (∃ r ∈ t.pager.outcomes,
        r = { id := page.id, source := page.source, outcome := how, pager := none, uptime := s.part.uptime }) ∧
      t.slot unansweredSlot = (if page.source = .slot unansweredSlot then slot
        else (slot.raise s.part.uptime page.id).ret) ∧
      (∀ i, i ≠ unansweredSlot → t.slot i = s.slot i) ∧
      (slot.state = .normal ∨ slot.state = .returned → endsUnanswered s.part.uptime page how g t.pager))

/-- R166, R167: an ACCEPTED reply that matches the transmission makes its page AWAITING with a deadline (in 32 bits:
log entry 19) and raises the target's outstanding count, and the arbiter is judged (whose PAGE_UNANSWERED can set the
latch of a page of that slot); a BACKOFF that matches puts the port in WAITING and the page back in QUEUED. A page
with its cancel mark becomes CANCELLED at either, one with its decline mark alone ends its attempt, and one that has
left the queue or the air is let be; at ACCEPTED the arbiter is judged then, after what ends the page (log entry 10).
A reply that does not match changes nothing; the end of the back-off time returns the port to IDLE. -/
def Obligations.BaseStationRepliesSettleThePage : Prop :=
  (∀ (s : State) (id : Half) (tag : Byte) (repeated : Bool), s.pager.port = .sending id tag repeated →
    ∀ page, findPage id s.pager.queue = some page → page.state = .onAir → page.cancelMark = false →
    page.declineMark = false → PagesKept s.pager →
    let single (e : Fin 64) : Bool := decide (page.broadcast = false) && decide (page.target = some e)
    let back : Page := match page.broadcast, page.target with
      | false, some e =>
        { page with state := .queued, tried := page.tried.filter fun x => decide (x ≠ e), target := none }
      | _, _ => { page with state := .queued }
    let awaiting : Page := { page with
      state := .awaiting
      deadline := some (s.part.uptime + BitVec.ofNat 32 (s.pager.groups.get page.current).timeout) }
    let raised : Table PagerEntry 64 := match page.broadcast, page.target with
      | false, some e => s.pager.directory.set e
        { s.pager.directory.get e with outstanding := (s.pager.directory.get e).outstanding + 1 }
      | _, _ => s.pager.directory
    (∃ t, exec (.accepted tag id) s = .next t ∧ Happened deskFoot s t ∧ DeskKept [] s t ∧
      (∃ found, findPage id t.pager.queue = some found ∧ found = { awaiting with latch := found.latch } ∧
        (page.source ≠ .slot unansweredSlot → found.latch = page.latch)) ∧
      (∀ e, (t.pager.directory.get e).outstanding =
        if single e then (s.pager.directory.get e).outstanding + 1 else (s.pager.directory.get e).outstanding) ∧
      ((∀ other ∈ s.pager.queue, other.state ≠ .queued) → t.pager.port = .idle ∧
        t.part.desk.conds = s.part.desk.conds)) ∧
    exec (.accepted tag id) s = exec .backoffEnd { s with part := withPager s { s.pager with
      port := .waiting, directory := raised, queue := updatePage id (fun _ => awaiting) s.pager.queue } } ∧
    exec (.backoff tag id) s = .next (pagerEvent s { s.pager with
      port := .waiting
      queue := updatePage id (fun _ => back) s.pager.queue })) ∧
  (∀ (s : State) (id : Half) (tag : Byte) (repeated : Bool), s.pager.port = .sending id tag repeated →
    (∀ page, findPage id s.pager.queue = some page → page.state = .onAir →
      (page.cancelMark = true → ∃ t, exec (.backoff tag id) s = .next t ∧ Happened deskFoot s t ∧
        t.part.desk.conds = s.part.desk.conds ∧
        ends s.part.uptime page .cancelled none { s.pager with port := .waiting } t.pager) ∧
      (page.cancelMark = false → page.declineMark = true →
        attemptEnds (.backoff tag id) s page .declinedOut { s.pager with port := .waiting })) ∧
    ((∀ page, findPage id s.pager.queue = some page → page.state ≠ .onAir) →
      exec (.backoff tag id) s = .next (pagerEvent s { s.pager with port := .waiting })) ∧
    ((∀ page, findPage id s.pager.queue = some page → page.state = .onAir →
        page.cancelMark = true ∨ page.declineMark = true) →
      ∃ u, exec (.backoff tag id) s = .next u ∧ exec (.accepted tag id) s = exec .backoffEnd u)) ∧
  (∀ (s : State) (held : Half) (sent : Byte) (repeated : Bool), s.pager.port = .sending held sent repeated →
    ∀ (tag : Byte) (id : Half), tag ≠ sent ∨ id ≠ held →
    exec (.accepted tag id) s = .next (s.event s.part) ∧ exec (.backoff tag id) s = .next (s.event s.part)) ∧
  (∀ (s : State) (tag : Byte) (id : Half), s.pager.port = .idle ∨ s.pager.port = .waiting →
    exec (.accepted tag id) s = .next (s.event s.part) ∧ exec (.backoff tag id) s = .next (s.event s.part)) ∧
  ∀ s : State,
    (s.pager.port ≠ .waiting → exec .backoffEnd s = .next (s.event s.part)) ∧
    (s.pager.port = .waiting → (∀ page ∈ s.pager.queue, page.state ≠ .queued) →
      exec .backoffEnd s = .next (pagerEvent s { s.pager with port := .idle }))

/-- R168: the first silence repeats the TRANSMIT under its tag (the frame last sent stays: log entry 17), or frees the
port where the page has gone; the second takes the port DOWN, raises RADIO_DOWN with the page id and then settles the
page by its marks as a BACKOFF does (the order is log entry 10); in DOWN, STATUS is sent under a fresh tag (log entry
18), and a STATUS REPLY, ACCEPTED or BACKOFF under any tag brings the port out of DOWN and returns RADIO_DOWN; an
ANSWER is taken first, then does the same. -/
def Obligations.SilenceTakesTheRadioDown : Prop :=
  (∀ (s : State) (id : Half) (tag : Byte) (again : Bool), s.pager.port = .sending id tag again →
    ∀ page, findPage id s.pager.queue = some page → page.state = .onAir →
    (s.pager.port = .sending id tag false →
      exec .silenceTimeout s = .next (pagerEvent s { s.pager with port := .sending id tag true })) ∧
    (s.pager.port = .sending id tag true → page.cancelMark = false → page.declineMark = false → PagesKept s.pager →
      ∃ t, exec .silenceTimeout s = .next t ∧ Happened deskFoot s t ∧ t.pager.port = .down ∧
        t.slot radioDownSlot = (s.slot radioDownSlot).raise s.part.uptime id ∧
        (∀ i, i ≠ radioDownSlot → t.slot i = s.slot i) ∧ t.pager.directory = s.pager.directory ∧
        ∃ back, findPage id t.pager.queue = some back ∧ back.state = .queued ∧ back.attempts = page.attempts ∧
          (∀ e, page.broadcast = false → page.target = some e → back.target = none ∧ e ∉ back.tried))) ∧
  (∀ (s : State) (id : Half) (tag : Byte),
    (s.pager.port = .sending id tag false → (∀ page, findPage id s.pager.queue = some page → page.state ≠ .onAir) →
      exec .silenceTimeout s = exec .backoffEnd (withPort .waiting s)) ∧
    (s.pager.port = .sending id tag true →
      ∃ u, exec (.backoff tag id) { s with part := s.part.raise radioDownSlot id } = .next u ∧
        exec .silenceTimeout s = .next (withPort .down u))) ∧
  (∀ s : State, s.pager.port = .idle ∨ s.pager.port = .waiting ∨ s.pager.port = .down →
    exec .silenceTimeout s = .next (s.event s.part)) ∧
  (∀ s : State,
    (s.pager.port = .down → exec .statusTimer s = .next (pagerEvent s { s.pager with
      tagCounter := s.pager.tagCounter + 1, lastSent := some (statusFrame (s.pager.tagCounter + 1)) })) ∧
    (s.pager.port ≠ .down → exec .statusTimer s = .next (s.event s.part))) ∧
  ∀ (s : State) (tag : Byte),
    (s.pager.port ≠ .down → exec (.statusReply tag) s = .next (s.event s.part)) ∧
    (s.pager.port = .down → ∃ t, exec (.statusReply tag) s = .next t ∧ Happened deskFoot s t ∧
      DeskKept [radioDownSlot] s t ∧
      t.pager.port ≠ .down ∧ t.pager.port ≠ .waiting ∧
      t.slot radioDownSlot = (s.slot radioDownSlot).ret ∧
      ((∀ page ∈ s.pager.queue, page.state ≠ .queued) → t.pager = { s.pager with port := .idle })) ∧
    ∀ (address id : Half), s.pager.port = .down →
      exec (.accepted tag id) s = exec (.statusReply tag) s ∧ exec (.backoff tag id) s = exec (.statusReply tag) s ∧
      (∃ u, exec (.answerAccept address id) (withPort .waiting s) = .next u ∧
        exec (.answerAccept address id) s = exec (.statusReply tag) (withPort .down u)) ∧
      ∃ u, exec (.answerDecline address id) (withPort .waiting s) = .next u ∧
        exec (.answerDecline address id) s = exec (.statusReply tag) (withPort .down u)

/-- R169: an ACCEPT for a page of the queue from a pager that may answer it ends the page as ACKED, with the answering
pager in the record, and its latch, where it was set, then makes a page of its source (R162); from one that may not, it
changes nothing; for no page of the queue it is recorded as LATE_ANSWER, under a source that is a free value (log entry
3). Stated while the port is busy; with the port IDLE the arbiter is judged on what the same command leaves then. -/
def Obligations.AnAcceptAcknowledgesItsPage : Prop :=
  ∀ (s : State) (address id : Half), s.pager.port ≠ .down →
    let i : Instr := .answerAccept address id
    (s.pager.port = .idle → ∃ u, exec i (withPort .waiting s) = .next u ∧ exec i s = exec .backoffEnd u) ∧
    let names (e : Fin 64) := (s.pager.directory.get e).address = address.toNat ∧ address.toNat ≠ 0
    (∀ page, findPage id s.pager.queue = some page → ∀ e, names e → (∀ x, names x → x = e) →
      let may := e ∈ page.tried ∨
        page.broadcast = true ∧ (s.pager.directory.get e).groups.getLsbD page.current.val = true
      (may → page.state ≠ .onAir ∨ page.cancelMark = false →
        ∃ t, exec i s = .next t ∧ Happened deskFoot s t ∧ DeskKept [] s t ∧
          (s.pager.port ≠ .idle →
            t.part.desk.conds = s.part.desk.conds ∧
            ends s.part.uptime page .acked (some e) { s.pager with directory := t.pager.directory } t.pager) ∧
          (s.pager.port ≠ .idle → page.latch = none →
            t.pager = { s.pager with
              queue := s.pager.queue.filter fun q => decide (q.id ≠ id)
              directory := t.pager.directory
              outcomes := appendOutcome
                { id, source := page.source, outcome := .acked, pager := some e, uptime := s.part.uptime }
                s.pager.outcomes }) ∧
          ∀ x, (t.pager.directory.get x).outstanding =
            if page.state = .awaiting ∧ page.broadcast = false ∧ page.target = some x then
              (s.pager.directory.get x).outstanding - 1 else (s.pager.directory.get x).outstanding) ∧
      (s.pager.port ≠ .idle → ¬ may ∨ page.state = .onAir ∧ page.cancelMark = true →
        exec i s = .next (s.event s.part))) ∧
    (s.pager.port ≠ .idle → findPage id s.pager.queue ≠ none → (∀ x, ¬ names x) →
      exec i s = .next (s.event s.part)) ∧
    (s.pager.port ≠ .idle → (∀ page ∈ s.pager.queue, page.id ≠ id) → ∀ entry : Option (Fin 64),
      (∀ e, entry = some e ↔ names e) →
      ∃ t, exec i s = .next t ∧ Happened { pager := true } s t ∧
        t.pager = { s.pager with
          outcomes := appendOutcome
            { id, source := Config.lateAnswerSource id, outcome := .lateAnswer, pager := entry, uptime := s.part.uptime }
            s.pager.outcomes })

/-- R170, R171: a DECLINE from the current target of an AWAITING page, after a transmission to it alone, ends the
attempt, and so does a PAGE_DEADLINE of an AWAITING page, sent to one pager or broadcast, once the uptime has reached
its deadline (compared in 32 bits: log entry 19); the target's outstanding count goes down where the transmission was
to it alone. A DECLINE of a page ON_AIR sets its mark. A DECLINE in any other case and a deadline not reached or gone
change nothing. Stated while the port is busy; with the port IDLE the arbiter is judged on what the same command
leaves then: once, after PAGE_UNANSWERED is raised and the latch has made its page (the order is log entry 10). Both
commands complete in every state. -/
def Obligations.AnAttemptEndsUnansweredOnce : Prop :=
  (∀ (s : State) (address id : Half),
    (∃ t, exec (.answerDecline address id) s = .next t ∧ Happened deskFoot s t ∧ DeskKept [radioDownSlot] s t) ∧
    ∃ t, exec (.pageDeadline id) s = .next t ∧ Happened deskFoot s t ∧ DeskKept [] s t) ∧
  (∀ (s : State) (address id : Half) (page : Page), findPage id s.pager.queue = some page →
    let fewer (e : Fin 64) : PagerEntry :=
      { s.pager.directory.get e with outstanding := (s.pager.directory.get e).outstanding - 1 }
    let released : Pager := match page.broadcast, page.target with
      | false, some e => { s.pager with directory := s.pager.directory.set e (fewer e) }
      | _, _ => s.pager
    let due := ∃ deadline, page.deadline = some deadline ∧ (s.part.uptime - deadline).toNat < 2147483648
    let names (e : Fin 64) := (s.pager.directory.get e).address = address.toNat ∧ address.toNat ≠ 0
    let fromTarget := page.broadcast = false ∧ ∃ e, page.target = some e ∧ names e ∧ ∀ x, names x → x = e
    let quiet := s.pager.port ≠ .idle ∧ s.pager.port ≠ .down
    (quiet → fromTarget → page.state = .awaiting →
      attemptEnds (.answerDecline address id) s page .declinedOut released) ∧
    (quiet → fromTarget → page.state = .onAir →
      exec (.answerDecline address id) s = .next (pagerEvent s { s.pager with
        queue := updatePage id (fun q => { q with declineMark := true }) s.pager.queue })) ∧
    (quiet → page.state = .queued ∨ page.broadcast = true ∨ (∀ e, names e → page.target ≠ some e) →
      exec (.answerDecline address id) s = .next (s.event s.part)) ∧
    (s.pager.port ≠ .idle → page.state = .awaiting → due →
      attemptEnds (.pageDeadline id) s page .expired released) ∧
    (s.pager.port = .idle → page.state = .awaiting → due →
      ∃ u, exec (.pageDeadline id) (withPort .waiting s) = .next u ∧
        exec (.pageDeadline id) s = exec .backoffEnd u) ∧
    (page.state ≠ .awaiting ∨ ¬ due → exec (.pageDeadline id) s = .next (s.event s.part))) ∧
  ∀ (s : State) (address id : Half),
    ((∀ page ∈ s.pager.queue, page.id ≠ id) → exec (.pageDeadline id) s = .next (s.event s.part) ∧
      (s.pager.port ≠ .idle → s.pager.port ≠ .down →
        exec (.answerDecline address id) s = .next (s.event s.part))) ∧
    (s.pager.port = .idle → ∃ u, exec (.answerDecline address id) (withPort .waiting s) = .next u ∧
      exec (.answerDecline address id) s = exec .backoffEnd u)

/-! ## Chapter 10: lines and the trip -/

/-- R177: a raw level that changes starts the stability timer where it differs from the filtered state and drops it
where it does not; a timer that runs out makes the filtered state the raw level, and a line whose level is the
filtered state tells no block: its timer is just cleared (log entry 15). R76, R46, R47, R108, R179, R180: what a
change of a filtered line does in its block: the oven's door with the inhibit of its loop and, when it closes, what
R34 makes of the release, the requested budget with REDUCED_ACK, the hold reasons DOOR and OVERLOAD with the
CONVEYOR_OVERLOAD slot; and a rack sensor or the hood line that clears changes nothing but the line. -/
def Obligations.LinesAreFilteredAndHandedOn : Prop :=
  (∀ (s : State) (line : Line),
    let i := lineIndex line
    let l := s.part.interlock.lines.get i
    let withLine (new : LineState) : Part :=
      { s.part with interlock := { s.part.interlock with lines := s.part.interlock.lines.set i new } }
    (∀ level, level ≠ l.raw → exec (.rawLineChange line level) s =
      .next (s.event (withLine { raw := level, filtered := l.filtered, timing := decide (level ≠ l.filtered) }))) ∧
    exec (.rawLineChange line l.raw) s = .next (s.event (withLine l)) ∧
    (l.timing = false → exec (.filterTimerExpiry line) s = .next (s.event s.part)) ∧
    (l.timing = true → l.raw = l.filtered →
      exec (.filterTimerExpiry line) s = .next (s.event (withLine { l with timing := false }))) ∧
    (l.timing = true → l.raw ≠ l.filtered → ∃ t, exec (.filterTimerExpiry line) s = .next t ∧
      t.pending = s.pending ∧ t.part.interlock.lines.get i = { raw := l.raw, filtered := l.raw, timing := false } ∧
      (∀ j, j ≠ i → t.part.interlock.lines.get j = s.part.interlock.lines.get j) ∧
      t.part.interlock.travel = s.part.interlock.travel ∧ t.part.uptime = s.part.uptime ∧
      t.part.programs = s.part.programs ∧ t.part.scan = s.part.scan)) ∧
  ∀ (s : State) (line : Line) (on : Bool),
    s.part.interlock.lines.get (lineIndex line) = { raw := on, filtered := !on, timing := true } →
    ∃ t, exec (.filterTimerExpiry line) s = .next t ∧ t.part.asserted line = on ∧
      let lineFoot : Footprint := { interlock := true }
      (∀ n, line = .ovenDoor n →
        let l := s.loop (ovenLoop n)
        Happened { lineFoot with ovens := true, loops := true, conds := true, pager := true } s t ∧
        DeskKept [overtempSlot (ovenLoop n)] s t ∧
        (∀ m, m ≠ n → t.oven m = s.oven m) ∧ t.oven n = { s.oven n with doorOpen := on } ∧
        (∀ m, m ≠ ovenLoop n → t.loop m = s.loop m) ∧
        ((s.oven n).state = .idle → t.loop (ovenLoop n) = l) ∧
        ((s.oven n).state ≠ .idle → (t.loop (ovenLoop n)).inhibit = on ∧ (t.loop (ovenLoop n)).base = l.base ∧
          (on = true → l.inhibit = false → t.loop (ovenLoop n) =
            { l with inhibit := true, demand := if l.chFault then l.demand else 0 }) ∧
          (on = true → l.inhibit = true → standsAt (ovenLoop n) l s t) ∧
          (on = false → inhibitReleased (ovenLoop n) l s t))) ∧
      (line = .feederReduce → Happened { lineFoot with feeder := true } s t ∧
        t.part.feeder = { s.part.feeder with
          requested := if on then s.part.feeder.reduced else s.part.feeder.limit
          reducedAck := on && decide (s.part.feeder.applied = s.part.feeder.reduced) }) ∧
      (line = .dishDoor → Happened { lineFoot with dish := true, feeder := true } s t ∧
        (on = true → s.dish.state = .running → t.dish = { s.dish with
          state := .held, reasons := { door := true, overload := false, lost := false, trip := false }
          conveyor := false, gateOpen := false, valveOpen := false, coldTimer := 0 }) ∧
        (on = true → s.dish.state = .held → t.dish = { s.dish with reasons := { s.dish.reasons with door := true } }) ∧
        (on = true → s.dish.state ≠ .running → s.dish.state ≠ .held → t.dish = s.dish) ∧
        (on = false → s.dish.state = .held → s.dish.reasons.door = true →
          t.dish.reasons = { s.dish.reasons with door := false } ∧ t.dish.state =
            if s.dish.reasons.overload || s.dish.reasons.lost || s.dish.reasons.trip then .held else .ready) ∧
        (on = false → s.dish.state ≠ .held ∨ s.dish.reasons.door = false → t.dish = s.dish)) ∧
      (line = .conveyorOverload →
        Happened { lineFoot with dish := true, feeder := true, conds := true, pager := true } s t ∧
        DeskKept [overloadSlot] s t ∧
        t.slot overloadSlot = (if on then (s.slot overloadSlot).raise s.part.uptime 0 else (s.slot overloadSlot).ret) ∧
        (on = true → s.dish.state = .running → t.dish = { s.dish with
          state := .held, reasons := { door := false, overload := true, lost := false, trip := false }
          conveyor := false, gateOpen := false, valveOpen := false, coldTimer := 0 }) ∧
        (on = true → s.dish.state = .held →
          t.dish = { s.dish with reasons := { s.dish.reasons with overload := true } }) ∧
        (on = true → s.dish.state ≠ .running → s.dish.state ≠ .held → t.dish = s.dish) ∧
        (on = false → s.dish.state = .held → s.dish.reasons.overload = true →
          t.dish.reasons = { s.dish.reasons with overload := false } ∧ t.dish.state =
            if s.dish.reasons.door || s.dish.reasons.lost || s.dish.reasons.trip then .held else .ready) ∧
        (on = false → s.dish.state ≠ .held ∨ s.dish.reasons.overload = false → t.dish = s.dish)) ∧
      (line = .rackEntry ∨ line = .rackExit ∨ line = .hoodTrip → on = false → Happened lineFoot s t)

/-- R181, R55, R77, R121: HOOD_TRIP asserted outside the trip state raises the condition, sets the trip flag, removes
the drive enable, cuts every grant, ends every oven's run as TRIPPED and clears the tunnel into HELD; in the trip
state it raises the condition alone. R183, R121: CLEAR TRIP in the trip state with the hood line released ends it: the
drive is enabled, HOOD_TRIP is returned, and a HELD tunnel takes TRIP out of its reasons and starts its loops again,
each taking what R33 makes of its AUTO; otherwise it is refused with STATE. The lock of heater 15 follows the valve
(R116). The ovens that leave HOLDING or FINISHED at the trip have their PROGRAM_DONE pages cancelled (R75, R172; the
whole of the pager is stated while the port is busy and no route is enabled): the lowest oven's first, so that their
CANCELLED records stand in that order, which no rule states: the model's choice (log entry 32). R102, R103, R121: the
racks leave as UNVERIFIED, oldest first, into the ring, which counts what it overwrites; the configuration, the
declarations, the rack counter and the last entry uptime of the dish stay. The waves that await the ovens, and those of
the racks' kinds, are judged (R141). -/
def Obligations.TheTripStateIsEnteredAndLeft : Prop :=
  (∀ s : State, rising .hoodTrip s →
    ∃ t, exec (.filterTimerExpiry .hoodTrip) s = .next t ∧
      t.slot hoodTripSlot = (s.slot hoodTripSlot).raise s.part.uptime 0 ∧
      t.part.interlock.trip = true ∧ t.part.interlock.travel = s.part.interlock.travel ∧
      (s.part.interlock.trip = true → Happened { deskFoot with interlock := true } s t ∧
        DeskKept [hoodTripSlot] s t ∧
        t.part.interlock.driveEnable = s.part.interlock.driveEnable) ∧
      (s.part.interlock.trip = false →
        Happened { rackFoot with interlock := true, ovens := true, loops := true } s t ∧
        Noticed [hoodTripSlot, washColdSlot] s t ∧
        (∀ w, noticedAt (fun v => (∃ n, (s.oven n).state ≠ .idle ∧ awaits n v) ∨
          s.dish.state ≠ .off ∧ ∃ r ∈ s.dish.queue, r.count ≠ 0 ∧ ∃ kind, r.kind = some kind ∧ ofKind kind v) s t w) ∧
        t.part.interlock.driveEnable = false ∧ t.part.heaterPins = List.replicate 16 false ∧
        (∀ n, n ≠ 15 → t.heater n =
          { s.heater n with grant := 0, assigned := 0, delivered := 0, output := false }) ∧
        t.heater 15 = { s.heater 15 with
          grant := 0, assigned := 0, delivered := 0, output := false
          locked := (t.heater 15).locked } ∧
        (s.dish.state = .off → (t.heater 15).locked = (s.heater 15).locked) ∧
        (s.dish.state ≠ .off → (s.heater 15).locked = s.dish.valveOpen → (t.heater 15).locked = false) ∧
        t.part.feeder = { s.part.feeder with
          heaters := t.part.feeder.heaters, grantedTotal := 0, deliveredTotal := 0 } ∧
        (∀ n, t.oven n =
          if (s.oven n).state = .idle then s.oven n else { s.oven n with state := .idle, outcome := .tripped }) ∧
        (∀ n, (s.oven n).state ≠ .idle → (t.loop (ovenLoop n)).base = .off ∧ (t.loop (ovenLoop n)).demand = 0) ∧
        (∀ n, (s.oven n).state ≠ .idle → t.loop (ovenLoop n) = { s.loop (ovenLoop n) with
          base := .off, integ := 0, deriv := 0, yPrev := 0, uLast := 0, demand := 0
          inhibit := if (s.oven n).doorOpen then false else (s.loop (ovenLoop n)).inhibit }) ∧
        (∀ n, (s.oven n).state = .idle → t.loop (ovenLoop n) = s.loop (ovenLoop n)) ∧
        (PagesKept s.pager → ∀ n, (s.oven n).state = .holding ∨ (s.oven n).state = .finished →
          noPageBut (.oven n) t.pager) ∧
        (s.pager.port ≠ .idle → (∀ k, (s.pager.routes.get k).enabled = false) →
          noticesCancel s.part.uptime (((List.finRange 6).filter fun n =>
            decide ((s.oven n).state = .holding) || decide ((s.oven n).state = .finished)).map Source.oven)
            s.pager t.pager) ∧
        (s.dish.state = .off → t.dish = s.dish ∧ t.part.stock = s.part.stock) ∧
        (s.dish.state ≠ .off →
          t.dish = { s.dish with
            state := .held, conveyor := false, gateOpen := false, valveOpen := false, coldTimer := 0, queue := []
            reasons := if s.dish.state = .held then { s.dish.reasons with trip := true }
              else { door := false, overload := false, lost := false, trip := true }
            ring := t.dish.ring, overwrites := t.dish.overwrites } ∧
          (s.dish.ring.length ≤ 64 →
            let removed (r : Rack) : Rack := { r with outcome := some .unverified, removal := some s.part.uptime }
            let all := s.dish.ring ++ s.dish.queue.map removed
            t.dish.ring = all.drop (all.length - 64) ∧
            (s.dish.overwrites ≤ 65535 →
              t.dish.overwrites = min 65535 (s.dish.overwrites + (all.length - 64)))) ∧
          (∀ m, m = 14 ∨ m = 15 → (t.loop m).base = .off ∧ (t.loop m).demand = 0) ∧
          ∀ kind, t.stockOf kind = { s.stockOf kind with
            tunnel := (s.stockOf kind).tunnel - s.dish.plates kind
            soiled := (s.stockOf kind).soiled + s.dish.plates kind }))) ∧
  ∀ (s : State) (tag : Byte),
    (s.part.interlock.trip = false ∨ s.part.asserted .hoodTrip = true →
      exec (.clearTrip tag) s = .next (s.answer 0xA0 tag (s.part, { status := .state }))) ∧
    (s.part.interlock.trip = true → s.part.asserted .hoodTrip = false →
      ∃ t, exec (.clearTrip tag) s = .next t ∧
        Answered { interlock := true, conds := true, pager := true, dish := true, loops := true, feeder := true } 0xA0
          tag .ok [] s t ∧ DeskKept [hoodTripSlot, overtempSlot 14, overtempSlot 15] s t ∧
        t.part.interlock = { s.part.interlock with trip := false, driveEnable := true } ∧
        t.slot hoodTripSlot = (s.slot hoodTripSlot).ret ∧
        (∀ m, m ≠ 14 → m ≠ 15 → t.loop m = s.loop m) ∧
        (s.dish.state ≠ .held ∨ s.dish.reasons.trip = false →
          t.dish = s.dish ∧ t.part.loops = s.part.loops ∧ t.part.feeder = s.part.feeder) ∧
        (s.dish.state = .held → s.dish.reasons.trip = true →
          t.dish.reasons = { s.dish.reasons with trip := false } ∧
          t.dish.state =
            (if s.dish.reasons.door || s.dish.reasons.overload || s.dish.reasons.lost then .held else .ready) ∧
          (t.loop 14).sp = clamp 0 (s.loop 14).cfg.maxSetpoint s.dish.cfg.washSp ∧
          (t.loop 15).sp = clamp 0 (s.loop 15).cfg.maxSetpoint s.dish.cfg.boosterSp ∧
          (∀ m, m = 14 ∨ m = 15 → (t.loop m).base = if (s.loop m).base = .off then .auto else (s.loop m).base) ∧
          autoStarted 14 { s.loop 14 with sp := clamp 0 (s.loop 14).cfg.maxSetpoint s.dish.cfg.washSp } s t ∧
          autoStarted 15 { s.loop 15 with sp := clamp 0 (s.loop 15).cfg.maxSetpoint s.dish.cfg.boosterSp } s t))

/-! ## Chapter 11: the links -/

/-- R185, R186: the bytes of a frame, taken from HUNT without a late one, complete that frame at the last byte and
none before; the CRC over "123456789" is 0x29B1, and a frame whose CRC differs is discarded. R186, R187, R195: a byte
at the control link's receiver that completes no frame moves the receiver alone; one that completes a frame does what
CONTROL_FRAME_COMPLETE does with it, in the byte's own step (log entry 6). A byte at the pager base link's receiver
likewise does what the base station's frame says, and a frame of another kind or length is discarded. -/
def Obligations.LinkBytesCompleteFrames : Prop :=
  ((∀ f : Frame, f.payload.length ≤ 240 →
    ∃ (front : List Byte) (last : Byte) (rx : Receiver), f.bytes = front ++ [last] ∧
      (front.foldl (fun (r : Receiver × List Frame) b => ((r.1.byte false b).1, r.2 ++ (r.1.byte false b).2.toList))
        (.hunt, [])) = (rx, []) ∧
      rx.byte false last = (.hunt, some f) ∧ ∀ other, other ≠ last → rx.byte false other = (.hunt, none)) ∧
  crc [0x31, 0x32, 0x33, 0x34, 0x35, 0x36, 0x37, 0x38, 0x39] = 0x29B1 ∧
  (∀ b : Byte, Receiver.byte .hunt false b = (if b = 0x5A then .length else .hunt, none)) ∧
  (∀ b : Byte, 240 < b.toNat → Receiver.byte .length false b = (.hunt, none)) ∧
  ∀ (rx : Receiver) (b : Byte), rx.byte true b = Receiver.byte .hunt false b) ∧
  (∀ (s : State) (late : Bool) (b : Byte) (rx : Receiver), s.link.rx.byte late b = (rx, none) →
    exec (.controlLinkByte late b) s = .next (s.event
      { s.part with desk := { s.part.desk with link := { s.link with rx } } })) ∧
  (∀ (s : State) (late : Bool) (b : Byte) (f : Frame), s.link.rx.byte late b = (.hunt, some f) →
    exec (.controlLinkByte late b) s = exec (.controlFrameComplete f.kind f.tag f.payload) s) ∧
  (∀ (s : State) (late : Bool) (b : Byte) (rx : Receiver), s.pager.rx.byte late b = (rx, none) →
    exec (.pagerLinkByte late b) s = .next (pagerEvent s { s.pager with rx })) ∧
  ∀ (s : State) (late : Bool) (b : Byte) (rx : Receiver) (f : Frame), s.pager.rx.byte late b = (rx, some f) →
    let u : State := { s with part := withPager s { s.pager with rx } }
    let i : Instr := .pagerLinkByte late b
    (∀ i1 i0, f.kind.toNat = 0x81 → f.payload = [i1, i0] → exec i s = exec (.accepted f.tag (half i1 i0)) u) ∧
    (∀ i1 i0, f.kind.toNat = 0x82 → f.payload = [i1, i0] → exec i s = exec (.backoff f.tag (half i1 i0)) u) ∧
    (f.kind.toNat = 0x83 → f.payload = [] → exec i s = exec (.statusReply f.tag) u) ∧
    (∀ a1 a0 i1 i0, f.kind.toNat = 0x84 → f.payload = [a1, a0, i1, i0, 0] →
      exec i s = exec (.answerAccept (half a1 a0) (half i1 i0)) u) ∧
    (∀ a1 a0 i1 i0, f.kind.toNat = 0x84 → f.payload = [a1, a0, i1, i0, 1] →
      exec i s = exec (.answerDecline (half a1 a0) (half i1 i0)) u) ∧
    (¬ (f.kind.toNat = 0x81 ∧ f.payload.length = 2) → ¬ (f.kind.toNat = 0x82 ∧ f.payload.length = 2) →
      ¬ (f.kind.toNat = 0x83 ∧ f.payload.length = 0) → ¬ (f.kind.toNat = 0x84 ∧ f.payload.length = 5) →
      exec i s = .next (u.event u.part))

/-- R187, R188: a frame that completes takes a free buffer and is taken as a request as soon as the reply before it is
built, so in the same step: its reply is built at that moment, under its kind and tag, behind the replies that wait.
With both buffers held it is discarded. Behind a RESTART whose reply has not gone it waits (R193; when a frame is taken
is log entry 5's reading). R185, R187, R193: when the last byte of a reply has gone, its buffer is freed, a request
that waits is taken, and the transmitter turns to what waits; after the reply of a RESTART both buffers are cleared and
the receiver hunts. REPLY_SENT and ATTENTION_SENT with no such frame on the air change nothing. -/
def Obligations.FramesAreBufferedTakenAndSent : Prop :=
  (∀ (s : State) (f : Frame),
    let i : Instr := .controlFrameComplete f.kind f.tag f.payload
    let withLink (k : Link) : Part := { s.part with desk := { s.part.desk with link := k } }
    let restarts := ∃ r ∈ s.link.replies, r.kind.toNat = 0xF1 ∧ r.status = .ok
    (2 ≤ s.link.buffers.length → exec i s = .next (s.event (withLink { s.link with rx := .hunt }))) ∧
    (s.link.buffers.length < 2 → restarts →
      exec i s = .next (s.event (withLink { s.link with
        rx := .hunt, buffers := s.link.buffers ++ [{ frame := f, taken := false }] }))) ∧
    (s.link.buffers.length < 2 → ¬ restarts → (∀ b ∈ s.link.buffers, b.taken = true) → ∀ q a,
      performFrame f (withLink { s.link with
        rx := .hunt, buffers := s.link.buffers ++ [{ frame := f, taken := true }] }) = (q, a) →
      exec i s = .next (s.event { q with desk := { q.desk with link := { q.desk.link with
        replies := q.desk.link.replies ++
          [{ kind := f.kind, tag := f.tag, status := a.status, pieces := a.pieces, buffered := true }] } } }))) ∧
  (∀ (s : State) (r : Reply) (rest : List Reply), s.link.replies = r :: rest → s.link.tx = .reply →
    let restarted := r.kind.toNat = 0xF1 ∧ r.status = .ok
    let restarts := ∃ r ∈ rest, r.kind.toNat = 0xF1 ∧ r.status = .ok
    let freed := if r.buffered then s.link.buffers.drop 1 else s.link.buffers
    (restarted → exec .replySent s = .next (s.event { s.part with desk := { s.part.desk with
      link := { s.link with tx := .idle, replies := rest, buffers := [], rx := .hunt } } })) ∧
    (¬ restarted → restarts ∨ (∀ b ∈ freed, b.taken = true) →
      exec .replySent s = .next (s.event { s.part with desk := { s.part.desk with
        link := { s.link with tx := .idle, replies := rest, buffers := freed } } })) ∧
    (¬ restarted → ¬ restarts → ∀ older b, freed = older ++ [b] → (∀ x ∈ older, x.taken = true) → b.taken = false →
      ∀ q a, performFrame b.frame { s.part with desk := { s.part.desk with
        link := { s.link with tx := .idle, replies := rest, buffers := older ++ [{ b with taken := true }] } } } = (q, a) →
      exec .replySent s = .next (s.event { q with desk := { q.desk with link := { q.desk.link with
        replies := q.desk.link.replies ++
          [{ kind := b.frame.kind, tag := b.frame.tag, status := a.status, pieces := a.pieces, buffered := true }] } } }))) ∧
  (∀ s : State, s.link.tx ≠ .reply ∨ s.link.replies = [] → exec .replySent s = .next (s.event s.part)) ∧
  (∀ (s : State) (marks : Nat), s.link.tx = .attention marks →
    exec .attentionSent s = .next (s.event { s.part with desk := { s.part.desk with
      link := { s.link with tx := .idle } } })) ∧
  (∀ s : State, s.link.tx = .idle ∨ s.link.tx = .reply → exec .attentionSent s = .next (s.event s.part)) ∧
  ∀ k : Link,
    (k.tx ≠ .idle → k.kick = k) ∧ (k.tx = .idle → k.replies ≠ [] → k.kick = { k with tx := .reply }) ∧
    (k.tx = .idle → k.replies = [] → ∀ marks rest, k.attentions = marks :: rest →
      k.kick = { k with tx := .attention marks, attentions := rest }) ∧
    (k.tx = .idle → k.replies = [] → k.attentions = [] → k.kick = k)

/-- R191, R190: POLL removes the oldest marks, up to 60, and answers their number, the number left and the marks,
oldest first; attention becomes clear and is judged, so that marks left bring a fresh ATTENTION. R189, R190: a mark
not held joins at the newest end, one held keeps its place, and a mark that joins while attention is clear sends one
ATTENTION with the number of marks held. An ATTENTION that is already built stays at a POLL (log entry 16); on the air
it is one frame of kind 0xFF and tag 0 with the number of marks as its payload (R190, R194), while a reply on the air
is the frames of the oldest reply. -/
def Obligations.PollCollectsTheOldestMarks : Prop :=
  (∀ (s : State) (tag : Byte),
    let taken := s.link.changeSet.take 60
    let left := s.link.changeSet.drop 60
    let polled : Link := { s.link with
      changeSet := left, attention := !left.isEmpty
      attentions := if left.isEmpty then s.link.attentions else s.link.attentions ++ [left.length] }
    ∃ t, exec (.poll tag) s = .next t ∧ t.pending = s.pending ∧ Touches {} s.part t.part ∧
      t.link = (polled.built 0xF0 tag .ok
        ([BitVec.ofNat 8 taken.length, BitVec.ofNat 8 left.length] ::
          taken.map fun m => [m.cls.code, BitVec.ofNat 8 m.index])).kick) ∧
  (∀ k : Link,
    (∀ marks, k.tx = .attention marks → k.onAir = [{ kind := 0xFF, tag := 0, payload := [BitVec.ofNat 8 marks] }]) ∧
    (k.tx = .idle → k.onAir = []) ∧ ∀ r rest, k.replies = r :: rest → k.tx = .reply → k.onAir = r.frames) ∧
  ∀ (k : Link) (c : MarkClass) (i : Nat),
    (⟨c, i⟩ ∈ k.changeSet → k.mark c i = k) ∧
    (⟨c, i⟩ ∉ k.changeSet → k.attention = true →
      k.mark c i = { k with changeSet := k.changeSet ++ [⟨c, i⟩] }) ∧
    (⟨c, i⟩ ∉ k.changeSet → k.attention = false → k.mark c i = { k with
      changeSet := k.changeSet ++ [⟨c, i⟩], attention := true
      attentions := k.attentions ++ [k.changeSet.length + 1] })

/-- What a raise at the end of a warm restart makes of the pager controller: where its route is enabled it makes a
page, and an idle port judges the queue at once, as at the end of a back-off wait (R160, R164, R183). -/
def Sys2Proof.Machine.raisedAgain (again : Bool) (slot : Fin 87) (kind : Fin 16) (t : State) (g h : Pager) : Prop :=
  let page := triggered t.part.uptime (.slot slot) kind 0
  (again = false → h = g) ∧
  (again = true → g.port ≠ .idle → page g h) ∧
  (again = true → g.port = .idle → ∃ left, page { g with port := .waiting } left ∧
    ∃ u, exec .backoffEnd { t with part := withPager t left } = .next u ∧ h = u.pager)

/-- R16, R42, R61, R80, R99, R126, R143, R155, R176, R183, R193: RESTART is taken in every state and leaves each block
at its restart values, with what each keeps; the racks leave as UNVERIFIED into the ring, which counts what it
overwrites, and the lock of heater 15 follows the valve as it closes (R103, R116); the uptime and the lines run on,
and the trip and the overload are raised again, in that order (log entry 11), on a pager controller that has kept its
directory, groups with their pointers, routes and counters: each raise pages by its route (R160, R183). The change set
is emptied first and holds what the restart marked, whatever it held and whatever attention was; one ATTENTION is
built at the first of those marks, behind those already built (log entry 16). The reply holds no buffer (log entry 4),
and the waiting commands stay (log entry 28). -/
def Obligations.RestartTakesTheRestartValues : Prop :=
  ∀ (s : State) (tag : Byte), ∃ t, exec (.restart tag) s = .next t ∧ t.pending = s.pending ∧
    (∀ (changeSet : List Mark) (attention : Bool),
      exec (.restart tag) { s with part := { s.part with desk := { s.part.desk with
        link := { s.link with changeSet, attention } } } } = .next t) ∧
    t.link = Link.kick { s.link with
      changeSet := t.link.changeSet, attention := !t.link.changeSet.isEmpty
      attentions := s.link.attentions ++ (if t.link.changeSet.isEmpty then [] else [1])
      replies := t.link.replies } ∧
    t.part.uptime = s.part.uptime ∧ t.part.interlock = s.part.interlock ∧ t.part.programs = s.part.programs ∧
    t.link.replies = s.link.replies ++ [{ kind := 0xF1, tag, status := .ok, pieces := [], buffered := false }] ∧
    t.link.buffers = s.link.buffers ∧ t.link.rx = s.link.rx ∧
    t.part.scan.next = s.part.scan.next ∧ t.part.scan.select = s.part.scan.select ∧
    (∀ ch, t.entry ch =
      { value := 0, status := (if (s.entry ch).enabled then .unscanned else .disabled), seq := 0, fresh := false
        gain := (s.entry ch).gain, offset := (s.entry ch).offset, enabled := (s.entry ch).enabled
        runKind := none, runLen := 0 }) ∧
    (∀ n, t.loop n =
      { cfg := (s.loop n).cfg, base := .off, inhibit := false, chFault := false, sp := 0, spf := 0
        manOut := (s.loop n).cfg.satLow, ramp := 0, integ := 0, deriv := 0, yPrev := 0, uLast := 0, demand := 0
        grant := 0, grantRound := 0, usedRound := 0, latch := false, timer := (s.loop n).cfg.tcyc }) ∧
    (∀ n, t.heater n = { s.heater n with
      cls := (t.heater n).cls, locked := (t.heater n).locked
      grant := 0, assigned := 0, delivered := 0, starve := 0, starved := false, output := false }) ∧
    (∀ n, n ≠ 15 → (t.heater n).locked = (s.heater n).locked) ∧
    ((s.heater 15).locked = s.dish.valveOpen → (t.heater 15).locked = false) ∧
    (WavesApart s.part → (∀ n, (s.heater (ovenLoop n)).cls = .service →
        ∃ w v, s.wave w = some v ∧ v.state ≠ .planned ∧ v.state ≠ .closed ∧ n ∈ v.ovens) →
      ∀ n, (s.heater (ovenLoop n)).cls ≠ .sanitise → (t.heater (ovenLoop n)).cls = .standby) ∧
    (∀ n, (t.heater (cabinetLoop n)).cls =
      if (s.cabinet n).mode = .service then .standby else (s.heater (cabinetLoop n)).cls) ∧
    (∀ n : Fin 16, 14 ≤ n.val → (t.heater n).cls = (s.heater n).cls) ∧
    t.part.feeder = { s.part.feeder with
      heaters := t.part.feeder.heaters, grantedTotal := 0, deliveredTotal := 0, pending := false
      reducedAck := s.part.asserted .feederReduce && decide (s.part.feeder.applied = s.part.feeder.reduced) } ∧
    (∀ n, t.oven n = { s.oven n with
      state := .idle
      outcome := if (s.oven n).state = .idle ∨ (s.oven n).state = .finished then (s.oven n).outcome else .aborted }) ∧
    (∀ n, t.cabinet n = { s.cabinet n with mode := .off, waveSlot := none, waveSet := false }) ∧
    (∀ kind, t.stockOf kind = { s.stockOf kind with
      tunnel := (s.stockOf kind).tunnel - s.dish.plates kind
      soiled := (s.stockOf kind).soiled + s.dish.plates kind }) ∧
    t.dish = { s.dish with
      state := .off, reasons := { door := false, overload := false, lost := false, trip := false }, conveyor := false
      gateOpen := false, valveOpen := false, declared := [], lastEntry := none, coldTimer := 0, washCold := false
      rinseFail := false, queue := [], ring := t.dish.ring, overwrites := t.dish.overwrites } ∧
    (s.dish.ring.length ≤ 64 →
      let removed (r : Rack) : Rack := { r with outcome := some .unverified, removal := some s.part.uptime }
      let all := s.dish.ring ++ s.dish.queue.map removed
      t.dish.ring = all.drop (all.length - 64) ∧
      (s.dish.overwrites ≤ 65535 →
        t.dish.overwrites = min 65535 (s.dish.overwrites + (all.length - 64)))) ∧
    (∀ w, t.wave w = none) ∧
    (∀ i, i ≠ hoodTripSlot → i ≠ overloadSlot → i ≠ unansweredSlot →
      t.slot i = { state := .normal, count := 0, first := 0, last := 0, param := 0 }) ∧
    t.slot hoodTripSlot = (if s.part.interlock.trip
      then { state := .active, count := 1, first := s.part.uptime, last := s.part.uptime, param := 0 }
      else { state := .normal, count := 0, first := 0, last := 0, param := 0 }) ∧
    t.slot overloadSlot = (if s.part.asserted .conveyorOverload
      then { state := .active, count := 1, first := s.part.uptime, last := s.part.uptime, param := 0 }
      else { state := .normal, count := 0, first := 0, last := 0, param := 0 }) ∧
    t.pager.routes = s.pager.routes ∧ t.pager.backoff = s.pager.backoff ∧ t.pager.rx = s.pager.rx ∧
    (∀ e, t.pager.directory.get e = { s.pager.directory.get e with outstanding := 0 }) ∧
    (∀ g, t.pager.groups.get g = { s.pager.groups.get g with pointer := (t.pager.groups.get g).pointer }) ∧
    (∃ g, raisedAgain s.part.interlock.trip hoodTripSlot 11 t
        { s.pager with directory := t.pager.directory, queue := [], outcomes := [], port := .idle } g ∧
      raisedAgain (s.part.asserted .conveyorOverload) overloadSlot 12 t g t.pager) ∧
    (s.part.interlock.trip = false → s.part.asserted .conveyorOverload = false →
      t.pager = { s.pager with directory := t.pager.directory, queue := [], outcomes := [], port := .idle } ∧
      t.slot unansweredSlot = { state := .normal, count := 0, first := 0, last := 0, param := 0 })

/-! ## Reads -/

/-- A request that reads: its reply says OK with the pieces given, and nothing else changes. -/
def Sys2Proof.Machine.answers (i : Instr) (kind tag : Byte) (pieces : List (List Byte)) (s : State) : Prop :=
  exec i s = .next (s.answer kind tag (s.part, { status := .ok, pieces }))

/-- A request refused: its reply says so, and nothing else changes. -/
def Sys2Proof.Machine.refuses (i : Instr) (kind tag : Byte) (status : Status) (s : State) : Prop :=
  exec i s = .next (s.answer kind tag (s.part, { status }))

/-! The layouts of the longer records, written out from R194 and the rule of each read. -/

/-- A source: its type, then what it names (R194). -/
def Sys2Proof.Machine.sourceLayout : Source → List Byte
  | .slot i => [0, BitVec.ofNat 8 i.val]
  | .oven n => [1, BitVec.ofNat 8 n.val]
  | .wave w => [2, BitVec.ofNat 8 w.val]
  | .cabinet n => [3, BitVec.ofNat 8 n.val]
  | .host tag => [4, tag]

/-- A page record, field by field in the order of section 9.2, each absent field behind its presence byte (R174,
R194). -/
def Sys2Proof.Machine.pageLayout (g : Page) : List Byte :=
  bytes16 g.id ++ sourceLayout g.source ++ u8 g.group.val ++ u8 g.current.val ++ u8 g.priority.val ++ [g.code] ++
    bytes16 g.param ++ (match g.state with | .queued => [0] | .onAir => [1] | .awaiting => [2]) ++ u8 g.attempts ++
    u8 g.tried.length ++ g.tried.flatMap (fun e => u8 e.val) ++
    (match g.target with | some e => 1 :: u8 e.val | none => [0, 0]) ++ flag g.broadcast ++ flag g.escalated ++
    (match g.deadline with | some due => 1 :: bytes32 due | none => [0, 0, 0, 0, 0]) ++ flag g.declineMark ++
    flag g.cancelMark

/-- A rack record, in the order of section 6.2; a rack of no kind is coded 0xFF (R123, R194). -/
def Sys2Proof.Machine.rackLayout (r : Rack) : List Byte :=
  bytes16 r.number ++ (match r.kind with | some k => u8 k.val | none => [0xFF]) ++ u8 r.count ++ bytes32 r.entry ++
    (match r.interval with | some gap => 1 :: bytes32 gap | none => [0, 0, 0, 0, 0]) ++ u16 r.position ++
    (match r.washMin with | some low => 1 :: s16 low | none => [0, 0, 0]) ++ u16 r.dose ++
    (match r.outcome with
      | some .passed => [1, 0] | some .failedDose => [1, 1] | some .failedWash => [1, 2] | some .lost => [1, 3]
      | some .unverified => [1, 4] | none => [0, 0]) ++
    (match r.removal with | some uptime => 1 :: bytes32 uptime | none => [0, 0, 0, 0, 0])

/-- READ DISH's fields ahead of the declarations, the rack length 500 last of the configuration (R123; log entry 12).
-/
def Sys2Proof.Machine.dishLayout (d : Dish) : List Byte :=
  u16 d.cfg.washSp ++ u16 d.cfg.washMin ++ u16 d.cfg.boosterSp ++ u16 d.cfg.rinseReady ++ u16 d.cfg.dose ++
    u16 d.cfg.tunnelLength ++ u16 d.cfg.washStart ++ u16 d.cfg.washEnd ++ u16 d.cfg.rinseStart ++ u16 d.cfg.rinseEnd ++
    u16 d.cfg.exitTolerance ++ u16 500 ++
    (match d.state with | .off => [0] | .warming => [1] | .ready => [2] | .running => [3] | .held => [4]) ++
    u8 ((if d.reasons.door then 1 else 0) + (if d.reasons.overload then 2 else 0) + (if d.reasons.lost then 4 else 0) +
      (if d.reasons.trip then 8 else 0)) ++
    flag d.tankWarm ++ flag d.boosterHot ++ u8 d.coldTimer ++ flag d.washCold ++ flag d.rinseFail ++ flag d.conveyor ++
    flag d.gateOpen ++ flag d.valveOpen ++ bytes16 d.rackCounter ++
    (match d.lastEntry with | some last => 1 :: bytes32 last | none => [0, 0, 0, 0, 0])

/-- A wave slot of READ WAVES: the state, then number, ballroom code and countdown or their absence (R142; log entry
12). -/
def Sys2Proof.Machine.waveSlotLayout : Option Wave → List Byte
  | some v => u8 v.state.code ++ [1, v.number] ++ 1 :: u8 v.ballroom ++ 1 :: u32 v.due
  | none => [0, 0, 0, 0, 0, 0, 0, 0, 0, 0]

/-- A step of READ PROGRAM: kind, setpoint, duration, core target, which is zeros for a TIMED step (R63, R194; log
entry 24). -/
def Sys2Proof.Machine.stepLayout : Step → List Byte
  | .timed setpoint duration => 0 :: u16 setpoint ++ u16 duration ++ [0, 0]
  | .core setpoint duration target => 1 :: u16 setpoint ++ u16 duration ++ u16 target

/-- A condition slot: number, kind, state, count, first and last uptime, parameter (R153). -/
def Sys2Proof.Machine.slotLayout (i : Fin 87) (c : Slot) : List Byte :=
  u8 i.val ++ u8 (slotKind i).val ++
    (match c.state with | .normal => [0] | .active => [1] | .acked => [2] | .returned => [3]) ++ [c.count] ++
    bytes32 c.first ++ bytes32 c.last ++ bytes16 c.param

/-- R39, R57, R58, R63, R78, R96, R123, R142, R153, R174, R184: each read answers OK with its fields in the order of
its rule, as R194 lays them out, and changes nothing but the control link; an index outside its range is refused with
RANGE. The model's choices among them: which lists carry a count byte, READ GROUP's 0xFF for no escalation group, READ
WAVES' presence bytes and READ DISH's rack length (log entry 12), READ PAGES' latches (22), a TIMED step's zeros (24),
D and u_last beyond 32 bits (34), an asserted line as 1 (36), the hysteresis in one byte (37), READ INTERLOCKS' inputs
in the order of section 10.1 (38), an open gate or valve as 1 in READ DISH (39), READ RADIO's three presence bytes
(40). -/
def Obligations.ReadsAnswerTheirRecords : Prop :=
  (∀ (s : State) (tag b : Byte),
    let slotFields (i : Fin 87) : List Byte := slotLayout i (s.slot i)
    (∀ n : Fin 16, n.val = b.toNat →
      let l := s.loop n
      let g := l.cfg
      let h := s.heater n
      let program := s.part.programs.get n
      let running := ((List.finRange 6).filter fun x => (s.oven x).runs n).length
      let r := s.pager.routes.get n
      answers (.readLoop tag b) 0x20 tag
        [u8 l.mode.code ++ u8 l.base.code ++ flag l.inhibit ++ flag l.chFault ++ s16 l.sp ++ s16 l.spf ++ u16 l.demand ++
          s32 l.uLast ++ s32 l.integ ++ s32 l.deriv ++ u16 l.manOut ++ s16 l.ramp ++ u16 l.grant ++
          bytes32 l.grantRound ++ bytes32 l.usedRound ++ flag l.latch ++ u16 g.tcyc ++ u32 g.kc ++ u32 g.ti ++
          u32 g.td ++ u8 g.b ++ u8 g.c ++ u8 g.n ++ u16 g.a ++ u16 g.w ++ u16 g.satLow ++ u16 g.satHigh ++
          u16 g.maxSetpoint ++ u16 g.highLimit ++ u8 g.hysteresis] s ∧
      answers (.readHeater tag b) 0x32 tag
        [u8 n.val ++ u16 h.rated ++ u8 h.cls.code ++ u16 l.demand ++ u16 h.grant ++ bytes32 h.grantRound ++
          u16 h.delivered ++ u16 h.starve ++ flag h.starved ++ flag h.locked] s ∧
      answers (.readProgram tag b) 0x41 tag
        (listPieces (program.steps.map stepLayout) ++ [u16 program.hold ++ u16 program.band ++ u8 running]) s ∧
      answers (.readRoute tag b) 0x9B tag [flag r.enabled ++ u8 r.group.val ++ u8 r.priority.val ++ [r.code]] s) ∧
    (16 ≤ b.toNat → refuses (.readLoop tag b) 0x20 tag .range s ∧ refuses (.readHeater tag b) 0x32 tag .range s ∧
      refuses (.readProgram tag b) 0x41 tag .range s ∧ refuses (.readRoute tag b) 0x9B tag .range s) ∧
    (∀ n : Fin 6, n.val = b.toNat →
      let o := s.oven n
      let shown := (s.part.programs.get o.program).steps[o.step - 1]?
      let runs := (o.state = .preheating ∨ o.state = .cooking) ∧ 1 ≤ o.step
      let fields (setpoint target : Option Nat) : List (List Byte) :=
        [u8 o.state.code ++ u8 o.program.val ++ u8 o.step ++ u16 o.elapsed ++ u8 o.stepEnd.code ++ flag (!o.doorOpen) ++
          bytes32 o.start ++ u8 o.outcome.code ++ optField 2 u16 setpoint ++ optField 2 u16 target]
      (¬ runs ∨ shown = none → answers (.readOven tag b) 0x46 tag (fields none none) s) ∧
      (∀ setpoint duration, runs → shown = some (.timed setpoint duration) →
        answers (.readOven tag b) 0x46 tag (fields (some setpoint) none) s) ∧
      ∀ setpoint duration target, runs → shown = some (.core setpoint duration target) →
        answers (.readOven tag b) 0x46 tag (fields (some setpoint) (some target)) s) ∧
    (6 ≤ b.toNat → refuses (.readOven tag b) 0x46 tag .range s) ∧
    (∀ n : Fin 8, n.val = b.toNat →
      let c := s.cabinet n
      let g := s.pager.groups.get n
      answers (.readCabinet tag b) 0x58 tag
        ((u8 c.kind.val ++ u16 c.capacity ++ u16 c.standbySp ++ u16 c.serviceSp ++ u16 c.readyTemp ++ u16 c.warmTime ++
          u16 c.lowMark ++ u8 c.mode.code ++ optField 1 (fun w : Fin 12 => u8 w.val) c.waveSlot ++ flag c.waveSet ++
          u16 c.held ++ u16 c.ready) ::
            listPieces (c.batches.map fun x =>
              u16 x.count ++ bytes32 x.load ++ u16 x.dwell ++ flag (decide (c.warmTime ≤ x.dwell)))) s ∧
      answers (.readGroup tag b) 0x9A tag
        [u8 (match g.escalation with | some e => e.val | none => 255) ++ u8 g.limit ++ u16 g.timeout ++
          u8 g.pointer.val] s) ∧
    (8 ≤ b.toNat → refuses (.readCabinet tag b) 0x58 tag .range s ∧ refuses (.readGroup tag b) 0x9A tag .range s) ∧
    (∀ k : Fin 4, k.val = b.toNat →
      let t := s.stockOf k
      answers (.readStock tag b) 0x59 tag
        [u16 t.total ++ u16 t.soiled ++ u16 t.tunnel ++ u16 t.clean ++ u16 t.issued ++ u16 (s.part.heldOfKind k)] s) ∧
    (4 ≤ b.toNat → refuses (.readStock tag b) 0x59 tag .range s) ∧
    (∀ i : Fin 87, i.val = b.toNat → answers (.readCondition tag b) 0x81 tag [slotFields i] s) ∧
    (87 ≤ b.toNat → refuses (.readCondition tag b) 0x81 tag .range s) ∧
    (∀ e : Fin 64, e.val = b.toNat →
      let g := s.pager.directory.get e
      answers (.readPager tag b) 0x99 tag [u16 g.address ++ [g.groups] ++ flag g.duty ++ u8 g.outstanding] s) ∧
    (64 ≤ b.toNat → refuses (.readPager tag b) 0x99 tag .range s)) ∧
  (∀ (s : State) (tag first count : Byte),
    (1 ≤ count.toNat → first.toNat + count.toNat ≤ 87 →
      let slotFields (i : Fin 87) : List Byte := slotLayout i (s.slot i)
      let slots := (List.finRange 87).filter fun i =>
        decide (first.toNat ≤ i.val) && decide (i.val < first.toNat + count.toNat)
      answers (.readConditions tag first count) 0x82 tag (listPieces (slots.map slotFields)) s) ∧
    (count.toNat = 0 ∨ 87 < first.toNat + count.toNat →
      refuses (.readConditions tag first count) 0x82 tag .range s)) ∧
  (∀ (s : State) (tag slot number : Byte) (w : Fin 12), w.val = slot.toNat → number.toNat ≠ 0 →
    ∀ v, s.wave w = some v → v.number = number →
    let potential := (v.cabinets.map fun n => (s.cabinet n).held).sum + (s.stockOf v.kind).clean
    let done := (v.ovens.filter fun n =>
      decide ((s.oven n).state = .holding) || decide ((s.oven n).state = .finished)).length
    answers (.readWave tag slot number) 0x75 tag
      [u8 v.state.code ++ [v.number] ++ u8 v.ballroom ++ u16 v.covers ++ u8 v.kind.val ++ u8 v.cabinets.length ++
        v.cabinets.flatMap (fun n => u8 n.val) ++ u8 v.ovens.length ++ v.ovens.flatMap (fun n => u8 n.val) ++
        u32 v.due ++ u16 v.lead ++ u16 v.issued ++ flag v.readyLate ++ flag v.short ++ flag v.late ++ u32 potential ++
        u16 (v.covers - v.issued) ++ u16 ((v.cabinets.map fun n => (s.cabinet n).ready).sum) ++ u8 done] s) ∧
  ∀ (s : State) (tag : Byte),
    let f := s.part.feeder
    let d := s.dish
    let g := s.pager
    let port := match g.port with
      | .sending id sent repeated => u8 1 ++ [1] ++ bytes16 id ++ [1, sent] ++ [1] ++ flag repeated
      | .idle => u8 0 ++ [0, 0, 0, 0, 0, 0, 0]
      | .waiting => u8 2 ++ [0, 0, 0, 0, 0, 0, 0]
      | .down => u8 3 ++ [0, 0, 0, 0, 0, 0, 0]
    let slots := (List.finRange 87).filter fun i => (s.slot i).pending
    let lines := (List.finRange 12).map fun i => (s.part.interlock.lines.get i).filtered
    let heaters := (List.finRange 16).map fun n => (s.heater n).output && s.part.interlock.driveEnable
    answers (.readFeeder tag) 0x33 tag
      [u32 f.limit ++ u32 f.reduced ++ u16 f.starveTime ++ flag (s.part.asserted .feederReduce) ++ u32 f.requested ++
        u32 f.applied ++ flag f.pending ++ flag f.reducedAck ++ flag (s.heater 15).locked ++ bytes32 f.round ++
        u32 f.grantedTotal ++ u32 f.deliveredTotal] s ∧
    answers (.readDish tag) 0x68 tag
      (dishLayout d :: (listPieces (d.declared.map fun a => u8 a.kind.val ++ u8 a.count) ++
        [u8 d.queue.length ++ u8 d.ring.length ++ u16 d.overwrites])) s ∧
    answers (.readTunnel tag) 0x69 tag (listPieces (d.queue.map rackLayout)) s ∧
    answers (.readWaves tag) 0x76 tag ((List.finRange 12).map fun w => waveSlotLayout (s.wave w)) s ∧
    answers (.readPending tag) 0x83 tag
      (listPieces (slots.map fun i => u8 i.val ++ u8 (s.slot i).state.code ++ [(s.slot i).count])) s ∧
    answers (.readPages tag) 0x98 tag
      (listPieces (g.queue.map pageLayout) ++ listPieces (g.queue.filterMap fun page =>
        page.latch.map fun param => sourceLayout page.source ++ bytes16 param)) s ∧
    answers (.readRadio tag) 0x9C tag [port ++ u16 g.backoff ++ bytes16 g.pageCounter] s ∧
    answers (.readInterlocks tag) 0xA1 tag
      [lines.flatMap flag ++ flag s.part.interlock.trip ++
        (heaters ++ [d.conveyor, d.valveOpen, d.gateOpen, f.reducedAck]).flatMap flag ++
        bytes32 s.part.interlock.travel] s
end

