-- ==== Sys2Proof/Laws/Table.lean ====
section
/-!
SUPPORT. Laws of tables of fixed length, of clamping and of truncating division.
-/

namespace Sys2Proof

namespace Table

variable {α β : Type} {n : Nat}

@[simp] theorem get_set_self (t : Table α n) (i : Fin n) (a : α) : (t.set i a).get i = a := by
  simp [get, set]

theorem get_set_ne (t : Table α n) {i j : Fin n} (a : α) (h : j ≠ i) : (t.set i a).get j = t.get j := by
  have : i.val ≠ j.val := fun e => h (Fin.ext e.symm)
  simp [get, set, List.getElem_set_ne this]

theorem get_set (t : Table α n) (i j : Fin n) (a : α) : (t.set i a).get j = if j = i then a else t.get j := by
  by_cases h : j = i
  · subst h
    simp
  · simp [h, get_set_ne t a h]

@[simp] theorem get_ofFn (f : Fin n → α) (i : Fin n) : (ofFn f).get i = f i := by
  simp [get, ofFn]

@[simp] theorem get_map (f : α → β) (t : Table α n) (i : Fin n) : (t.map f).get i = f (t.get i) := by
  simp [get, map]

/-- Two tables with the same record at every index are the same. -/
theorem ext_get {t u : Table α n} (h : ∀ i, t.get i = u.get i) : t = u := by
  obtain ⟨xs, hx⟩ := t
  obtain ⟨ys, hy⟩ := u
  have : xs = ys := by
    apply List.ext_getElem (by rw [hx, hy])
    intro i h1 h2
    exact h ⟨i, by rw [← hx]; exact h1⟩
  subst this
  rfl

@[simp] theorem set_get_self (t : Table α n) (i : Fin n) : t.set i (t.get i) = t := by
  apply ext_get
  intro j
  rw [get_set]
  split
  · next h => rw [h]
  · rfl

@[simp] theorem set_set (t : Table α n) (i : Fin n) (a b : α) : (t.set i a).set i b = t.set i b := by
  apply ext_get
  intro j
  simp only [get_set]
  split <;> rfl

/-- The records of a table, in order, are those at its indexes. -/
theorem items_eq_map_get (t : Table α n) : t.items = (List.finRange n).map t.get := by
  apply List.ext_getElem
  · simp [t.size]
  · intro i h1 h2
    simp [get]

theorem mem_items_iff (t : Table α n) (a : α) : a ∈ t.items ↔ ∃ i, t.get i = a := by
  rw [items_eq_map_get]
  simp

end Table

/-! ## Clamping and division -/

theorem le_clamp {lo hi x : Int} (h : lo ≤ hi) : lo ≤ clamp lo hi x := by
  unfold clamp
  split
  · exact le_refl lo
  · split
    · exact h
    · omega

theorem clamp_le {lo hi x : Int} (h : lo ≤ hi) : clamp lo hi x ≤ hi := by
  unfold clamp
  split
  · exact h
  · split
    · exact le_refl hi
    · omega

theorem clamp_of_within {lo hi x : Int} (h1 : lo ≤ x) (h2 : x ≤ hi) : clamp lo hi x = x := by
  unfold clamp
  rw [if_neg (by omega), if_neg (by omega)]

end Sys2Proof
end

