-- ==== Sys2Proof/Laws/State.lean ====
section
/-!
SUPPORT. What each update leaves alone and what it writes, one lemma per field.
-/

namespace Sys2Proof.Machine

/-! ## The desk -/

section Desk

variable (d : Desk)

@[simp] theorem Desk.mark_conds (c : MarkClass) (i : Nat) : (d.mark c i).conds = d.conds := rfl
@[simp] theorem Desk.mark_pager (c : MarkClass) (i : Nat) : (d.mark c i).pager = d.pager := rfl
@[simp] theorem Desk.mark_link (c : MarkClass) (i : Nat) : (d.mark c i).link = d.link.mark c i := rfl
@[simp] theorem Desk.onPager_conds (f : Pager → Pager) : (d.onPager f).conds = d.conds := rfl
@[simp] theorem Desk.onPager_pager (f : Pager → Pager) : (d.onPager f).pager = f d.pager := rfl
@[simp] theorem Desk.onPager_link (f : Pager → Pager) : (d.onPager f).link = d.link := rfl
@[simp] theorem Desk.updatePage_conds (id : Half) (f : Page → Page) : (d.updatePage id f).conds = d.conds := rfl
@[simp] theorem Desk.updatePage_link (id : Half) (f : Page → Page) : (d.updatePage id f).link = d.link := rfl
@[simp] theorem Desk.setPort_conds (port : Port) : (d.setPort port).conds = d.conds := rfl
@[simp] theorem Desk.setPort_link (port : Port) : (d.setPort port).link = d.link := rfl
@[simp] theorem Desk.record_conds (r : OutcomeRecord) : (d.record r).conds = d.conds := rfl
@[simp] theorem Desk.record_link (r : OutcomeRecord) : (d.record r).link = d.link.mark .outcomes 0 := rfl

@[simp] theorem Desk.setSlot_pager (slot : Fin 87) (c : Slot) : (d.setSlot slot c).pager = d.pager := by
  unfold Desk.setSlot
  split <;> rfl

@[simp] theorem Desk.setSlot_conds (slot : Fin 87) (c : Slot) : (d.setSlot slot c).conds = d.conds.set slot c := by
  unfold Desk.setSlot
  split
  · next h => rw [h, Table.set_get_self]
  · rfl

theorem Desk.setSlot_link (slot : Fin 87) (c : Slot) :
    (d.setSlot slot c).link = if c = d.conds.get slot then d.link else d.link.mark .condition slot.val := by
  unfold Desk.setSlot
  split <;> rfl

end Desk

/-! ## The link -/

section Link

variable (k : Link)

@[simp] theorem Link.judgeAttention_rx : k.judgeAttention.rx = k.rx := by
  unfold Link.judgeAttention
  split <;> rfl

@[simp] theorem Link.judgeAttention_buffers : k.judgeAttention.buffers = k.buffers := by
  unfold Link.judgeAttention
  split <;> rfl

@[simp] theorem Link.judgeAttention_replies : k.judgeAttention.replies = k.replies := by
  unfold Link.judgeAttention
  split <;> rfl

@[simp] theorem Link.judgeAttention_tx : k.judgeAttention.tx = k.tx := by
  unfold Link.judgeAttention
  split <;> rfl

@[simp] theorem Link.judgeAttention_changeSet : k.judgeAttention.changeSet = k.changeSet := by
  unfold Link.judgeAttention
  split <;> rfl

@[simp] theorem Link.mark_rx (c : MarkClass) (i : Nat) : (k.mark c i).rx = k.rx := by
  unfold Link.mark
  split <;> simp

@[simp] theorem Link.mark_buffers (c : MarkClass) (i : Nat) : (k.mark c i).buffers = k.buffers := by
  unfold Link.mark
  split <;> simp

@[simp] theorem Link.mark_replies (c : MarkClass) (i : Nat) : (k.mark c i).replies = k.replies := by
  unfold Link.mark
  split <;> simp

@[simp] theorem Link.mark_tx (c : MarkClass) (i : Nat) : (k.mark c i).tx = k.tx := by
  unfold Link.mark
  split <;> simp

/-- A mark that is held keeps its place; one that is not joins at the newest end (R189). -/
theorem Link.mark_changeSet (c : MarkClass) (i : Nat) :
    (k.mark c i).changeSet = if Mark.mk c i ∈ k.changeSet then k.changeSet else k.changeSet ++ [Mark.mk c i] := by
  unfold Link.mark
  split <;> simp

/-- A mark set stands in the change set. -/
theorem Link.mem_mark_changeSet (c : MarkClass) (i : Nat) : Mark.mk c i ∈ (k.mark c i).changeSet := by
  rw [Link.mark_changeSet]
  split
  · assumption
  · simp

/-- A mark takes none away. -/
theorem Link.changeSet_subset_mark (c : MarkClass) (i : Nat) : k.changeSet ⊆ (k.mark c i).changeSet := by
  intro m h
  rw [Link.mark_changeSet]
  split
  · exact h
  · simp [h]

@[simp] theorem Link.kick_rx : k.kick.rx = k.rx := by
  unfold Link.kick
  split <;> (try split) <;> (try split) <;> rfl

@[simp] theorem Link.kick_buffers : k.kick.buffers = k.buffers := by
  unfold Link.kick
  split <;> (try split) <;> (try split) <;> rfl

@[simp] theorem Link.kick_replies : k.kick.replies = k.replies := by
  unfold Link.kick
  split <;> (try split) <;> (try split) <;> rfl

@[simp] theorem Link.kick_changeSet : k.kick.changeSet = k.changeSet := by
  unfold Link.kick
  split <;> (try split) <;> (try split) <;> rfl

@[simp] theorem Link.kick_attention : k.kick.attention = k.attention := by
  unfold Link.kick
  split <;> (try split) <;> (try split) <;> rfl

end Link

/-! ## Operations of the part that reach the desk alone -/

section OnDesk

variable (p : Part)

@[simp] theorem Part.onLink_uptime (f : Link → Link) : (p.onLink f).uptime = p.uptime := rfl
@[simp] theorem Part.onLink_scan (f : Link → Link) : (p.onLink f).scan = p.scan := rfl
@[simp] theorem Part.onLink_loops (f : Link → Link) : (p.onLink f).loops = p.loops := rfl
@[simp] theorem Part.onLink_feeder (f : Link → Link) : (p.onLink f).feeder = p.feeder := rfl
@[simp] theorem Part.onLink_programs (f : Link → Link) : (p.onLink f).programs = p.programs := rfl
@[simp] theorem Part.onLink_ovens (f : Link → Link) : (p.onLink f).ovens = p.ovens := rfl
@[simp] theorem Part.onLink_cabinets (f : Link → Link) : (p.onLink f).cabinets = p.cabinets := rfl
@[simp] theorem Part.onLink_stock (f : Link → Link) : (p.onLink f).stock = p.stock := rfl
@[simp] theorem Part.onLink_dish (f : Link → Link) : (p.onLink f).dish = p.dish := rfl
@[simp] theorem Part.onLink_waves (f : Link → Link) : (p.onLink f).waves = p.waves := rfl
@[simp] theorem Part.onLink_interlock (f : Link → Link) : (p.onLink f).interlock = p.interlock := rfl
@[simp] theorem Part.onLink_justClosed (f : Link → Link) : (p.onLink f).justClosed = p.justClosed := rfl
@[simp] theorem Part.mark_uptime (c : MarkClass) (i : Nat) : (p.mark c i).uptime = p.uptime := rfl
@[simp] theorem Part.mark_scan (c : MarkClass) (i : Nat) : (p.mark c i).scan = p.scan := rfl
@[simp] theorem Part.mark_loops (c : MarkClass) (i : Nat) : (p.mark c i).loops = p.loops := rfl
@[simp] theorem Part.mark_feeder (c : MarkClass) (i : Nat) : (p.mark c i).feeder = p.feeder := rfl
@[simp] theorem Part.mark_programs (c : MarkClass) (i : Nat) : (p.mark c i).programs = p.programs := rfl
@[simp] theorem Part.mark_ovens (c : MarkClass) (i : Nat) : (p.mark c i).ovens = p.ovens := rfl
@[simp] theorem Part.mark_cabinets (c : MarkClass) (i : Nat) : (p.mark c i).cabinets = p.cabinets := rfl
@[simp] theorem Part.mark_stock (c : MarkClass) (i : Nat) : (p.mark c i).stock = p.stock := rfl
@[simp] theorem Part.mark_dish (c : MarkClass) (i : Nat) : (p.mark c i).dish = p.dish := rfl
@[simp] theorem Part.mark_waves (c : MarkClass) (i : Nat) : (p.mark c i).waves = p.waves := rfl
@[simp] theorem Part.mark_interlock (c : MarkClass) (i : Nat) : (p.mark c i).interlock = p.interlock := rfl
@[simp] theorem Part.mark_justClosed (c : MarkClass) (i : Nat) : (p.mark c i).justClosed = p.justClosed := rfl
@[simp] theorem Part.raise_uptime (slot : Fin 87) (param : Half) : (p.raise slot param).uptime = p.uptime := rfl
@[simp] theorem Part.raise_scan (slot : Fin 87) (param : Half) : (p.raise slot param).scan = p.scan := rfl
@[simp] theorem Part.raise_loops (slot : Fin 87) (param : Half) : (p.raise slot param).loops = p.loops := rfl
@[simp] theorem Part.raise_feeder (slot : Fin 87) (param : Half) : (p.raise slot param).feeder = p.feeder := rfl
@[simp] theorem Part.raise_programs (slot : Fin 87) (param : Half) : (p.raise slot param).programs = p.programs := rfl
@[simp] theorem Part.raise_ovens (slot : Fin 87) (param : Half) : (p.raise slot param).ovens = p.ovens := rfl
@[simp] theorem Part.raise_cabinets (slot : Fin 87) (param : Half) : (p.raise slot param).cabinets = p.cabinets := rfl
@[simp] theorem Part.raise_stock (slot : Fin 87) (param : Half) : (p.raise slot param).stock = p.stock := rfl
@[simp] theorem Part.raise_dish (slot : Fin 87) (param : Half) : (p.raise slot param).dish = p.dish := rfl
@[simp] theorem Part.raise_waves (slot : Fin 87) (param : Half) : (p.raise slot param).waves = p.waves := rfl
@[simp] theorem Part.raise_interlock (slot : Fin 87) (param : Half) :
    (p.raise slot param).interlock = p.interlock := rfl
@[simp] theorem Part.raise_justClosed (slot : Fin 87) (param : Half) :
    (p.raise slot param).justClosed = p.justClosed := rfl
@[simp] theorem Part.ret_uptime (slot : Fin 87) : (p.ret slot).uptime = p.uptime := rfl
@[simp] theorem Part.ret_scan (slot : Fin 87) : (p.ret slot).scan = p.scan := rfl
@[simp] theorem Part.ret_loops (slot : Fin 87) : (p.ret slot).loops = p.loops := rfl
@[simp] theorem Part.ret_feeder (slot : Fin 87) : (p.ret slot).feeder = p.feeder := rfl
@[simp] theorem Part.ret_programs (slot : Fin 87) : (p.ret slot).programs = p.programs := rfl
@[simp] theorem Part.ret_ovens (slot : Fin 87) : (p.ret slot).ovens = p.ovens := rfl
@[simp] theorem Part.ret_cabinets (slot : Fin 87) : (p.ret slot).cabinets = p.cabinets := rfl
@[simp] theorem Part.ret_stock (slot : Fin 87) : (p.ret slot).stock = p.stock := rfl
@[simp] theorem Part.ret_dish (slot : Fin 87) : (p.ret slot).dish = p.dish := rfl
@[simp] theorem Part.ret_waves (slot : Fin 87) : (p.ret slot).waves = p.waves := rfl
@[simp] theorem Part.ret_interlock (slot : Fin 87) : (p.ret slot).interlock = p.interlock := rfl
@[simp] theorem Part.ret_justClosed (slot : Fin 87) : (p.ret slot).justClosed = p.justClosed := rfl
@[simp] theorem Part.trigger_uptime (source : Source) (param : Half) :
    (p.trigger source param).uptime = p.uptime := rfl
@[simp] theorem Part.trigger_scan (source : Source) (param : Half) : (p.trigger source param).scan = p.scan := rfl
@[simp] theorem Part.trigger_loops (source : Source) (param : Half) : (p.trigger source param).loops = p.loops := rfl
@[simp] theorem Part.trigger_feeder (source : Source) (param : Half) :
    (p.trigger source param).feeder = p.feeder := rfl
@[simp] theorem Part.trigger_programs (source : Source) (param : Half) :
    (p.trigger source param).programs = p.programs := rfl
@[simp] theorem Part.trigger_ovens (source : Source) (param : Half) : (p.trigger source param).ovens = p.ovens := rfl
@[simp] theorem Part.trigger_cabinets (source : Source) (param : Half) :
    (p.trigger source param).cabinets = p.cabinets := rfl
@[simp] theorem Part.trigger_stock (source : Source) (param : Half) : (p.trigger source param).stock = p.stock := rfl
@[simp] theorem Part.trigger_dish (source : Source) (param : Half) : (p.trigger source param).dish = p.dish := rfl
@[simp] theorem Part.trigger_waves (source : Source) (param : Half) : (p.trigger source param).waves = p.waves := rfl
@[simp] theorem Part.trigger_interlock (source : Source) (param : Half) :
    (p.trigger source param).interlock = p.interlock := rfl
@[simp] theorem Part.trigger_justClosed (source : Source) (param : Half) :
    (p.trigger source param).justClosed = p.justClosed := rfl
@[simp] theorem Part.cancelNotice_uptime (source : Source) : (p.cancelNotice source).uptime = p.uptime := rfl
@[simp] theorem Part.cancelNotice_scan (source : Source) : (p.cancelNotice source).scan = p.scan := rfl
@[simp] theorem Part.cancelNotice_loops (source : Source) : (p.cancelNotice source).loops = p.loops := rfl
@[simp] theorem Part.cancelNotice_feeder (source : Source) : (p.cancelNotice source).feeder = p.feeder := rfl
@[simp] theorem Part.cancelNotice_programs (source : Source) : (p.cancelNotice source).programs = p.programs := rfl
@[simp] theorem Part.cancelNotice_ovens (source : Source) : (p.cancelNotice source).ovens = p.ovens := rfl
@[simp] theorem Part.cancelNotice_cabinets (source : Source) : (p.cancelNotice source).cabinets = p.cabinets := rfl
@[simp] theorem Part.cancelNotice_stock (source : Source) : (p.cancelNotice source).stock = p.stock := rfl
@[simp] theorem Part.cancelNotice_dish (source : Source) : (p.cancelNotice source).dish = p.dish := rfl
@[simp] theorem Part.cancelNotice_waves (source : Source) : (p.cancelNotice source).waves = p.waves := rfl
@[simp] theorem Part.cancelNotice_interlock (source : Source) : (p.cancelNotice source).interlock = p.interlock := rfl
@[simp] theorem Part.cancelNotice_justClosed (source : Source) : (p.cancelNotice source).justClosed = p.justClosed := rfl
@[simp] theorem Part.reply_uptime (kind tag : Byte) (buffered : Bool) (a : Answer) :
    (p.reply kind tag buffered a).uptime = p.uptime := rfl
@[simp] theorem Part.reply_scan (kind tag : Byte) (buffered : Bool) (a : Answer) :
    (p.reply kind tag buffered a).scan = p.scan := rfl
@[simp] theorem Part.reply_loops (kind tag : Byte) (buffered : Bool) (a : Answer) :
    (p.reply kind tag buffered a).loops = p.loops := rfl
@[simp] theorem Part.reply_feeder (kind tag : Byte) (buffered : Bool) (a : Answer) :
    (p.reply kind tag buffered a).feeder = p.feeder := rfl
@[simp] theorem Part.reply_programs (kind tag : Byte) (buffered : Bool) (a : Answer) :
    (p.reply kind tag buffered a).programs = p.programs := rfl
@[simp] theorem Part.reply_ovens (kind tag : Byte) (buffered : Bool) (a : Answer) :
    (p.reply kind tag buffered a).ovens = p.ovens := rfl
@[simp] theorem Part.reply_cabinets (kind tag : Byte) (buffered : Bool) (a : Answer) :
    (p.reply kind tag buffered a).cabinets = p.cabinets := rfl
@[simp] theorem Part.reply_stock (kind tag : Byte) (buffered : Bool) (a : Answer) :
    (p.reply kind tag buffered a).stock = p.stock := rfl
@[simp] theorem Part.reply_dish (kind tag : Byte) (buffered : Bool) (a : Answer) :
    (p.reply kind tag buffered a).dish = p.dish := rfl
@[simp] theorem Part.reply_waves (kind tag : Byte) (buffered : Bool) (a : Answer) :
    (p.reply kind tag buffered a).waves = p.waves := rfl
@[simp] theorem Part.reply_interlock (kind tag : Byte) (buffered : Bool) (a : Answer) :
    (p.reply kind tag buffered a).interlock = p.interlock := rfl
@[simp] theorem Part.reply_justClosed (kind tag : Byte) (buffered : Bool) (a : Answer) :
    (p.reply kind tag buffered a).justClosed = p.justClosed := rfl
@[simp] theorem Part.onPager_uptime (f : Pager → Pager) : (p.onPager f).uptime = p.uptime := rfl
@[simp] theorem Part.onPager_scan (f : Pager → Pager) : (p.onPager f).scan = p.scan := rfl
@[simp] theorem Part.onPager_loops (f : Pager → Pager) : (p.onPager f).loops = p.loops := rfl
@[simp] theorem Part.onPager_feeder (f : Pager → Pager) : (p.onPager f).feeder = p.feeder := rfl
@[simp] theorem Part.onPager_programs (f : Pager → Pager) : (p.onPager f).programs = p.programs := rfl
@[simp] theorem Part.onPager_ovens (f : Pager → Pager) : (p.onPager f).ovens = p.ovens := rfl
@[simp] theorem Part.onPager_cabinets (f : Pager → Pager) : (p.onPager f).cabinets = p.cabinets := rfl
@[simp] theorem Part.onPager_stock (f : Pager → Pager) : (p.onPager f).stock = p.stock := rfl
@[simp] theorem Part.onPager_dish (f : Pager → Pager) : (p.onPager f).dish = p.dish := rfl
@[simp] theorem Part.onPager_waves (f : Pager → Pager) : (p.onPager f).waves = p.waves := rfl
@[simp] theorem Part.onPager_interlock (f : Pager → Pager) : (p.onPager f).interlock = p.interlock := rfl
@[simp] theorem Part.onPager_justClosed (f : Pager → Pager) : (p.onPager f).justClosed = p.justClosed := rfl
@[simp] theorem Part.onDesk_uptime (f : Word → Desk → Desk) : (p.onDesk f).uptime = p.uptime := rfl
@[simp] theorem Part.onDesk_scan (f : Word → Desk → Desk) : (p.onDesk f).scan = p.scan := rfl
@[simp] theorem Part.onDesk_loops (f : Word → Desk → Desk) : (p.onDesk f).loops = p.loops := rfl
@[simp] theorem Part.onDesk_feeder (f : Word → Desk → Desk) : (p.onDesk f).feeder = p.feeder := rfl
@[simp] theorem Part.onDesk_programs (f : Word → Desk → Desk) : (p.onDesk f).programs = p.programs := rfl
@[simp] theorem Part.onDesk_ovens (f : Word → Desk → Desk) : (p.onDesk f).ovens = p.ovens := rfl
@[simp] theorem Part.onDesk_cabinets (f : Word → Desk → Desk) : (p.onDesk f).cabinets = p.cabinets := rfl
@[simp] theorem Part.onDesk_stock (f : Word → Desk → Desk) : (p.onDesk f).stock = p.stock := rfl
@[simp] theorem Part.onDesk_dish (f : Word → Desk → Desk) : (p.onDesk f).dish = p.dish := rfl
@[simp] theorem Part.onDesk_waves (f : Word → Desk → Desk) : (p.onDesk f).waves = p.waves := rfl
@[simp] theorem Part.onDesk_interlock (f : Word → Desk → Desk) : (p.onDesk f).interlock = p.interlock := rfl
@[simp] theorem Part.onDesk_justClosed (f : Word → Desk → Desk) : (p.onDesk f).justClosed = p.justClosed := rfl

@[simp] theorem Part.onLink_conds (f : Link → Link) : (p.onLink f).desk.conds = p.desk.conds := rfl
@[simp] theorem Part.onLink_pager (f : Link → Link) : (p.onLink f).desk.pager = p.desk.pager := rfl
@[simp] theorem Part.onLink_link (f : Link → Link) : (p.onLink f).desk.link = f p.desk.link := rfl
@[simp] theorem Part.mark_desk (c : MarkClass) (i : Nat) : (p.mark c i).desk = p.desk.mark c i := rfl
@[simp] theorem Part.raise_desk (slot : Fin 87) (param : Half) :
    (p.raise slot param).desk = p.desk.raise p.uptime slot param := rfl
@[simp] theorem Part.ret_desk (slot : Fin 87) : (p.ret slot).desk = p.desk.ret slot := rfl
@[simp] theorem Part.trigger_desk (source : Source) (param : Half) :
    (p.trigger source param).desk = p.desk.trigger p.uptime source param := rfl
@[simp] theorem Part.cancelNotice_desk (source : Source) :
    (p.cancelNotice source).desk = p.desk.cancelNotice p.uptime source := rfl
@[simp] theorem Part.reply_conds (kind tag : Byte) (buffered : Bool) (a : Answer) :
    (p.reply kind tag buffered a).desk.conds = p.desk.conds := rfl
@[simp] theorem Part.reply_pager (kind tag : Byte) (buffered : Bool) (a : Answer) :
    (p.reply kind tag buffered a).desk.pager = p.desk.pager := rfl
@[simp] theorem Part.onPager_desk (f : Pager → Pager) : (p.onPager f).desk = p.desk.onPager f := rfl
@[simp] theorem Part.onDesk_desk (f : Word → Desk → Desk) : (p.onDesk f).desk = f p.uptime p.desk := rfl

end OnDesk

/-! ## Records replaced -/

section Records

variable (p : Part)

@[simp] theorem Part.setLine_uptime (line : Line) (l : LineState) : (p.setLine line l).uptime = p.uptime := rfl
@[simp] theorem Part.setLine_scan (line : Line) (l : LineState) : (p.setLine line l).scan = p.scan := rfl
@[simp] theorem Part.setLine_loops (line : Line) (l : LineState) : (p.setLine line l).loops = p.loops := rfl
@[simp] theorem Part.setLine_feeder (line : Line) (l : LineState) : (p.setLine line l).feeder = p.feeder := rfl
@[simp] theorem Part.setLine_programs (line : Line) (l : LineState) : (p.setLine line l).programs = p.programs := rfl
@[simp] theorem Part.setLine_ovens (line : Line) (l : LineState) : (p.setLine line l).ovens = p.ovens := rfl
@[simp] theorem Part.setLine_cabinets (line : Line) (l : LineState) : (p.setLine line l).cabinets = p.cabinets := rfl
@[simp] theorem Part.setLine_stock (line : Line) (l : LineState) : (p.setLine line l).stock = p.stock := rfl
@[simp] theorem Part.setLine_dish (line : Line) (l : LineState) : (p.setLine line l).dish = p.dish := rfl
@[simp] theorem Part.setLine_waves (line : Line) (l : LineState) : (p.setLine line l).waves = p.waves := rfl
@[simp] theorem Part.setLine_desk (line : Line) (l : LineState) : (p.setLine line l).desk = p.desk := rfl
@[simp] theorem Part.putEntry_uptime (ch : Fin 23) (e : Entry) : (p.putEntry ch e).uptime = p.uptime := rfl
@[simp] theorem Part.putEntry_loops (ch : Fin 23) (e : Entry) : (p.putEntry ch e).loops = p.loops := rfl
@[simp] theorem Part.putEntry_feeder (ch : Fin 23) (e : Entry) : (p.putEntry ch e).feeder = p.feeder := rfl
@[simp] theorem Part.putEntry_programs (ch : Fin 23) (e : Entry) : (p.putEntry ch e).programs = p.programs := rfl
@[simp] theorem Part.putEntry_ovens (ch : Fin 23) (e : Entry) : (p.putEntry ch e).ovens = p.ovens := rfl
@[simp] theorem Part.putEntry_cabinets (ch : Fin 23) (e : Entry) : (p.putEntry ch e).cabinets = p.cabinets := rfl
@[simp] theorem Part.putEntry_stock (ch : Fin 23) (e : Entry) : (p.putEntry ch e).stock = p.stock := rfl
@[simp] theorem Part.putEntry_dish (ch : Fin 23) (e : Entry) : (p.putEntry ch e).dish = p.dish := rfl
@[simp] theorem Part.putEntry_waves (ch : Fin 23) (e : Entry) : (p.putEntry ch e).waves = p.waves := rfl
@[simp] theorem Part.putEntry_interlock (ch : Fin 23) (e : Entry) : (p.putEntry ch e).interlock = p.interlock := rfl
@[simp] theorem Part.setLine_justClosed (line : Line) (l : LineState) : (p.setLine line l).justClosed = p.justClosed :=
  rfl
@[simp] theorem Part.putEntry_justClosed (ch : Fin 23) (e : Entry) : (p.putEntry ch e).justClosed = p.justClosed := rfl
@[simp] theorem Part.putEntry_desk (ch : Fin 23) (e : Entry) : (p.putEntry ch e).desk = p.desk := rfl
@[simp] theorem Part.putEntry_entries (ch : Fin 23) (e : Entry) :
    (p.putEntry ch e).scan.entries = p.scan.entries.set ch e := rfl
@[simp] theorem Part.putEntry_next (ch : Fin 23) (e : Entry) : (p.putEntry ch e).scan.next = p.scan.next := rfl
@[simp] theorem Part.putEntry_select (ch : Fin 23) (e : Entry) : (p.putEntry ch e).scan.select = p.scan.select := rfl
@[simp] theorem Part.setLine_lines (line : Line) (l : LineState) :
    (p.setLine line l).interlock.lines = p.interlock.lines.set (lineIndex line) l := rfl
@[simp] theorem Part.setLine_trip (line : Line) (l : LineState) : (p.setLine line l).interlock.trip = p.interlock.trip :=
  rfl

@[simp] theorem Part.setEntry_uptime (ch : Fin 23) (e : Entry) : (p.setEntry ch e).uptime = p.uptime := by
  unfold Part.setEntry
  dsimp only
  split <;> rfl

@[simp] theorem Part.setEntry_loops (ch : Fin 23) (e : Entry) : (p.setEntry ch e).loops = p.loops := by
  unfold Part.setEntry
  dsimp only
  split <;> rfl

@[simp] theorem Part.setEntry_feeder (ch : Fin 23) (e : Entry) : (p.setEntry ch e).feeder = p.feeder := by
  unfold Part.setEntry
  dsimp only
  split <;> rfl

@[simp] theorem Part.setEntry_programs (ch : Fin 23) (e : Entry) : (p.setEntry ch e).programs = p.programs := by
  unfold Part.setEntry
  dsimp only
  split <;> rfl

@[simp] theorem Part.setEntry_ovens (ch : Fin 23) (e : Entry) : (p.setEntry ch e).ovens = p.ovens := by
  unfold Part.setEntry
  dsimp only
  split <;> rfl

@[simp] theorem Part.setEntry_cabinets (ch : Fin 23) (e : Entry) : (p.setEntry ch e).cabinets = p.cabinets := by
  unfold Part.setEntry
  dsimp only
  split <;> rfl

@[simp] theorem Part.setEntry_stock (ch : Fin 23) (e : Entry) : (p.setEntry ch e).stock = p.stock := by
  unfold Part.setEntry
  dsimp only
  split <;> rfl

@[simp] theorem Part.setEntry_dish (ch : Fin 23) (e : Entry) : (p.setEntry ch e).dish = p.dish := by
  unfold Part.setEntry
  dsimp only
  split <;> rfl

@[simp] theorem Part.setEntry_waves (ch : Fin 23) (e : Entry) : (p.setEntry ch e).waves = p.waves := by
  unfold Part.setEntry
  dsimp only
  split <;> rfl

@[simp] theorem Part.setEntry_interlock (ch : Fin 23) (e : Entry) : (p.setEntry ch e).interlock = p.interlock := by
  unfold Part.setEntry
  dsimp only
  split <;> rfl

@[simp] theorem Part.setEntry_justClosed (ch : Fin 23) (e : Entry) : (p.setEntry ch e).justClosed = p.justClosed := by
  unfold Part.setEntry
  dsimp only
  split <;> rfl

@[simp] theorem Part.setEntry_conds (ch : Fin 23) (e : Entry) : (p.setEntry ch e).desk.conds = p.desk.conds := by
  unfold Part.setEntry
  dsimp only
  split <;> rfl

@[simp] theorem Part.setEntry_pager (ch : Fin 23) (e : Entry) : (p.setEntry ch e).desk.pager = p.desk.pager := by
  unfold Part.setEntry
  dsimp only
  split <;> rfl

@[simp] theorem Part.setEntry_scan (ch : Fin 23) (e : Entry) : (p.setEntry ch e).scan = { p.scan with entries := p.scan.entries.set ch e } := by
  unfold Part.setEntry
  dsimp only
  split <;> rfl

@[simp] theorem Part.setLoop_uptime (n : Fin 16) (l : Loop) : (p.setLoop n l).uptime = p.uptime := by
  unfold Part.setLoop
  dsimp only
  split <;> rfl

@[simp] theorem Part.setLoop_scan (n : Fin 16) (l : Loop) : (p.setLoop n l).scan = p.scan := by
  unfold Part.setLoop
  dsimp only
  split <;> rfl

@[simp] theorem Part.setLoop_feeder (n : Fin 16) (l : Loop) : (p.setLoop n l).feeder = p.feeder := by
  unfold Part.setLoop
  dsimp only
  split <;> rfl

@[simp] theorem Part.setLoop_programs (n : Fin 16) (l : Loop) : (p.setLoop n l).programs = p.programs := by
  unfold Part.setLoop
  dsimp only
  split <;> rfl

@[simp] theorem Part.setLoop_ovens (n : Fin 16) (l : Loop) : (p.setLoop n l).ovens = p.ovens := by
  unfold Part.setLoop
  dsimp only
  split <;> rfl

@[simp] theorem Part.setLoop_cabinets (n : Fin 16) (l : Loop) : (p.setLoop n l).cabinets = p.cabinets := by
  unfold Part.setLoop
  dsimp only
  split <;> rfl

@[simp] theorem Part.setLoop_stock (n : Fin 16) (l : Loop) : (p.setLoop n l).stock = p.stock := by
  unfold Part.setLoop
  dsimp only
  split <;> rfl

@[simp] theorem Part.setLoop_dish (n : Fin 16) (l : Loop) : (p.setLoop n l).dish = p.dish := by
  unfold Part.setLoop
  dsimp only
  split <;> rfl

@[simp] theorem Part.setLoop_waves (n : Fin 16) (l : Loop) : (p.setLoop n l).waves = p.waves := by
  unfold Part.setLoop
  dsimp only
  split <;> rfl

@[simp] theorem Part.setLoop_interlock (n : Fin 16) (l : Loop) : (p.setLoop n l).interlock = p.interlock := by
  unfold Part.setLoop
  dsimp only
  split <;> rfl

@[simp] theorem Part.setLoop_justClosed (n : Fin 16) (l : Loop) : (p.setLoop n l).justClosed = p.justClosed := by
  unfold Part.setLoop
  dsimp only
  split <;> rfl

@[simp] theorem Part.setLoop_conds (n : Fin 16) (l : Loop) : (p.setLoop n l).desk.conds = p.desk.conds := by
  unfold Part.setLoop
  dsimp only
  split <;> rfl

@[simp] theorem Part.setLoop_pager (n : Fin 16) (l : Loop) : (p.setLoop n l).desk.pager = p.desk.pager := by
  unfold Part.setLoop
  dsimp only
  split <;> rfl

@[simp] theorem Part.setLoop_loops (n : Fin 16) (l : Loop) : (p.setLoop n l).loops = p.loops.set n l := by
  unfold Part.setLoop
  dsimp only
  split <;> rfl

@[simp] theorem Part.setHeater_uptime (n : Fin 16) (h : Heater) : (p.setHeater n h).uptime = p.uptime := by
  unfold Part.setHeater
  dsimp only
  split <;> rfl

@[simp] theorem Part.setHeater_scan (n : Fin 16) (h : Heater) : (p.setHeater n h).scan = p.scan := by
  unfold Part.setHeater
  dsimp only
  split <;> rfl

@[simp] theorem Part.setHeater_loops (n : Fin 16) (h : Heater) : (p.setHeater n h).loops = p.loops := by
  unfold Part.setHeater
  dsimp only
  split <;> rfl

@[simp] theorem Part.setHeater_programs (n : Fin 16) (h : Heater) : (p.setHeater n h).programs = p.programs := by
  unfold Part.setHeater
  dsimp only
  split <;> rfl

@[simp] theorem Part.setHeater_ovens (n : Fin 16) (h : Heater) : (p.setHeater n h).ovens = p.ovens := by
  unfold Part.setHeater
  dsimp only
  split <;> rfl

@[simp] theorem Part.setHeater_cabinets (n : Fin 16) (h : Heater) : (p.setHeater n h).cabinets = p.cabinets := by
  unfold Part.setHeater
  dsimp only
  split <;> rfl

@[simp] theorem Part.setHeater_stock (n : Fin 16) (h : Heater) : (p.setHeater n h).stock = p.stock := by
  unfold Part.setHeater
  dsimp only
  split <;> rfl

@[simp] theorem Part.setHeater_dish (n : Fin 16) (h : Heater) : (p.setHeater n h).dish = p.dish := by
  unfold Part.setHeater
  dsimp only
  split <;> rfl

@[simp] theorem Part.setHeater_waves (n : Fin 16) (h : Heater) : (p.setHeater n h).waves = p.waves := by
  unfold Part.setHeater
  dsimp only
  split <;> rfl

@[simp] theorem Part.setHeater_interlock (n : Fin 16) (h : Heater) : (p.setHeater n h).interlock = p.interlock := by
  unfold Part.setHeater
  dsimp only
  split <;> rfl

@[simp] theorem Part.setHeater_justClosed (n : Fin 16) (h : Heater) : (p.setHeater n h).justClosed = p.justClosed := by
  unfold Part.setHeater
  dsimp only
  split <;> rfl

@[simp] theorem Part.setHeater_conds (n : Fin 16) (h : Heater) : (p.setHeater n h).desk.conds = p.desk.conds := by
  unfold Part.setHeater
  dsimp only
  split <;> rfl

@[simp] theorem Part.setHeater_pager (n : Fin 16) (h : Heater) : (p.setHeater n h).desk.pager = p.desk.pager := by
  unfold Part.setHeater
  dsimp only
  split <;> rfl

@[simp] theorem Part.setHeater_feeder (n : Fin 16) (h : Heater) : (p.setHeater n h).feeder = { p.feeder with heaters := p.feeder.heaters.set n h } := by
  unfold Part.setHeater
  dsimp only
  split <;> rfl

@[simp] theorem Part.setOven_uptime (n : Fin 6) (o : Oven) : (p.setOven n o).uptime = p.uptime := by
  unfold Part.setOven
  dsimp only
  split <;> rfl

@[simp] theorem Part.setOven_scan (n : Fin 6) (o : Oven) : (p.setOven n o).scan = p.scan := by
  unfold Part.setOven
  dsimp only
  split <;> rfl

@[simp] theorem Part.setOven_loops (n : Fin 6) (o : Oven) : (p.setOven n o).loops = p.loops := by
  unfold Part.setOven
  dsimp only
  split <;> rfl

@[simp] theorem Part.setOven_feeder (n : Fin 6) (o : Oven) : (p.setOven n o).feeder = p.feeder := by
  unfold Part.setOven
  dsimp only
  split <;> rfl

@[simp] theorem Part.setOven_programs (n : Fin 6) (o : Oven) : (p.setOven n o).programs = p.programs := by
  unfold Part.setOven
  dsimp only
  split <;> rfl

@[simp] theorem Part.setOven_cabinets (n : Fin 6) (o : Oven) : (p.setOven n o).cabinets = p.cabinets := by
  unfold Part.setOven
  dsimp only
  split <;> rfl

@[simp] theorem Part.setOven_stock (n : Fin 6) (o : Oven) : (p.setOven n o).stock = p.stock := by
  unfold Part.setOven
  dsimp only
  split <;> rfl

@[simp] theorem Part.setOven_dish (n : Fin 6) (o : Oven) : (p.setOven n o).dish = p.dish := by
  unfold Part.setOven
  dsimp only
  split <;> rfl

@[simp] theorem Part.setOven_waves (n : Fin 6) (o : Oven) : (p.setOven n o).waves = p.waves := by
  unfold Part.setOven
  dsimp only
  split <;> rfl

@[simp] theorem Part.setOven_interlock (n : Fin 6) (o : Oven) : (p.setOven n o).interlock = p.interlock := by
  unfold Part.setOven
  dsimp only
  split <;> rfl

@[simp] theorem Part.setOven_justClosed (n : Fin 6) (o : Oven) : (p.setOven n o).justClosed = p.justClosed := by
  unfold Part.setOven
  dsimp only
  split <;> rfl

@[simp] theorem Part.setOven_conds (n : Fin 6) (o : Oven) : (p.setOven n o).desk.conds = p.desk.conds := by
  unfold Part.setOven
  dsimp only
  split <;> rfl

@[simp] theorem Part.setOven_pager (n : Fin 6) (o : Oven) : (p.setOven n o).desk.pager = p.desk.pager := by
  unfold Part.setOven
  dsimp only
  split <;> rfl

@[simp] theorem Part.setOven_ovens (n : Fin 6) (o : Oven) : (p.setOven n o).ovens = p.ovens.set n o := by
  unfold Part.setOven
  dsimp only
  split <;> rfl

@[simp] theorem Part.setCabinet_uptime (n : Fin 8) (c : Cabinet) : (p.setCabinet n c).uptime = p.uptime := by
  unfold Part.setCabinet
  dsimp only
  split <;> rfl

@[simp] theorem Part.setCabinet_scan (n : Fin 8) (c : Cabinet) : (p.setCabinet n c).scan = p.scan := by
  unfold Part.setCabinet
  dsimp only
  split <;> rfl

@[simp] theorem Part.setCabinet_loops (n : Fin 8) (c : Cabinet) : (p.setCabinet n c).loops = p.loops := by
  unfold Part.setCabinet
  dsimp only
  split <;> rfl

@[simp] theorem Part.setCabinet_feeder (n : Fin 8) (c : Cabinet) : (p.setCabinet n c).feeder = p.feeder := by
  unfold Part.setCabinet
  dsimp only
  split <;> rfl

@[simp] theorem Part.setCabinet_programs (n : Fin 8) (c : Cabinet) : (p.setCabinet n c).programs = p.programs := by
  unfold Part.setCabinet
  dsimp only
  split <;> rfl

@[simp] theorem Part.setCabinet_ovens (n : Fin 8) (c : Cabinet) : (p.setCabinet n c).ovens = p.ovens := by
  unfold Part.setCabinet
  dsimp only
  split <;> rfl

@[simp] theorem Part.setCabinet_stock (n : Fin 8) (c : Cabinet) : (p.setCabinet n c).stock = p.stock := by
  unfold Part.setCabinet
  dsimp only
  split <;> rfl

@[simp] theorem Part.setCabinet_dish (n : Fin 8) (c : Cabinet) : (p.setCabinet n c).dish = p.dish := by
  unfold Part.setCabinet
  dsimp only
  split <;> rfl

@[simp] theorem Part.setCabinet_waves (n : Fin 8) (c : Cabinet) : (p.setCabinet n c).waves = p.waves := by
  unfold Part.setCabinet
  dsimp only
  split <;> rfl

@[simp] theorem Part.setCabinet_interlock (n : Fin 8) (c : Cabinet) : (p.setCabinet n c).interlock = p.interlock := by
  unfold Part.setCabinet
  dsimp only
  split <;> rfl

@[simp] theorem Part.setCabinet_justClosed (n : Fin 8) (c : Cabinet) : (p.setCabinet n c).justClosed = p.justClosed := by
  unfold Part.setCabinet
  dsimp only
  split <;> rfl

@[simp] theorem Part.setCabinet_conds (n : Fin 8) (c : Cabinet) : (p.setCabinet n c).desk.conds = p.desk.conds := by
  unfold Part.setCabinet
  dsimp only
  split <;> rfl

@[simp] theorem Part.setCabinet_pager (n : Fin 8) (c : Cabinet) : (p.setCabinet n c).desk.pager = p.desk.pager := by
  unfold Part.setCabinet
  dsimp only
  split <;> rfl

@[simp] theorem Part.setCabinet_cabinets (n : Fin 8) (c : Cabinet) : (p.setCabinet n c).cabinets = p.cabinets.set n c := by
  unfold Part.setCabinet
  dsimp only
  split <;> rfl

@[simp] theorem Part.setStock_uptime (kind : Fin 4) (s : Stock) : (p.setStock kind s).uptime = p.uptime := by
  unfold Part.setStock
  split <;> rfl

@[simp] theorem Part.setStock_scan (kind : Fin 4) (s : Stock) : (p.setStock kind s).scan = p.scan := by
  unfold Part.setStock
  split <;> rfl

@[simp] theorem Part.setStock_loops (kind : Fin 4) (s : Stock) : (p.setStock kind s).loops = p.loops := by
  unfold Part.setStock
  split <;> rfl

@[simp] theorem Part.setStock_feeder (kind : Fin 4) (s : Stock) : (p.setStock kind s).feeder = p.feeder := by
  unfold Part.setStock
  split <;> rfl

@[simp] theorem Part.setStock_programs (kind : Fin 4) (s : Stock) : (p.setStock kind s).programs = p.programs := by
  unfold Part.setStock
  split <;> rfl

@[simp] theorem Part.setStock_ovens (kind : Fin 4) (s : Stock) : (p.setStock kind s).ovens = p.ovens := by
  unfold Part.setStock
  split <;> rfl

@[simp] theorem Part.setStock_cabinets (kind : Fin 4) (s : Stock) : (p.setStock kind s).cabinets = p.cabinets := by
  unfold Part.setStock
  split <;> rfl

@[simp] theorem Part.setStock_dish (kind : Fin 4) (s : Stock) : (p.setStock kind s).dish = p.dish := by
  unfold Part.setStock
  split <;> rfl

@[simp] theorem Part.setStock_waves (kind : Fin 4) (s : Stock) : (p.setStock kind s).waves = p.waves := by
  unfold Part.setStock
  split <;> rfl

@[simp] theorem Part.setStock_interlock (kind : Fin 4) (s : Stock) : (p.setStock kind s).interlock = p.interlock := by
  unfold Part.setStock
  split <;> rfl

@[simp] theorem Part.setStock_justClosed (kind : Fin 4) (s : Stock) : (p.setStock kind s).justClosed = p.justClosed := by
  unfold Part.setStock
  split <;> rfl

@[simp] theorem Part.setStock_conds (kind : Fin 4) (s : Stock) : (p.setStock kind s).desk.conds = p.desk.conds := by
  unfold Part.setStock
  split <;> rfl

@[simp] theorem Part.setStock_pager (kind : Fin 4) (s : Stock) : (p.setStock kind s).desk.pager = p.desk.pager := by
  unfold Part.setStock
  split <;> rfl

@[simp] theorem Part.setStock_stock (kind : Fin 4) (s : Stock) : (p.setStock kind s).stock = p.stock.set kind s := by
  unfold Part.setStock
  split
  · next h => rw [h, Table.set_get_self]
  · rfl

@[simp] theorem Part.setWave_uptime (w : Fin 12) (v : Option Wave) : (p.setWave w v).uptime = p.uptime := by
  unfold Part.setWave
  dsimp only
  split <;> rfl

@[simp] theorem Part.setWave_scan (w : Fin 12) (v : Option Wave) : (p.setWave w v).scan = p.scan := by
  unfold Part.setWave
  dsimp only
  split <;> rfl

@[simp] theorem Part.setWave_loops (w : Fin 12) (v : Option Wave) : (p.setWave w v).loops = p.loops := by
  unfold Part.setWave
  dsimp only
  split <;> rfl

@[simp] theorem Part.setWave_feeder (w : Fin 12) (v : Option Wave) : (p.setWave w v).feeder = p.feeder := by
  unfold Part.setWave
  dsimp only
  split <;> rfl

@[simp] theorem Part.setWave_programs (w : Fin 12) (v : Option Wave) : (p.setWave w v).programs = p.programs := by
  unfold Part.setWave
  dsimp only
  split <;> rfl

@[simp] theorem Part.setWave_ovens (w : Fin 12) (v : Option Wave) : (p.setWave w v).ovens = p.ovens := by
  unfold Part.setWave
  dsimp only
  split <;> rfl

@[simp] theorem Part.setWave_cabinets (w : Fin 12) (v : Option Wave) : (p.setWave w v).cabinets = p.cabinets := by
  unfold Part.setWave
  dsimp only
  split <;> rfl

@[simp] theorem Part.setWave_stock (w : Fin 12) (v : Option Wave) : (p.setWave w v).stock = p.stock := by
  unfold Part.setWave
  dsimp only
  split <;> rfl

@[simp] theorem Part.setWave_dish (w : Fin 12) (v : Option Wave) : (p.setWave w v).dish = p.dish := by
  unfold Part.setWave
  dsimp only
  split <;> rfl

@[simp] theorem Part.setWave_interlock (w : Fin 12) (v : Option Wave) : (p.setWave w v).interlock = p.interlock := by
  unfold Part.setWave
  dsimp only
  split <;> rfl

@[simp] theorem Part.setWave_justClosed (w : Fin 12) (v : Option Wave) : (p.setWave w v).justClosed = p.justClosed := by
  unfold Part.setWave
  dsimp only
  split <;> rfl

@[simp] theorem Part.setWave_conds (w : Fin 12) (v : Option Wave) : (p.setWave w v).desk.conds = p.desk.conds := by
  unfold Part.setWave
  dsimp only
  split <;> rfl

@[simp] theorem Part.setWave_pager (w : Fin 12) (v : Option Wave) : (p.setWave w v).desk.pager = p.desk.pager := by
  unfold Part.setWave
  dsimp only
  split <;> rfl

@[simp] theorem Part.setWave_waves (w : Fin 12) (v : Option Wave) : (p.setWave w v).waves = p.waves.set w v := by
  unfold Part.setWave
  dsimp only
  split <;> rfl

@[simp] theorem Part.setDish_uptime (d : Dish) : (p.setDish d).uptime = p.uptime := by
  unfold Part.setDish
  dsimp only
  split <;> split <;> rfl

@[simp] theorem Part.setDish_scan (d : Dish) : (p.setDish d).scan = p.scan := by
  unfold Part.setDish
  dsimp only
  split <;> split <;> rfl

@[simp] theorem Part.setDish_loops (d : Dish) : (p.setDish d).loops = p.loops := by
  unfold Part.setDish
  dsimp only
  split <;> split <;> rfl

@[simp] theorem Part.setDish_feeder (d : Dish) : (p.setDish d).feeder = p.feeder := by
  unfold Part.setDish
  dsimp only
  split <;> split <;> rfl

@[simp] theorem Part.setDish_programs (d : Dish) : (p.setDish d).programs = p.programs := by
  unfold Part.setDish
  dsimp only
  split <;> split <;> rfl

@[simp] theorem Part.setDish_ovens (d : Dish) : (p.setDish d).ovens = p.ovens := by
  unfold Part.setDish
  dsimp only
  split <;> split <;> rfl

@[simp] theorem Part.setDish_cabinets (d : Dish) : (p.setDish d).cabinets = p.cabinets := by
  unfold Part.setDish
  dsimp only
  split <;> split <;> rfl

@[simp] theorem Part.setDish_stock (d : Dish) : (p.setDish d).stock = p.stock := by
  unfold Part.setDish
  dsimp only
  split <;> split <;> rfl

@[simp] theorem Part.setDish_waves (d : Dish) : (p.setDish d).waves = p.waves := by
  unfold Part.setDish
  dsimp only
  split <;> split <;> rfl

@[simp] theorem Part.setDish_interlock (d : Dish) : (p.setDish d).interlock = p.interlock := by
  unfold Part.setDish
  dsimp only
  split <;> split <;> rfl

@[simp] theorem Part.setDish_justClosed (d : Dish) : (p.setDish d).justClosed = p.justClosed := by
  unfold Part.setDish
  dsimp only
  split <;> split <;> rfl

@[simp] theorem Part.setDish_conds (d : Dish) : (p.setDish d).desk.conds = p.desk.conds := by
  unfold Part.setDish
  dsimp only
  split <;> split <;> rfl

@[simp] theorem Part.setDish_pager (d : Dish) : (p.setDish d).desk.pager = p.desk.pager := by
  unfold Part.setDish
  dsimp only
  split <;> split <;> rfl

@[simp] theorem Part.setDish_dish (d : Dish) : (p.setDish d).dish = d := by
  unfold Part.setDish
  dsimp only
  split <;> split <;> rfl

theorem Part.setEntry_link (ch : Fin 23) (e : Entry) :
    (p.setEntry ch e).desk.link =
      if e.value = (p.scan.entries.get ch).value ∧ e.status = (p.scan.entries.get ch).status then p.desk.link
      else p.desk.link.mark .channel ch.val := by
  unfold Part.setEntry
  dsimp only; split <;> rfl

theorem Part.setLoop_link (n : Fin 16) (l : Loop) :
    (p.setLoop n l).desk.link =
      if l.shown = (p.loops.get n).shown then p.desk.link
      else p.desk.link.mark .loop n.val := by
  unfold Part.setLoop
  dsimp only; split <;> rfl

theorem Part.setHeater_link (n : Fin 16) (h : Heater) :
    (p.setHeater n h).desk.link =
      if h.shown = (p.feeder.heaters.get n).shown then p.desk.link
      else p.desk.link.mark .heater n.val := by
  unfold Part.setHeater
  dsimp only; split <;> rfl

theorem Part.setOven_link (n : Fin 6) (o : Oven) :
    (p.setOven n o).desk.link =
      if o.shown = (p.ovens.get n).shown then p.desk.link
      else p.desk.link.mark .oven n.val := by
  unfold Part.setOven
  dsimp only; split <;> rfl

theorem Part.setCabinet_link (n : Fin 8) (c : Cabinet) :
    (p.setCabinet n c).desk.link =
      if c.shown = (p.cabinets.get n).shown then p.desk.link
      else p.desk.link.mark .cabinet n.val := by
  unfold Part.setCabinet
  dsimp only; split <;> rfl

theorem Part.setStock_link (kind : Fin 4) (s : Stock) :
    (p.setStock kind s).desk.link =
      if s = p.stock.get kind then p.desk.link
      else p.desk.link.mark .stock kind.val := by
  unfold Part.setStock
  split <;> rfl

theorem Part.setWave_link (w : Fin 12) (v : Option Wave) :
    (p.setWave w v).desk.link =
      if v.map Wave.shown = (p.waves.get w).map Wave.shown then p.desk.link
      else p.desk.link.mark .wave w.val := by
  unfold Part.setWave
  dsimp only; split <;> rfl

end Records

/-! ## Answers and events -/

section Answers

variable (s : State) (kind tag : Byte) (taken : Part × Answer) (after : Part)

/-- A command that leaves the waves as they stand closes none by an issue notice. -/
@[simp] theorem closedByIssue_self (waves : Table (Option Wave) 12) : closedByIssue waves waves = none := by
  refine List.find?_eq_none.mpr fun w _ => ?_
  cases waves.get w with
  | none => simp
  | some v => simp

/-- What a command that closed a wave by an issue notice has done with it (R138, R139). -/
theorem closedByIssue_some (before after : Table (Option Wave) 12) (w : Fin 12)
    (h : closedByIssue before after = some w) :
    ∃ v u, before.get w = some v ∧ after.get w = some u ∧ v.state = .serving ∧ u.state = .closed ∧
      v.issued < u.issued := by
  have found := List.find?_some h
  cases hb : before.get w with
  | none => simp [hb] at found
  | some v =>
    cases ha : after.get w with
    | none => simp [hb, ha] at found
    | some u =>
      simp only [hb, ha, Bool.and_eq_true, decide_eq_true_eq] at found
      exact ⟨v, u, rfl, rfl, found.1.1, found.1.2, found.2⟩

@[simp] theorem State.answer_pending : (s.answer kind tag taken).pending = s.pending := rfl
@[simp] theorem State.event_pending : (s.event after).pending = s.pending := rfl
@[simp] theorem State.answer_uptime : (s.answer kind tag taken).part.uptime = taken.1.uptime := rfl
@[simp] theorem State.answer_scan : (s.answer kind tag taken).part.scan = taken.1.scan := rfl
@[simp] theorem State.answer_loops : (s.answer kind tag taken).part.loops = taken.1.loops := rfl
@[simp] theorem State.answer_feeder : (s.answer kind tag taken).part.feeder = taken.1.feeder := rfl
@[simp] theorem State.answer_programs : (s.answer kind tag taken).part.programs = taken.1.programs := rfl
@[simp] theorem State.answer_ovens : (s.answer kind tag taken).part.ovens = taken.1.ovens := rfl
@[simp] theorem State.answer_cabinets : (s.answer kind tag taken).part.cabinets = taken.1.cabinets := rfl
@[simp] theorem State.answer_stock : (s.answer kind tag taken).part.stock = taken.1.stock := rfl
@[simp] theorem State.answer_dish : (s.answer kind tag taken).part.dish = taken.1.dish := rfl
@[simp] theorem State.answer_waves : (s.answer kind tag taken).part.waves = taken.1.waves := rfl
@[simp] theorem State.answer_interlock : (s.answer kind tag taken).part.interlock = taken.1.interlock := rfl
@[simp] theorem State.answer_conds : (s.answer kind tag taken).part.desk.conds = taken.1.desk.conds := rfl
@[simp] theorem State.answer_pager : (s.answer kind tag taken).part.desk.pager = taken.1.desk.pager := rfl
@[simp] theorem State.answer_justClosed :
    (s.answer kind tag taken).part.justClosed = closedByIssue s.part.waves taken.1.waves := rfl
@[simp] theorem State.event_uptime : (s.event after).part.uptime = after.uptime := rfl
@[simp] theorem State.event_scan : (s.event after).part.scan = after.scan := rfl
@[simp] theorem State.event_loops : (s.event after).part.loops = after.loops := rfl
@[simp] theorem State.event_feeder : (s.event after).part.feeder = after.feeder := rfl
@[simp] theorem State.event_programs : (s.event after).part.programs = after.programs := rfl
@[simp] theorem State.event_ovens : (s.event after).part.ovens = after.ovens := rfl
@[simp] theorem State.event_cabinets : (s.event after).part.cabinets = after.cabinets := rfl
@[simp] theorem State.event_stock : (s.event after).part.stock = after.stock := rfl
@[simp] theorem State.event_dish : (s.event after).part.dish = after.dish := rfl
@[simp] theorem State.event_waves : (s.event after).part.waves = after.waves := rfl
@[simp] theorem State.event_interlock : (s.event after).part.interlock = after.interlock := rfl
@[simp] theorem State.event_conds : (s.event after).part.desk.conds = after.desk.conds := rfl
@[simp] theorem State.event_pager : (s.event after).part.desk.pager = after.desk.pager := rfl
@[simp] theorem State.event_justClosed : (s.event after).part.justClosed = closedByIssue s.part.waves after.waves := rfl
@[simp] theorem State.event_link : (s.event after).part.desk.link = after.desk.link.kick := rfl

end Answers

end Sys2Proof.Machine
end

