-- ==== Sys2Proof/Laws/Desk.lean ====
section
/-!
SUPPORT. What the desk may do, whatever it is sent: the marks it sets, the slots it writes, and what it leaves of the
pager controller's tables.
-/

namespace Sys2Proof.Machine

/-! ## Marks gathered -/

theorem Link.withMarks_nil (k : Link) : k.withMarks [] = k := rfl

theorem Link.withMarks_append (a b : List Mark) (k : Link) :
    k.withMarks (a ++ b) = (k.withMarks a).withMarks b := by
  unfold Link.withMarks
  rw [List.foldl_append]

theorem Link.withMarks_single (c : MarkClass) (i : Nat) (k : Link) : k.withMarks [⟨c, i⟩] = k.mark c i := rfl

/-- Marks leave the receiver, the buffers, the replies and the transmitter alone. -/
theorem Link.withMarks_rest (marks : List Mark) (k : Link) :
    (k.withMarks marks).rx = k.rx ∧ (k.withMarks marks).buffers = k.buffers ∧
      (k.withMarks marks).replies = k.replies ∧ (k.withMarks marks).tx = k.tx := by
  induction marks generalizing k with
  | nil => exact ⟨rfl, rfl, rfl, rfl⟩
  | cons m rest ih =>
    have h := ih (k.mark m.cls m.index)
    simpa [Link.withMarks] using h

/-- Marks take none away. -/
theorem Link.changeSet_subset_withMarks (marks : List Mark) (k : Link) :
    k.changeSet ⊆ (k.withMarks marks).changeSet := by
  induction marks generalizing k with
  | nil => exact fun m h => h
  | cons m rest ih =>
    exact fun x h => ih (k.mark m.cls m.index) (k.changeSet_subset_mark m.cls m.index h)

/-- Every mark set stands in the change set. -/
theorem Link.mem_withMarks (marks : List Mark) (k : Link) : ∀ m ∈ marks, m ∈ (k.withMarks marks).changeSet := by
  induction marks generalizing k with
  | nil => intro m h; cases h
  | cons m rest ih =>
    intro x h
    rcases List.mem_cons.mp h with h | h
    · subst h
      exact Link.changeSet_subset_withMarks rest _ (k.mem_mark_changeSet x.cls x.index)
    · exact ih _ x h

/-! ## The desk's own work -/

/-- Of the slots only those listed and PAGE_UNANSWERED may change, and the pager controller keeps what requests wrote in
its tables. -/
structure DeskRest (own : List (Fin 87)) (d e : Desk) : Prop where
  slots : ∀ i, i ∉ own → i ≠ unansweredSlot → e.conds.get i = d.conds.get i
  directory : ∀ x, e.pager.directory.get x =
    { d.pager.directory.get x with outstanding := (e.pager.directory.get x).outstanding }
  groups : ∀ x, e.pager.groups.get x = { d.pager.groups.get x with pointer := (e.pager.groups.get x).pointer }
  routes : e.pager.routes = d.pager.routes
  backoff : e.pager.backoff = d.pager.backoff
  rx : e.pager.rx = d.pager.rx

/-- The desk's own work: also, the link differs by marks of conditions and outcomes alone. -/
structure DeskOnly (own : List (Fin 87)) (d e : Desk) : Prop where
  rest : DeskRest own d e
  marks : ∃ marks : List Mark, (∀ m ∈ marks, m.cls = .condition ∨ m.cls = .outcomes) ∧
    e.link = d.link.withMarks marks

namespace DeskRest

variable {own : List (Fin 87)} {d e f : Desk}

theorem refl (own : List (Fin 87)) (d : Desk) : DeskRest own d d :=
  ⟨fun _ _ _ => rfl, fun _ => rfl, fun _ => rfl, rfl, rfl, rfl⟩

/-- Conditions and pager controller untouched. -/
theorem ofSame (own : List (Fin 87)) (hc : e.conds = d.conds) (hp : e.pager = d.pager) : DeskRest own d e :=
  ⟨fun _ _ _ => by rw [hc], fun _ => by rw [hp], fun _ => by rw [hp], by rw [hp], by rw [hp], by rw [hp]⟩

theorem trans (h : DeskRest own d e) (k : DeskRest own e f) : DeskRest own d f := by
  refine ⟨fun i h1 h2 => (k.slots i h1 h2).trans (h.slots i h1 h2), fun x => ?_, fun x => ?_,
    k.routes.trans h.routes, k.backoff.trans h.backoff, k.rx.trans h.rx⟩
  · rw [k.directory x, h.directory x]
  · rw [k.groups x, h.groups x]

theorem mono {own' : List (Fin 87)} (sub : own ⊆ own') (h : DeskRest own d e) : DeskRest own' d e :=
  ⟨fun i h1 h2 => h.slots i (fun hm => h1 (sub hm)) h2, h.directory, h.groups, h.routes, h.backoff, h.rx⟩

end DeskRest

namespace DeskOnly

variable {own : List (Fin 87)} {d e f : Desk}

theorem refl (own : List (Fin 87)) (d : Desk) : DeskOnly own d d := ⟨DeskRest.refl own d, [], by simp, rfl⟩

theorem trans (h : DeskOnly own d e) (k : DeskOnly own e f) : DeskOnly own d f := by
  obtain ⟨a, ha, hb⟩ := h.marks
  obtain ⟨b, hc, hd⟩ := k.marks
  refine ⟨h.rest.trans k.rest, a ++ b, ?_, ?_⟩
  · intro m hm
    rcases List.mem_append.mp hm with hm | hm
    · exact ha m hm
    · exact hc m hm
  · rw [Link.withMarks_append, ← hb, hd]

theorem mono {own' : List (Fin 87)} (sub : own ⊆ own') (h : DeskOnly own d e) : DeskOnly own' d e :=
  ⟨h.rest.mono sub, h.marks⟩

/-- Work on the pager controller that keeps its tables. -/
theorem onPager (own : List (Fin 87)) (d : Desk) (f : Pager → Pager)
    (hd : (f d.pager).directory = d.pager.directory := by rfl) (hg : (f d.pager).groups = d.pager.groups := by rfl)
    (hr : (f d.pager).routes = d.pager.routes := by rfl) (hb : (f d.pager).backoff = d.pager.backoff := by rfl)
    (hx : (f d.pager).rx = d.pager.rx := by rfl) : DeskOnly own d (d.onPager f) := by
  refine ⟨⟨fun _ _ _ => rfl, fun x => ?_, fun x => ?_, hr, hb, hx⟩, [], by simp, rfl⟩
  · rw [Desk.onPager_pager, hd]
  · rw [Desk.onPager_pager, hg]

theorem mark (own : List (Fin 87)) (d : Desk) (c : MarkClass) (i : Nat) (h : c = .condition ∨ c = .outcomes) :
    DeskOnly own d (d.mark c i) :=
  ⟨DeskRest.ofSame own rfl rfl, [⟨c, i⟩], by simpa using h, rfl⟩

end DeskOnly

/-! ## Each operation of the desk -/

section Operations

variable (d : Desk) (now : Word) (own : List (Fin 87))

/-- A slot written: that slot alone, marked where it changed (R154). -/
theorem Desk.setSlot_only (slot : Fin 87) (c : Slot) : DeskOnly [slot] d (d.setSlot slot c) := by
  unfold Desk.setSlot
  split
  · exact DeskOnly.refl _ _
  · refine DeskOnly.trans ?_ (DeskOnly.mark _ _ _ _ (Or.inl rfl))
    refine ⟨⟨fun i h _ => ?_, fun _ => rfl, fun _ => rfl, rfl, rfl, rfl⟩, [], by simp, rfl⟩
    exact Table.get_set_ne _ _ (by simpa using h)

theorem Desk.updatePage_only (id : Half) (f : Page → Page) : DeskOnly own d (d.updatePage id f) :=
  DeskOnly.onPager own d _

theorem Desk.setPort_only (port : Port) : DeskOnly own d (d.setPort port) := DeskOnly.onPager own d _

/-- A record made: the outcome list, with its mark (R173). -/
theorem Desk.record_only (r : OutcomeRecord) : DeskOnly own d (d.record r) :=
  (DeskOnly.onPager own d _).trans (DeskOnly.mark own _ _ _ (Or.inr rfl))

theorem Desk.createPage_only (source : Source) (group : Fin 8) (priority : Fin 4) (code : Byte) (param : Half) :
    DeskOnly own d (d.createPage now source group priority code param) := by
  unfold Desk.createPage
  dsimp only
  split
  · exact (DeskOnly.onPager own d _).trans (DeskOnly.onPager own _ _)
  · split
    · split
      · exact ((DeskOnly.onPager own d _).trans (DeskOnly.onPager own _ _)).trans (Desk.record_only _ own _)
      · exact (DeskOnly.onPager own d _).trans (Desk.record_only _ own _)
    · exact (DeskOnly.onPager own d _).trans (Desk.record_only _ own _)

theorem Desk.createRouted_only (source : Source) (param : Half) : DeskOnly own d (d.createRouted now source param) := by
  unfold Desk.createRouted
  split
  · exact DeskOnly.refl _ _
  · dsimp only
    split
    · exact Desk.createPage_only d now own _ _ _ _ _
    · exact DeskOnly.refl _ _

theorem Desk.triggerCore_only (source : Source) (param : Half) : DeskOnly own d (d.triggerCore now source param) := by
  unfold Desk.triggerCore
  split
  · exact DeskOnly.refl _ _
  · split
    · split
      · exact Desk.updatePage_only d own _ _
      · exact Desk.createRouted_only d now own _ _
    · exact DeskOnly.refl _ _

/-- A raise before the arbiter: its slot, and a trigger where it is an occurrence (R145, R147). -/
theorem Desk.raiseCore_only (slot : Fin 87) (param : Half) : DeskOnly [slot] d (d.raiseCore now slot param) := by
  unfold Desk.raiseCore
  dsimp only
  split
  · exact (Desk.setSlot_only d slot _).trans (Desk.triggerCore_only _ now _ _ _)
  · exact Desk.setSlot_only d slot _

theorem Desk.ret_only (slot : Fin 87) : DeskOnly [slot] d (d.ret slot) := Desk.setSlot_only d slot _

/-- A terminal outcome (R162, R173). -/
theorem Desk.finish_only (page : Page) (outcome : PageOutcome) (pager : Option (Fin 64)) :
    DeskOnly own d (d.finish now page outcome pager) := by
  unfold Desk.finish
  dsimp only
  split
  · exact (Desk.record_only d own _).trans (DeskOnly.onPager own _ _)
  · exact ((Desk.record_only d own _).trans (DeskOnly.onPager own _ _)).trans (Desk.createRouted_only _ now own _ _)

/-- An outstanding count written: nothing else of the directory. -/
theorem Desk.outstanding_only (x : Fin 64) (n : Nat) :
    DeskOnly own d (d.onPager fun g => { g with
      directory := g.directory.set x { g.directory.get x with outstanding := n } }) := by
  refine ⟨⟨fun _ _ _ => rfl, fun y => ?_, fun _ => rfl, rfl, rfl, rfl⟩, [], by simp, rfl⟩
  simp only [Desk.onPager_pager, Table.get_set]
  split
  · next h => rw [h]
  · rfl

theorem Desk.releaseTarget_only (page : Page) : DeskOnly own d (d.releaseTarget page) := by
  unfold Desk.releaseTarget
  split
  · exact Desk.outstanding_only d own _ _
  · exact DeskOnly.refl _ _

theorem DeskOnly.ofUnanswered {e : Desk} (h : DeskOnly [unansweredSlot] d e) : DeskOnly own d e :=
  ⟨⟨fun i _ h2 => h.rest.slots i (by simpa using h2) h2, h.rest.directory, h.rest.groups, h.rest.routes,
    h.rest.backoff, h.rest.rx⟩, h.marks⟩

theorem Desk.endUnanswered_only (page : Page) (outcome : PageOutcome) :
    DeskOnly own d (d.endUnanswered now page outcome) := by
  unfold Desk.endUnanswered
  dsimp only
  split
  · exact Desk.finish_only d now own _ _ _
  · exact (Desk.finish_only d now own _ _ _).trans (DeskOnly.ofUnanswered _ own (Desk.raiseCore_only _ now _ _))

theorem Desk.escalateOrEnd_only (page : Page) (outcome : PageOutcome) :
    DeskOnly own d (d.escalateOrEnd now page outcome) := by
  unfold Desk.escalateOrEnd
  split
  · exact Desk.updatePage_only d own _ _
  · exact Desk.endUnanswered_only d now own _ _

/-- An attempt that ends unanswered (R171). -/
theorem Desk.endAttempt_only (page : Page) (declined : Bool) : DeskOnly own d (d.endAttempt now page declined) := by
  unfold Desk.endAttempt
  dsimp only
  split
  · exact (Desk.releaseTarget_only d own _).trans (Desk.updatePage_only _ own _ _)
  · exact (Desk.releaseTarget_only d own _).trans (Desk.escalateOrEnd_only _ now own _ _)

theorem Desk.transmit_only (page : Page) (address : Nat) (group : Byte) :
    DeskOnly own d (d.transmit page address group) := by
  unfold Desk.transmit
  exact DeskOnly.onPager own d _

theorem Desk.transmitTo_only (page : Page) (x : Fin 64) : DeskOnly own d (d.transmitTo page x) := by
  unfold Desk.transmitTo
  refine DeskOnly.trans ?_ (Desk.transmit_only _ own _ _ _)
  refine ⟨⟨fun _ _ _ => rfl, fun _ => rfl, fun y => ?_, rfl, rfl, rfl⟩, [], by simp, rfl⟩
  simp only [Desk.onPager_pager, Table.get_set]
  split
  · next h => rw [h]
  · rfl

theorem Desk.send?_only (page : Page) {sent : Desk} (h : d.send? page = some sent) : DeskOnly own d sent := by
  unfold Desk.send? at h
  split at h
  · split at h
    · cases h
    · cases h
      exact Desk.transmit_only d own _ _ _
  · split at h
    · cases h
    · cases h
      exact Desk.transmitTo_only d own _ _

theorem arbitrate_only (fuel : Nat) : DeskOnly own d (arbitrate now fuel d) := by
  induction fuel generalizing d with
  | zero => exact DeskOnly.refl _ _
  | succ fuel ih =>
    unfold arbitrate
    split
    · split
      · exact DeskOnly.refl _ _
      · split
        · next h => exact Desk.send?_only d own _ h
        · exact (Desk.escalateOrEnd_only d now own _ _).trans (ih _)
    all_goals exact DeskOnly.refl _ _

/-- The radio arbiter (R165). -/
theorem Desk.arbiter_only : DeskOnly own d (d.arbiter now) := arbitrate_only d now own 300

/-- A trigger (R160). -/
theorem Desk.trigger_only (source : Source) (param : Half) : DeskOnly own d (d.trigger now source param) :=
  (Desk.triggerCore_only d now own _ _).trans (Desk.arbiter_only _ now own)

/-- A raise (R145, R147). -/
theorem Desk.raise_only (slot : Fin 87) (param : Half) : DeskOnly [slot] d (d.raise now slot param) :=
  (Desk.raiseCore_only d now _ _).trans (Desk.arbiter_only _ now _)

theorem Desk.cancelPage_only (page : Page) : DeskOnly own d (d.cancelPage now page) := by
  unfold Desk.cancelPage
  split
  · exact (Desk.releaseTarget_only d own _).trans (Desk.finish_only _ now own _ _ _)
  · exact (Desk.releaseTarget_only d own _).trans (Desk.finish_only _ now own _ _ _)
  · exact Desk.updatePage_only d own _ _

/-- A cancel notice (R172). -/
theorem Desk.cancelNotice_only (source : Source) : DeskOnly own d (d.cancelNotice now source) := by
  unfold Desk.cancelNotice
  split
  · exact DeskOnly.refl _ _
  · exact ((Desk.updatePage_only d own _ _).trans (Desk.cancelPage_only _ now own _)).trans
      (Desk.arbiter_only _ now own)

/-! ## The radio port -/

theorem Desk.awaitAnswer_only (page : Page) : DeskOnly own d (d.awaitAnswer now page) := by
  unfold Desk.awaitAnswer
  dsimp only
  split
  · exact (Desk.updatePage_only d own _ _).trans (Desk.outstanding_only _ own _ _)
  · exact Desk.updatePage_only d own _ _

theorem Desk.settleSent_only (page : Page) : DeskOnly own d (d.settleSent now page) := by
  unfold Desk.settleSent
  split
  · exact Desk.finish_only d now own _ _ _
  · split
    · exact Desk.endAttempt_only d now own _ _
    · exact Desk.awaitAnswer_only d now own _

theorem Desk.settleUnsent_only (page : Page) : DeskOnly own d (d.settleUnsent now page) := by
  unfold Desk.settleUnsent
  split
  · exact Desk.finish_only d now own _ _ _
  · split
    · exact Desk.endAttempt_only d now own _ _
    · exact Desk.updatePage_only d own _ _

theorem Desk.settle_only (id : Half) (f : Page → Desk → Desk) (hf : ∀ page e, DeskOnly own e (f page e)) :
    DeskOnly own d (d.settle id f) := by
  unfold Desk.settle
  split
  · exact hf _ _
  · exact DeskOnly.refl _ _

/-- RADIO_DOWN is among the slots that may change. -/
theorem Desk.radioUp_only (frame : Desk → Desk) (hf : ∀ e, DeskOnly [radioDownSlot] e (frame e)) :
    DeskOnly [radioDownSlot] d (d.radioUp now frame) :=
  (((Desk.setPort_only d _ _).trans (hf _)).trans (Desk.ret_only _ _)).trans (Desk.arbiter_only _ now _)

theorem Desk.accepted_only (tag : Byte) (id : Half) : DeskOnly [radioDownSlot] d (d.accepted now tag id) := by
  unfold Desk.accepted
  split
  · split
    · exact ((Desk.setPort_only d _ _).trans
        (Desk.settle_only _ _ _ _ fun _ _ => Desk.settleSent_only _ now _ _)).trans (Desk.arbiter_only _ now _)
    · exact DeskOnly.refl _ _
  · exact Desk.radioUp_only d now _ fun _ => DeskOnly.refl _ _
  all_goals exact DeskOnly.refl _ _

theorem Desk.backoff_only (tag : Byte) (id : Half) : DeskOnly [radioDownSlot] d (d.backoff now tag id) := by
  unfold Desk.backoff
  split
  · split
    · exact (Desk.setPort_only d _ _).trans (Desk.settle_only _ _ _ _ fun _ _ => Desk.settleUnsent_only _ now _ _)
    · exact DeskOnly.refl _ _
  · exact Desk.radioUp_only d now _ fun _ => DeskOnly.refl _ _
  all_goals exact DeskOnly.refl _ _

theorem Desk.backoffEnd_only : DeskOnly own d (d.backoffEnd now) := by
  unfold Desk.backoffEnd
  split
  · exact (Desk.setPort_only d _ _).trans (Desk.arbiter_only _ now _)
  all_goals exact DeskOnly.refl _ _

theorem Desk.silence_only : DeskOnly [radioDownSlot] d (d.silence now) := by
  unfold Desk.silence
  split
  · unfold Desk.firstSilence
    split
    · exact Desk.setPort_only d _ _
    · exact (Desk.setPort_only d _ _).trans (Desk.arbiter_only _ now _)
  · exact ((Desk.setPort_only d _ _).trans (Desk.raise_only _ now _ _)).trans
      (Desk.settle_only _ _ _ _ fun _ _ => Desk.settleUnsent_only _ now _ _)
  all_goals exact DeskOnly.refl _ _

theorem Desk.sendStatus_only : DeskOnly own d d.sendStatus := by
  unfold Desk.sendStatus
  split
  · exact DeskOnly.onPager own d _
  all_goals exact DeskOnly.refl _ _

theorem Desk.statusReply_only : DeskOnly [radioDownSlot] d (d.statusReply now) := by
  unfold Desk.statusReply
  split
  · exact Desk.radioUp_only d now _ fun _ => DeskOnly.refl _ _
  all_goals exact DeskOnly.refl _ _

theorem Desk.takeAccept_only (address id : Half) : DeskOnly own d (d.takeAccept now address id) := by
  unfold Desk.takeAccept
  split
  · split
    · unfold Desk.acceptPage
      split
      · exact (Desk.releaseTarget_only d own _).trans (Desk.finish_only _ now own _ _ _)
      · exact (Desk.releaseTarget_only d own _).trans (Desk.finish_only _ now own _ _ _)
      · split
        · exact DeskOnly.refl _ _
        · exact Desk.finish_only d now own _ _ _
    · exact DeskOnly.refl _ _
  · exact DeskOnly.refl _ _
  · exact Desk.record_only d own _

theorem Desk.takeDecline_only (address id : Half) : DeskOnly own d (d.takeDecline now address id) := by
  unfold Desk.takeDecline
  split
  · split
    · unfold Desk.declinePage
      split
      · exact Desk.endAttempt_only d now own _ _
      · exact Desk.updatePage_only d own _ _
      · exact DeskOnly.refl _ _
    · exact DeskOnly.refl _ _
  · exact DeskOnly.refl _ _

theorem Desk.answerFrame_only (take : Desk → Desk) (hf : ∀ e, DeskOnly [radioDownSlot] e (take e)) :
    DeskOnly [radioDownSlot] d (d.answerFrame now take) := by
  unfold Desk.answerFrame
  split
  · exact Desk.radioUp_only d now _ hf
  all_goals exact (hf d).trans (Desk.arbiter_only _ now _)

theorem Desk.pageDeadline_only (id : Half) : DeskOnly own d (d.pageDeadline now id) := by
  unfold Desk.pageDeadline
  split
  · exact DeskOnly.refl _ _
  · split
    · split
      · exact (Desk.endAttempt_only d now own _ _).trans (Desk.arbiter_only _ now own)
      · exact DeskOnly.refl _ _
    · exact DeskOnly.refl _ _

/-- A frame from the base station (R195). -/
theorem Desk.stationFrame_only (f : Frame) : DeskOnly [radioDownSlot] d (d.stationFrame now f) := by
  unfold Desk.stationFrame
  split
  · split
    · exact Desk.accepted_only d now _ _
    · exact DeskOnly.refl _ _
  · split
    · split
      · exact Desk.backoff_only d now _ _
      · exact DeskOnly.refl _ _
    · split
      · split
        · exact Desk.statusReply_only d now
        · exact DeskOnly.refl _ _
      · split
        · split
          · refine Desk.answerFrame_only d now _ fun e => ?_
            split
            · exact Desk.takeAccept_only e now _ _ _
            · split
              · exact Desk.takeDecline_only e now _ _ _
              · exact DeskOnly.refl _ _
          · exact DeskOnly.refl _ _
        · exact DeskOnly.refl _ _

end Operations

end Sys2Proof.Machine
end

