-- ==== Sys2Proof/Laws/Footprint.lean ====
section
/-!
SUPPORT. How footprints compose: what a command may touch and mark, and which slots of the desk it may write.
-/

namespace Sys2Proof.Machine

/-- Every part of the first footprint lies in the second. -/
def Footprint.le (f g : Footprint) : Bool :=
  (!f.uptime || g.uptime) && (!f.scan || g.scan) && (!f.loops || g.loops) && (!f.feeder || g.feeder) &&
    (!f.programs || g.programs) && (!f.ovens || g.ovens) && (!f.cabinets || g.cabinets) && (!f.stock || g.stock) &&
    (!f.dish || g.dish) && (!f.waves || g.waves) && (!f.interlock || g.interlock) && (!f.conds || g.conds) &&
    (!f.pager || g.pager)

theorem Footprint.allows_of_le {f g : Footprint} (h : f.le g = true) (c : MarkClass) (a : f.allows c = true) :
    g.allows c = true := by
  simp only [Footprint.le, Bool.and_eq_true, Bool.or_eq_true, Bool.not_eq_true'] at h
  cases c <;> simp only [Footprint.allows] at a ⊢ <;> simp_all

namespace Touches

variable {f g : Footprint} {p q r : Part}

theorem refl (f : Footprint) (p : Part) : Touches f p p := by constructor <;> intro _ <;> rfl

theorem trans (h : Touches f p q) (k : Touches f q r) : Touches f p r :=
  ⟨fun e => (k.uptime e).trans (h.uptime e), fun e => (k.scan e).trans (h.scan e),
    fun e => (k.loops e).trans (h.loops e), fun e => (k.feeder e).trans (h.feeder e),
    fun e => (k.programs e).trans (h.programs e), fun e => (k.ovens e).trans (h.ovens e),
    fun e => (k.cabinets e).trans (h.cabinets e), fun e => (k.stock e).trans (h.stock e),
    fun e => (k.dish e).trans (h.dish e), fun e => (k.waves e).trans (h.waves e),
    fun e => (k.interlock e).trans (h.interlock e), fun e => (k.conds e).trans (h.conds e),
    fun e => (k.pager e).trans (h.pager e)⟩

theorem mono (le : f.le g = true) (h : Touches f p q) : Touches g p q := by
  simp only [Footprint.le, Bool.and_eq_true, Bool.or_eq_true, Bool.not_eq_true'] at le
  obtain ⟨⟨⟨⟨⟨⟨⟨⟨⟨⟨⟨⟨h1, h2⟩, h3⟩, h4⟩, h5⟩, h6⟩, h7⟩, h8⟩, h9⟩, h10⟩, h11⟩, h12⟩, h13⟩ := le
  exact ⟨fun e => h.uptime (by simp_all), fun e => h.scan (by simp_all), fun e => h.loops (by simp_all),
    fun e => h.feeder (by simp_all), fun e => h.programs (by simp_all), fun e => h.ovens (by simp_all),
    fun e => h.cabinets (by simp_all), fun e => h.stock (by simp_all), fun e => h.dish (by simp_all),
    fun e => h.waves (by simp_all), fun e => h.interlock (by simp_all), fun e => h.conds (by simp_all),
    fun e => h.pager (by simp_all)⟩

end Touches

namespace MarkedWithin

variable {f g : Footprint} {k l m : Link}

theorem refl (f : Footprint) (k : Link) : MarkedWithin f k k := ⟨[], by simp, rfl⟩

theorem trans (h : MarkedWithin f k l) (h' : MarkedWithin f l m) : MarkedWithin f k m := by
  obtain ⟨a, ha, rfl⟩ := h
  obtain ⟨b, hb, rfl⟩ := h'
  refine ⟨a ++ b, fun x hx => ?_, (Link.withMarks_append a b k).symm⟩
  rcases List.mem_append.mp hx with hx | hx
  · exact ha x hx
  · exact hb x hx

theorem mono (le : f.le g = true) (h : MarkedWithin f k l) : MarkedWithin g k l := by
  obtain ⟨a, ha, rfl⟩ := h
  exact ⟨a, fun x hx => Footprint.allows_of_le le _ (ha x hx), rfl⟩

theorem mark (k : Link) (c : MarkClass) (i : Nat) (h : f.allows c = true) : MarkedWithin f k (k.mark c i) :=
  ⟨[⟨c, i⟩], by simpa using h, rfl⟩

end MarkedWithin

/-! ## Work of the part -/

/-- What a block's work may do: touch and mark its footprint, and write the listed slots of the desk. -/
structure Works (f : Footprint) (own : List (Fin 87)) (p q : Part) : Prop where
  moves : Moves f p q
  desk : DeskRest own p.desk q.desk

namespace Works

variable {f g : Footprint} {own own' : List (Fin 87)} {p q r : Part}

theorem refl (f : Footprint) (own : List (Fin 87)) (p : Part) : Works f own p p :=
  ⟨⟨Touches.refl f p, MarkedWithin.refl f _⟩, DeskRest.refl own _⟩

theorem trans (h : Works f own p q) (k : Works f own q r) : Works f own p r :=
  ⟨⟨h.moves.touches.trans k.moves.touches, h.moves.marks.trans k.moves.marks⟩, h.desk.trans k.desk⟩

/-- A wider footprint. -/
theorem widen (h : Works f own p q) (le : f.le g = true := by rfl) : Works g own p q :=
  ⟨⟨h.moves.touches.mono le, h.moves.marks.mono le⟩, h.desk⟩

/-- A wider footprint and more slots. -/
theorem mono (h : Works f own p q) (le : f.le g = true) (sub : own ⊆ own') : Works g own' p q :=
  ⟨⟨h.moves.touches.mono le, h.moves.marks.mono le⟩, h.desk.mono sub⟩

/-- Work done for each member of a list. -/
theorem foldl {α : Type} (step : Part → α → Part) (h : ∀ q a, Works f own q (step q a)) (items : List α) (p : Part) :
    Works f own p (items.foldl step p) := by
  induction items generalizing p with
  | nil => exact refl f own p
  | cons a rest ih => exact (h p a).trans (ih (step p a))

/-- Work of the desk on its own. -/
theorem ofDesk (p : Part) {e : Desk} (h : DeskOnly own p.desk e) : Works deskFoot own p { p with desk := e } := by
  obtain ⟨marks, hm, hl⟩ := h.marks
  refine ⟨⟨?_, marks, fun m hx => ?_, hl⟩, h.rest⟩
  · constructor <;> intro e <;> first | rfl | simp [deskFoot] at e
  · rcases hm m hx with hc | hc <;> rw [hc] <;> rfl

/-- A mark of the footprint. -/
theorem mark (own : List (Fin 87)) (p : Part) (c : MarkClass) (i : Nat) (h : f.allows c = true) :
    Works f own p (p.mark c i) :=
  ⟨⟨by constructor <;> intro _ <;> rfl, MarkedWithin.mark _ c i h⟩, DeskRest.ofSame own rfl rfl⟩

/-- Work that leaves the whole desk alone. -/
theorem ofTouches (own : List (Fin 87)) (h : Touches f p q) (hd : q.desk = p.desk) : Works f own p q :=
  ⟨⟨h, by rw [hd]; exact MarkedWithin.refl f _⟩, by rw [hd]; exact DeskRest.refl own _⟩

/-- Work that leaves the conditions and the pager controller alone. -/
theorem ofLink (own : List (Fin 87)) (h : Touches f p q) (hm : MarkedWithin f p.desk.link q.desk.link)
    (hc : q.desk.conds = p.desk.conds) (hp : q.desk.pager = p.desk.pager) : Works f own p q :=
  ⟨⟨h, hm⟩, DeskRest.ofSame own hc hp⟩

end Works

/-! ## Answers and events -/

/-- A request whose block's work keeps to a footprint is answered within it. -/
theorem Works.answered {f : Footprint} {own : List (Fin 87)} {s : State} {taken : Part × Answer}
    (h : Works f own s.part taken.1) (kind tag : Byte) :
    Answered f kind tag taken.2.status taken.2.pieces s (s.answer kind tag taken) := by
  refine ⟨rfl, ?_, taken.1.desk.link, h.moves.marks, rfl⟩
  have t := h.moves.touches
  exact ⟨t.uptime, t.scan, t.loops, t.feeder, t.programs, t.ovens, t.cabinets, t.stock, t.dish, t.waves, t.interlock,
    t.conds, t.pager⟩

/-- An event whose work keeps to a footprint happens within it. -/
theorem Works.happened {f : Footprint} {own : List (Fin 87)} {s : State} {after : Part}
    (h : Works f own s.part after) : Happened f s (s.event after) := by
  refine ⟨rfl, ?_, after.desk.link, h.moves.marks, rfl⟩
  have t := h.moves.touches
  exact ⟨t.uptime, t.scan, t.loops, t.feeder, t.programs, t.ovens, t.cabinets, t.stock, t.dish, t.waves, t.interlock,
    t.conds, t.pager⟩

/-- What is left alone at the desk by a request that is answered. -/
theorem Works.answer_kept {f : Footprint} {own : List (Fin 87)} {s : State} {taken : Part × Answer}
    (h : Works f own s.part taken.1) (kind tag : Byte) : DeskKept own s (s.answer kind tag taken) := by
  have d := h.desk
  exact ⟨d.slots, d.directory, d.groups, d.routes, d.backoff, d.rx⟩

/-- What is left alone at the desk by an event. -/
theorem Works.event_kept {f : Footprint} {own : List (Fin 87)} {s : State} {after : Part}
    (h : Works f own s.part after) : DeskKept own s (s.event after) := by
  have d := h.desk
  exact ⟨d.slots, d.directory, d.groups, d.routes, d.backoff, d.rx⟩

/-! ## The operations that every block shares -/

section Shared

variable (p : Part) (own : List (Fin 87))

theorem Part.raise_works (slot : Fin 87) (param : Half) : Works deskFoot [slot] p (p.raise slot param) :=
  Works.ofDesk p (Desk.raise_only _ _ _ _)

theorem Part.ret_works (slot : Fin 87) : Works deskFoot [slot] p (p.ret slot) :=
  Works.ofDesk p (Desk.ret_only _ _)

theorem Part.trigger_works (source : Source) (param : Half) : Works deskFoot own p (p.trigger source param) :=
  Works.ofDesk p (Desk.trigger_only _ _ _ _ _)

theorem Part.cancelNotice_works (source : Source) : Works deskFoot own p (p.cancelNotice source) :=
  Works.ofDesk p (Desk.cancelNotice_only _ _ _ _)

theorem Part.setEntry_works (ch : Fin 23) (e : Entry) : Works { scan := true } own p (p.setEntry ch e) := by
  refine Works.ofLink own (by constructor <;> simp) ?_ (by simp) (by simp)
  rw [Part.setEntry_link]
  split
  · exact MarkedWithin.refl _ _
  · exact MarkedWithin.mark _ _ _ rfl

theorem Part.putEntry_works (ch : Fin 23) (e : Entry) : Works { scan := true } own p (p.putEntry ch e) :=
  Works.ofTouches own (by constructor <;> simp) rfl

theorem Part.setLoop_works (n : Fin 16) (l : Loop) : Works { loops := true } own p (p.setLoop n l) := by
  refine Works.ofLink own (by constructor <;> simp) ?_ (by simp) (by simp)
  rw [Part.setLoop_link]
  split
  · exact MarkedWithin.refl _ _
  · exact MarkedWithin.mark _ _ _ rfl

theorem Part.setHeater_works (n : Fin 16) (h : Heater) : Works { feeder := true } own p (p.setHeater n h) := by
  refine Works.ofLink own (by constructor <;> simp) ?_ (by simp) (by simp)
  rw [Part.setHeater_link]
  split
  · exact MarkedWithin.refl _ _
  · exact MarkedWithin.mark _ _ _ rfl

theorem Part.setOven_works (n : Fin 6) (o : Oven) : Works { ovens := true } own p (p.setOven n o) := by
  refine Works.ofLink own (by constructor <;> simp) ?_ (by simp) (by simp)
  rw [Part.setOven_link]
  split
  · exact MarkedWithin.refl _ _
  · exact MarkedWithin.mark _ _ _ rfl

theorem Part.setCabinet_works (n : Fin 8) (c : Cabinet) : Works { cabinets := true } own p (p.setCabinet n c) := by
  refine Works.ofLink own (by constructor <;> simp) ?_ (by simp) (by simp)
  rw [Part.setCabinet_link]
  split
  · exact MarkedWithin.refl _ _
  · exact MarkedWithin.mark _ _ _ rfl

theorem Part.setStock_works (kind : Fin 4) (s : Stock) : Works { stock := true } own p (p.setStock kind s) := by
  refine Works.ofLink own (by constructor <;> simp) ?_ (by simp) (by simp)
  rw [Part.setStock_link]
  split
  · exact MarkedWithin.refl _ _
  · exact MarkedWithin.mark _ _ _ rfl

theorem Part.setWave_works (w : Fin 12) (v : Option Wave) : Works { waves := true } own p (p.setWave w v) := by
  refine Works.ofLink own (by constructor <;> simp) ?_ (by simp) (by simp)
  rw [Part.setWave_link]
  split
  · exact MarkedWithin.refl _ _
  · exact MarkedWithin.mark _ _ _ rfl

theorem Part.setDish_works (d : Dish) : Works { dish := true } own p (p.setDish d) := by
  refine Works.ofLink own (by constructor <;> simp) ?_ (by simp) (by simp)
  unfold Part.setDish
  dsimp only
  split <;> split
  · exact MarkedWithin.refl _ _
  · exact MarkedWithin.mark _ _ _ rfl
  · exact MarkedWithin.mark _ _ _ rfl
  · exact (MarkedWithin.mark _ _ _ rfl).trans (MarkedWithin.mark _ _ _ rfl)

theorem Part.setLine_works (line : Line) (l : LineState) : Works { interlock := true } own p (p.setLine line l) :=
  Works.ofTouches own (by constructor <;> simp) rfl

end Shared

end Sys2Proof.Machine
end

