-- ==== Sys2Proof/Laws/Blocks.lean ====
section
/-!
SUPPORT. What each shared operation of the blocks may touch, mark and write at the desk, cited by the proofs in place of
its definition.
-/

namespace Sys2Proof.Machine

section Blocks

variable (p : Part) (own : List (Fin 87))

/-- A list whose first part is listed. -/
theorem subset_left {a b c : List (Fin 87)} (h : a ⊆ b) : a ⊆ b ++ c := fun _ hx => List.mem_append_left c (h hx)

/-! ## Loops -/

/-- A cycle: the loop's record, and its OVERTEMP (R18, R20). -/
theorem Part.loopCycle_works (n : Fin 16) :
    Works { loops := true, conds := true, pager := true } [overtempSlot n] p (p.loopCycle n) := by
  unfold Part.loopCycle
  dsimp only
  split
  · split
    · exact (Part.setLoop_works p [overtempSlot n] _ _).widen.trans (Part.raise_works _ _ _).widen
    · exact (Part.setLoop_works p _ _ _).widen
  · split
    · exact (Part.setLoop_works p [overtempSlot n] _ _).widen.trans (Part.ret_works _ _).widen
    · exact (Part.setLoop_works p _ _ _).widen

/-- A cycle writes its own loop, by `Loop.cycle`. -/
theorem Part.loopCycle_loops (n : Fin 16) :
    (p.loopCycle n).loops = p.loops.set n ((p.loops.get n).cycle (p.reading (loopChannel n))) := by
  unfold Part.loopCycle
  dsimp only
  split
  · split <;> simp
  · split <;> simp

theorem Part.requestSetpoint_works (n : Fin 16) (sp : Int) :
    Works { loops := true } own p (p.requestSetpoint n sp) := Part.setLoop_works p own _ _

theorem Part.ownerOff_works (n : Fin 16) : Works { loops := true } own p (p.ownerOff n) := Part.setLoop_works p own _ _

/-- An owner's AUTO request may take a cycle (R33). -/
theorem Part.ownerAuto_works (n : Fin 16) :
    Works { loops := true, conds := true, pager := true } [overtempSlot n] p (p.ownerAuto n) := by
  unfold Part.ownerAuto
  dsimp only
  split
  · exact Works.refl _ _ _
  · exact Works.refl _ _ _
  · split
    · split
      · exact (Part.setLoop_works p _ _ _).widen.trans (Part.loopCycle_works _ n)
      · exact (Part.setLoop_works p _ _ _).widen.trans (Part.loopCycle_works _ n)
    all_goals exact (Part.setLoop_works p _ _ _).widen

/-- An owner's AUTO request writes its own loop alone. -/
theorem Part.ownerAuto_others (n m : Fin 16) (h : m ≠ n) : (p.ownerAuto n).loops.get m = p.loops.get m := by
  unfold Part.ownerAuto
  dsimp only
  split
  · rfl
  · rfl
  · split
    · split <;> simp [Part.loopCycle_loops, Table.get_set_ne _ _ h]
    all_goals simp [Table.get_set_ne _ _ h]

theorem Part.inhibitLoop_works (n : Fin 16) : Works { loops := true } own p (p.inhibitLoop n) := by
  unfold Part.inhibitLoop
  dsimp only
  split
  · exact Works.refl _ _ _
  · exact Part.setLoop_works p own _ _

/-- A release may take a cycle (R34). -/
theorem Part.releaseLoop_works (n : Fin 16) :
    Works { loops := true, conds := true, pager := true } [overtempSlot n] p (p.releaseLoop n) := by
  unfold Part.releaseLoop
  dsimp only
  split
  · exact Works.refl _ _ _
  · split
    · exact (Part.setLoop_works p _ _ _).widen.trans (Part.loopCycle_works _ n)
    all_goals exact (Part.setLoop_works p _ _ _).widen

theorem Part.restartLoops_works : Works { loops := true } own p p.restartLoops := by
  unfold Part.restartLoops
  refine Works.trans (q := { p with loops := p.loops.map Loop.restarted }) ?_
    (Works.foldl _ (fun q n => Works.mark own q _ _ rfl) _ _)
  exact Works.ofTouches own (by constructor <;> simp) rfl

/-! ## The feeder allocator -/

theorem Part.classNotice_works (n : Fin 16) (c : HeaterClass) : Works { feeder := true } own p (p.classNotice n c) :=
  Part.setHeater_works p own _ _

theorem Part.valveNotice_works (isOpen : Bool) : Works { feeder := true } own p (p.valveNotice isOpen) :=
  Part.setHeater_works p own _ _

/-- The feeder's own record replaced. -/
theorem Works.feeder (f : Feeder) : Works { feeder := true } own p { p with feeder := f } :=
  Works.ofTouches own (by constructor <;> simp) rfl

theorem Part.reduceChange_works : Works { feeder := true } own p p.reduceChange :=
  (Works.feeder p own _).trans (Works.feeder _ own _)

theorem Part.cutGrants_works : Works { feeder := true } own p p.cutGrants := by
  unfold Part.cutGrants Part.eachHeater
  exact (Works.foldl _ (fun q n => Part.setHeater_works q own n _) _ p).trans (Works.feeder _ own _)

theorem Part.storeGrants_works : Works { feeder := true } own p p.storeGrants := by
  unfold Part.storeGrants Part.eachHeater
  exact (Works.foldl _ (fun q n => Part.setHeater_works q own n _) _ p).trans (Works.feeder _ own _)

theorem Part.reportGrants_works : Works { loops := true } own p p.reportGrants :=
  Works.ofTouches own (by constructor <;> simp [Part.reportGrants]) rfl

/-- The slots of FEEDER_STARVED. -/
def starvedSlots : List (Fin 87) := (List.finRange 16).map starvedSlot

theorem Part.judgeStarved_works (n : Fin 16) :
    Works { feeder := true, conds := true, pager := true } [starvedSlot n] p (p.judgeStarved n) := by
  unfold Part.judgeStarved
  dsimp only
  split
  · split
    · exact (Part.setHeater_works p [starvedSlot n] _ _).widen.trans (Part.raise_works _ _ _).widen
    · exact (Part.setHeater_works p _ _ _).widen
  · split
    · exact (Part.setHeater_works p [starvedSlot n] _ _).widen.trans (Part.ret_works _ _).widen
    · exact (Part.setHeater_works p _ _ _).widen

/-- An allocation round: the feeder, the grants handed to the loops, and FEEDER_STARVED (R48 to R54). -/
theorem Part.allocationRound_works :
    Works { feeder := true, loops := true, conds := true, pager := true } starvedSlots p p.allocationRound := by
  unfold Part.allocationRound
  refine Works.trans (q := ({ p with feeder := p.feeder.applyBudget } : Part).judgeReducedAck) ?_ ?_
  · exact ((Works.feeder p starvedSlots _).trans (Works.feeder _ starvedSlots _)).widen
  · refine ((Part.storeGrants_works _ starvedSlots).widen.trans (Part.reportGrants_works _ starvedSlots).widen).trans ?_
    refine Works.foldl _ (fun q n => ?_) _ _
    refine (Part.judgeStarved_works q n).mono rfl fun x hx => ?_
    rw [List.mem_singleton] at hx
    subst hx
    exact List.mem_map_of_mem (List.mem_finRange n)

theorem Part.restartFeeder_works : Works { feeder := true } own p p.restartFeeder := by
  unfold Part.restartFeeder Part.eachHeater
  exact ((Part.cutGrants_works p own).trans
    (Works.foldl _ (fun q n => Part.setHeater_works q own n _) _ _)).trans
    ((Works.feeder _ own _).trans (Works.feeder _ own _))

/-! ## Cabinets -/

theorem Part.runCabinetLoop_works (n : Fin 8) (mode : CabinetMode) :
    Works { loops := true, conds := true, pager := true } [overtempSlot (cabinetLoop n)] p (p.runCabinetLoop n mode) := by
  unfold Part.runCabinetLoop
  split
  · exact (Part.ownerOff_works p _ _).widen
  · exact (Part.requestSetpoint_works p _ _ _).widen.trans (Part.ownerAuto_works _ _)
  · exact (Part.requestSetpoint_works p _ _ _).widen.trans (Part.ownerAuto_works _ _)

/-- The parts that a cabinet's mode reaches. -/
def modeFoot : Footprint := { cabinets := true, loops := true, feeder := true, conds := true, pager := true }

/-- A mode change: the cabinet, its loop and its heater's class (R82). -/
theorem Part.changeMode_works (n : Fin 8) (mode : CabinetMode) (waveSet : Bool) :
    Works modeFoot [overtempSlot (cabinetLoop n)] p (p.changeMode n mode waveSet) := by
  unfold Part.changeMode
  dsimp only
  split
  · exact (Part.setCabinet_works p _ _ _).widen
  · exact ((Part.setCabinet_works p _ _ _).widen.trans (Part.runCabinetLoop_works _ n mode).widen).trans
      (Part.classNotice_works _ _ _ _).widen

/-- A mode change writes its own cabinet's record alone. -/
theorem Part.changeMode_cabinets (n : Fin 8) (mode : CabinetMode) (waveSet : Bool) :
    (p.changeMode n mode waveSet).cabinets = p.cabinets.set n { p.cabinets.get n with mode, waveSet } := by
  unfold Part.changeMode
  dsimp only
  split
  · simp
  · have h := (Part.runCabinetLoop_works
      (p.setCabinet n { p.cabinets.get n with mode, waveSet }) n mode).moves.touches.cabinets rfl
    simp [Part.classNotice, h]

theorem Part.evaluateLow_works (n : Fin 8) : Works deskFoot own p (p.evaluateLow n) := by
  unfold Part.evaluateLow
  dsimp only
  split
  · split
    · exact Part.trigger_works p own _ _
    · exact Works.refl _ _ _
  · exact Works.refl _ _ _

theorem Part.holdNotice_works (w : Fin 12) (n : Fin 8) : Works { cabinets := true } own p (p.holdNotice w n) :=
  Part.setCabinet_works p own _ _

theorem Part.serviceNotice_works (n : Fin 8) :
    Works modeFoot [overtempSlot (cabinetLoop n)] p (p.serviceNotice n) := by
  unfold Part.serviceNotice
  split
  · exact Part.changeMode_works p n _ _
  · exact Part.changeMode_works p n _ _
  · exact Works.refl _ _ _

theorem Part.servingNotice_works (n : Fin 8) : Works deskFoot own p (p.servingNotice n) :=
  Part.evaluateLow_works p own n

theorem Part.releaseNotice_works (n : Fin 8) :
    Works modeFoot [overtempSlot (cabinetLoop n)] p (p.releaseNotice n) := by
  unfold Part.releaseNotice
  dsimp only
  split
  · exact (Part.setCabinet_works p _ _ _).widen.trans (Part.changeMode_works _ n _ _)
  · exact (Part.setCabinet_works p _ _ _).widen.trans (Part.setCabinet_works _ _ _ _).widen

theorem Part.restartCabinets_works : Works { cabinets := true, feeder := true } own p p.restartCabinets := by
  unfold Part.restartCabinets
  refine Works.foldl _ (fun q n => ?_) _ p
  unfold Part.restartCabinet
  dsimp only
  split
  · exact (Part.setCabinet_works q own _ _).widen.trans (Part.classNotice_works _ own _ _).widen
  · exact (Part.setCabinet_works q own _ _).widen

/-! ## Waves -/

/-- The slots that belong to a wave: PLATES_SHORT and WAVE_LATE. -/
def waveOwn (w : Fin 12) : List (Fin 87) := [platesShortSlot w, waveLateSlot w]

theorem waveOwn_subset (w : Fin 12) : waveOwn w ⊆ waveSlots := fun _ hx =>
  List.mem_flatMap.mpr ⟨w, List.mem_finRange w, hx⟩

/-- The slots that a wave's cabinets and the wave itself may write. -/
def waveReach (w : Fin 12) (v : Wave) : List (Fin 87) :=
  waveOwn w ++ v.cabinets.map fun n => overtempSlot (cabinetLoop n)

theorem Part.onWave_works {f : Footprint} {own : List (Fin 87)} (w : Fin 12) (act : Wave → Part → Part)
    (h : ∀ v, p.waves.get w = some v → Works f own p (act v p)) : Works f own p (p.onWave w act) := by
  unfold Part.onWave
  split
  · next v hv => exact h v hv
  · exact Works.refl _ _ _

/-- The plate check: the short flag and PLATES_SHORT (R133). -/
theorem Part.plateCheck_works (w : Fin 12) : Works noticeFoot (waveOwn w) p (p.plateCheck w) := by
  refine Part.onWave_works p w _ fun v _ => ?_
  split
  · split
    · exact (Part.setWave_works p _ _ _).widen.trans ((Part.ret_works _ _).mono rfl (by simp [waveOwn]))
    · exact Works.refl _ _ _
  · split
    · exact (Part.setWave_works p _ _ _).widen.trans ((Part.raise_works _ _ _).mono rfl (by simp [waveOwn]))
    · exact Works.refl _ _ _

theorem Part.enterReady_works (w : Fin 12) (v : Wave) : Works noticeFoot (waveOwn w) p (p.enterReady w v) := by
  unfold Part.enterReady
  dsimp only
  split
  · exact ((Part.setWave_works p _ _ _).widen.trans ((Part.ret_works _ _).mono rfl (by simp [waveOwn]))).trans
      (Part.trigger_works _ _ _ _).widen
  · exact (Part.setWave_works p _ _ _).widen.trans (Part.trigger_works _ _ _ _).widen

theorem Part.enterLate_works (w : Fin 12) (v : Wave) : Works noticeFoot (waveOwn w) p (p.enterLate w v) :=
  (Part.setWave_works p _ _ _).widen.trans ((Part.raise_works _ _ _).mono rfl (by simp [waveOwn]))

theorem Part.judgePreparing_works (w : Fin 12) : Works noticeFoot (waveOwn w) p (p.judgePreparing w) := by
  have ready (q : Part) : Works noticeFoot (waveOwn w) q (q.judgeReadiness w) := by
    refine Part.onWave_works q w _ fun v _ => ?_
    split
    · exact Part.enterReady_works q w v
    · exact Works.refl _ _ _
  refine Part.onWave_works p w _ fun v _ => ?_
  split
  · exact (Part.plateCheck_works p w).trans (ready _)
  · exact (Part.plateCheck_works p w).trans (ready _)
  all_goals exact Works.refl _ _ _

theorem Part.judgeDue_works (w : Fin 12) : Works noticeFoot (waveOwn w) p (p.judgeDue w) := by
  refine Part.onWave_works p w _ fun v _ => ?_
  split
  · exact Part.enterLate_works p w v
  · exact Works.refl _ _ _

theorem Part.judgeStanding_works (w : Fin 12) : Works noticeFoot (waveOwn w) p (p.judgeStanding w) := by
  refine Part.onWave_works p w _ fun v _ => ?_
  split
  · exact Part.plateCheck_works p w
  · exact Part.plateCheck_works p w
  all_goals exact Works.refl _ _ _

/-- A slot that holds no PLANNED wave is left alone by step (1) of the judgement. -/
theorem Part.judgePlanned_past (w : Fin 12) (h : ∀ v, p.waves.get w = some v → v.state ≠ .planned) :
    p.judgePlanned w = p := by
  unfold Part.judgePlanned Part.onWave
  split
  · next v hv => simp [h v hv]
  · rfl

/-- The judgement of a wave past PLANNED reaches the wave and the desk alone. -/
theorem Part.judgeWave_past (w : Fin 12) (h : ∀ v, p.waves.get w = some v → v.state ≠ .planned) :
    Works noticeFoot (waveOwn w) p (p.judgeWave w) := by
  unfold Part.judgeWave
  rw [Part.judgePlanned_past p w h]
  exact ((Part.judgePreparing_works p w).trans (Part.judgeDue_works _ w)).trans (Part.judgeStanding_works _ w)

theorem Part.ovenClasses_works (v : Wave) (c : HeaterClass) : Works { feeder := true } own p (p.ovenClasses v c) :=
  Works.foldl _ (fun q _ => Part.classNotice_works q own _ c) _ p

/-- Work done for each of a wave's cabinets. -/
theorem cabinets_work (w : Fin 12) (v : Wave) (act : Part → Fin 8 → Part)
    (h : ∀ q n, Works modeFoot [overtempSlot (cabinetLoop n)] q (act q n)) :
    Works waveFoot (waveReach w v) p (v.cabinets.foldl act p) := by
  suffices ∀ items : List (Fin 8), items ⊆ v.cabinets → ∀ q, Works waveFoot (waveReach w v) q (items.foldl act q) from
    this v.cabinets (fun _ hx => hx) p
  intro items
  induction items with
  | nil => exact fun _ q => Works.refl _ _ q
  | cons n rest ih =>
    intro sub q
    refine Works.trans ((h q n).mono rfl fun x hx => ?_) (ih (fun y hy => sub (List.mem_cons_of_mem n hy)) _)
    rw [List.mem_singleton] at hx
    subst hx
    exact List.mem_append_right _ (List.mem_map.mpr ⟨n, sub List.mem_cons_self, rfl⟩)

/-- The wave enters PREPARING: its cabinets, its ovens' classes, the plate check (R132). -/
theorem Part.enterPreparing_works (w : Fin 12) (v : Wave) :
    Works waveFoot (waveReach w v) p (p.enterPreparing w v) := by
  unfold Part.enterPreparing
  refine Works.trans ?_ ((Part.plateCheck_works _ w).mono rfl (subset_left fun _ hx => hx))
  refine Works.trans ?_ (Part.ovenClasses_works _ _ v .service).widen
  exact (Part.setWave_works p _ _ _).widen.trans (cabinets_work _ w v _ fun q n => Part.serviceNotice_works q n)

/-- The judgement of a wave: the wave, its cabinets with their loops, its ovens' classes, the desk (R130). -/
theorem Part.judgeWave_works (w : Fin 12) (v : Wave) (h : p.waves.get w = some v) :
    Works waveFoot (waveReach w v) p (p.judgeWave w) := by
  have widen {q r : Part} (k : Works noticeFoot (waveOwn w) q r) : Works waveFoot (waveReach w v) q r :=
    k.mono rfl (subset_left fun _ hx => hx)
  unfold Part.judgeWave
  refine Works.trans (Works.trans (Works.trans ?_ (widen (Part.judgePreparing_works _ w)))
    (widen (Part.judgeDue_works _ w))) (widen (Part.judgeStanding_works _ w))
  refine Part.onWave_works p w _ fun u hu => ?_
  rw [h] at hu
  cases hu
  split
  · exact Part.enterPreparing_works p w v
  · exact Works.refl _ _ _

/-- The wave closes: its cabinets, its ovens' classes, its conditions, its page (R139). -/
theorem Part.closeWave_works (w : Fin 12) (v : Wave) : Works waveFoot (waveReach w v) p (p.closeWave w v) := by
  have short : [platesShortSlot w] ⊆ waveReach w v := by simp [waveReach, waveOwn]
  have late : [waveLateSlot w] ⊆ waveReach w v := by simp [waveReach, waveOwn]
  have released : Works waveFoot (waveReach w v) p
      (v.cabinets.foldl (fun q n => q.releaseNotice n) (p.setWave w (some { v with state := .closed }))) :=
    (Part.setWave_works p _ _ _).widen.trans (cabinets_work _ w v _ fun q n => Part.releaseNotice_works q n)
  unfold Part.closeWave
  dsimp only
  refine Works.trans ?_ (Part.cancelNotice_works _ _ _).widen
  have unlate (q : Part) (u : Wave) : Works waveFoot (waveReach w v) q
      (if v.late then (q.setWave w (some u)).ret (waveLateSlot w) else q) := by
    split
    · exact (Part.setWave_works q _ _ _).widen.trans ((Part.ret_works _ _).mono rfl late)
    · exact Works.refl _ _ _
  have unshort (q : Part) (u : Wave) : Works waveFoot (waveReach w v) q
      (if v.short then (q.setWave w (some u)).ret (platesShortSlot w) else q) := by
    split
    · exact (Part.setWave_works q _ _ _).widen.trans ((Part.ret_works _ _).mono rfl short)
    · exact Works.refl _ _ _
  refine Works.trans (Works.trans ?_ (unshort _ _)) (unlate _ _)
  split
  · exact released
  · exact released.trans (Part.ovenClasses_works _ _ v _).widen

/-! ## Notices to the wave table (R141) -/

theorem Part.eachSlot_works {f : Footprint} {own : List (Fin 87)} (act : Fin 12 → Part → Part)
    (h : ∀ w q, Works f own q (act w q)) : Works f own p (p.eachSlot act) :=
  Works.foldl _ (fun q w => h w q) _ p

/-- A wave past PLANNED judged where a notice asks for it. -/
theorem judge_past_works (q : Part) (w : Fin 12) (v : Wave) (hv : q.waves.get w = some v) (h : v.state ≠ .planned) :
    Works noticeFoot waveSlots q (q.judgeWave w) :=
  (Part.judgeWave_past q w fun u hu => by
    rw [hv] at hu
    cases hu
    exact h).mono rfl (waveOwn_subset w)

/-- An oven state notice reaches waves past PLANNED and the desk (R141). -/
theorem Part.ovenNotice_works (oven : Fin 6) : Works noticeFoot waveSlots p (p.ovenNotice oven) := by
  refine Part.eachSlot_works p _ fun w q => Part.onWave_works q w _ fun v hv => ?_
  split
  · next hs =>
    split
    · exact judge_past_works q w v hv (by simp [hs])
    · exact Works.refl _ _ _
  · next hs =>
    split
    · exact judge_past_works q w v hv (by simp [hs])
    · exact Works.refl _ _ _
  all_goals exact Works.refl _ _ _

/-- A plate notice reaches waves past PLANNED and the desk (R141). -/
theorem Part.plateNotice_works (kind : Fin 4) : Works noticeFoot waveSlots p (p.plateNotice kind) := by
  refine Part.eachSlot_works p _ fun w q => Part.onWave_works q w _ fun v hv => ?_
  split
  all_goals first
    | exact Works.refl _ _ _
    | next hs =>
      split
      · exact judge_past_works q w v hv (by simp [hs])
      · exact Works.refl _ _ _

/-- An issue notice: the judgement of the wave, or its close (R138). -/
theorem Part.issueNotice_works (w : Fin 12) (count : Nat) :
    ∃ own, Works waveFoot own p (p.issueNotice w count) := by
  unfold Part.issueNotice Part.onWave
  split
  · next v hv =>
    dsimp only
    split
    · next hs =>
      have judged : Works waveFoot (waveOwn w) p
          ((p.setWave w (some { v with issued := min 65535 (v.issued + count) })).judgeWave w) := by
        refine (Part.setWave_works p _ _ _).widen.trans ((Part.judgeWave_past _ w fun u hu => ?_).widen)
        simp at hu
        rw [← hu]
        simp [hs]
      split
      · next u hu =>
        split
        · exact ⟨waveReach w u, (judged.mono rfl (subset_left fun _ hx => hx)).trans (Part.closeWave_works _ w u)⟩
        · exact ⟨waveOwn w, judged⟩
      · exact ⟨waveOwn w, judged⟩
    · exact ⟨[], Works.refl _ _ _⟩
  · exact ⟨[], Works.refl _ _ _⟩

theorem Part.restartWaves_works : Works { waves := true, feeder := true } own p p.restartWaves := by
  refine Part.eachSlot_works p _ fun w q => Part.onWave_works q w _ fun v _ => ?_
  dsimp only
  split
  all_goals first
    | exact (Part.setWave_works q own _ _).widen
    | exact (Part.setWave_works q own _ _).widen.trans (Part.ovenClasses_works _ own v _).widen

/-! ## Plates -/

/-- A move that changed a cabinet's batches: the plate notice and PLATES_LOW (R94, R95). -/
theorem Part.cabinetMoved_works (n : Fin 8) : Works noticeFoot waveSlots p (p.cabinetMoved n) :=
  (Part.plateNotice_works p _).trans (Part.evaluateLow_works _ _ _).widen

theorem Part.takeFromCabinet_works (n : Fin 8) (count : Nat) :
    Works { cabinets := true } own p (p.takeFromCabinet n count) := Part.setCabinet_works p own _ _

/-- The parts that a plate move reaches. -/
def moveFoot : Footprint := { cabinets := true, stock := true, waves := true, conds := true, pager := true }

theorem Part.writeOffAt_works (kind : Fin 4) (place : Place) (count : Nat) :
    Works moveFoot waveSlots p (p.writeOffAt kind place count) := by
  unfold Part.writeOffAt
  dsimp only
  split
  · exact ((Part.takeFromCabinet_works p _ _ _).widen.trans (Part.setStock_works _ _ _ _).widen).trans
      (Part.cabinetMoved_works _ _).widen
  all_goals exact (Part.setStock_works p _ _ _).widen.trans (Part.plateNotice_works _ _).widen

theorem Part.loadCabinet_works (n : Fin 8) (count : Nat) : Works moveFoot waveSlots p (p.loadCabinet n count) :=
  ((Part.setStock_works p _ _ _).widen.trans (Part.setCabinet_works _ _ _ _).widen).trans
    (Part.cabinetMoved_works _ _).widen

theorem Part.unloadFrom_works (n : Fin 8) (count : Nat) : Works moveFoot waveSlots p (p.unloadFrom n count) :=
  ((Part.takeFromCabinet_works p _ _ _).widen.trans (Part.setStock_works _ _ _ _).widen).trans
    (Part.cabinetMoved_works _ _).widen

/-- The parts that a rack's move reaches. -/
def rackMoveFoot : Footprint := { stock := true, waves := true, conds := true, pager := true }

theorem Part.rackEntryMove_works (kind : Option (Fin 4)) (count : Nat) :
    Works rackMoveFoot waveSlots p (p.rackEntryMove kind count) := by
  unfold Part.rackEntryMove
  split
  · exact Works.refl _ _ _
  · split
    · exact Works.refl _ _ _
    · exact (Part.setStock_works p _ _ _).widen.trans (Part.plateNotice_works _ _).widen

theorem Part.rackExitMove_works (kind : Option (Fin 4)) (count : Nat) (outcome : RackOutcome) (notice : Bool) :
    Works rackMoveFoot waveSlots p (p.rackExitMove kind count outcome notice) := by
  unfold Part.rackExitMove
  split
  · exact Works.refl _ _ _
  · split
    · exact Works.refl _ _ _
    · dsimp only
      split
      · exact (Part.setStock_works p _ _ _).widen.trans (Part.plateNotice_works _ _).widen
      · exact (Part.setStock_works p _ _ _).widen

/-- A warm tick: the dwells, and what a change of the ready count brings (R85, R94, R95). -/
theorem Part.warmTick_works (n : Fin 8) : Works moveFoot waveSlots p (p.warmTick n) := by
  unfold Part.warmTick
  dsimp only
  split
  · split
    · exact (Part.setCabinet_works p _ _ _).widen
    · exact ((Part.setCabinet_works p _ _ _).widen.trans (Part.plateNotice_works _ _).widen).trans
        (Part.evaluateLow_works _ _ _).widen
  · exact Works.refl _ _ _

end Blocks

end Sys2Proof.Machine
end

