-- ==== Sys2Proof/Laws/Judgement.lean ====
section
/-!
SUPPORT. What the judgement of a wave and the notices of the other units make of the wave table's records.
-/

namespace Sys2Proof.Machine

/-- What a judgement makes of a record: its state and flags, and of a READY or SERVING wave the short flag alone. -/
structure Judges (v u : Wave) : Prop where
  record : u = { v with state := u.state, readyLate := u.readyLate, short := u.short, late := u.late }
  standing : v.state = .ready ∨ v.state = .serving → u = { v with short := u.short }

theorem Judges.refl (v : Wave) : Judges v v := ⟨rfl, fun _ => rfl⟩

theorem Judges.trans {v u t : Wave} (h : Judges v u) (k : Judges u t) : Judges v t := by
  refine ⟨?_, fun hs => ?_⟩
  · rw [k.record, h.record]
  · have e := h.standing hs
    have hu : u.state = .ready ∨ u.state = .serving := by
      rw [e]
      exact hs
    rw [k.standing hu, e]

theorem Judges.short (v : Wave) (b : Bool) : Judges v { v with short := b } := ⟨rfl, fun _ => rfl⟩

/-- Slot `w` alone may change, and its wave as a judgement may change it. -/
structure JudgesSlot (w : Fin 12) (p q : Part) : Prop where
  others : ∀ x, x ≠ w → q.waves.get x = p.waves.get x
  absent : p.waves.get w = none → q.waves.get w = none
  record : ∀ v, p.waves.get w = some v → ∃ u, q.waves.get w = some u ∧ Judges v u

namespace JudgesSlot

variable {w : Fin 12} {p q r : Part}

theorem refl (w : Fin 12) (p : Part) : JudgesSlot w p p := ⟨fun _ _ => rfl, fun h => h, fun v h => ⟨v, h, .refl v⟩⟩

theorem trans (h : JudgesSlot w p q) (k : JudgesSlot w q r) : JudgesSlot w p r := by
  refine ⟨fun x hx => (k.others x hx).trans (h.others x hx), fun ha => k.absent (h.absent ha), fun v hv => ?_⟩
  obtain ⟨u, hu, ju⟩ := h.record v hv
  obtain ⟨t, ht, jt⟩ := k.record u hu
  exact ⟨t, ht, ju.trans jt⟩

/-- The wave table untouched. -/
theorem ofSame (w : Fin 12) (h : q.waves = p.waves) : JudgesSlot w p q := by
  refine ⟨fun _ _ => by rw [h], fun ha => by rw [h]; exact ha, fun v hv => ⟨v, by rw [h]; exact hv, .refl v⟩⟩

/-- The wave of the slot replaced by one that a judgement may make of it. -/
theorem ofSet {v u : Wave} (hv : p.waves.get w = some v) (j : Judges v u) (hq : q.waves = p.waves.set w (some u)) :
    JudgesSlot w p q := by
  refine ⟨fun x hx => by rw [hq, Table.get_set_ne _ _ hx], fun ha => by simp [hv] at ha, fun v' hv' => ?_⟩
  rw [hv] at hv'
  cases hv'
  exact ⟨u, by rw [hq, Table.get_set_self], j⟩

end JudgesSlot

section Judgement

variable (p : Part) (w : Fin 12)

theorem Part.onWave_judges (act : Wave → Part → Part)
    (h : ∀ v, p.waves.get w = some v → JudgesSlot w p (act v p)) : JudgesSlot w p (p.onWave w act) := by
  unfold Part.onWave
  split
  · next v hv => exact h v hv
  · exact .refl w p

theorem Part.plateCheck_judges : JudgesSlot w p (p.plateCheck w) := by
  refine Part.onWave_judges p w _ fun v hv => ?_
  split
  · split
    · exact .ofSet hv (Judges.short v false) (by simp)
    · exact .refl w p
  · split
    · exact .ofSet hv (Judges.short v true) (by simp)
    · exact .refl w p

theorem foldl_waves {α : Type} (act : Part → α → Part) (h : ∀ q a, (act q a).waves = q.waves) (items : List α)
    (q : Part) : (items.foldl act q).waves = q.waves := by
  induction items generalizing q with
  | nil => rfl
  | cons a rest ih => exact (ih _).trans (h q a)

theorem Part.ovenClasses_waves (v : Wave) (c : HeaterClass) : (p.ovenClasses v c).waves = p.waves :=
  (Part.ovenClasses_works p [] v c).moves.touches.waves rfl

/-- The wave leaves PLANNED for PREPARING, with its plate check. -/
theorem Part.enterPreparing_judges (v : Wave) (hv : p.waves.get w = some v) (hs : v.state = .planned) :
    JudgesSlot w p (p.enterPreparing w v) := by
  refine JudgesSlot.trans (.ofSet hv (u := { v with state := .preparing }) ⟨rfl, by simp [hs]⟩ ?_)
    (Part.plateCheck_judges _ w)
  rw [Part.ovenClasses_waves, foldl_waves _ fun q n => (Part.serviceNotice_works q n).moves.touches.waves rfl]
  simp

theorem Part.enterReady_judges (v : Wave) (hv : p.waves.get w = some v) (hs : v.state = .preparing ∨ v.state = .late) :
    JudgesSlot w p (p.enterReady w v) := by
  refine .ofSet hv (u := { v with
    state := .ready, readyLate := v.readyLate || decide (v.state = .late), late := false }) ⟨rfl, ?_⟩ ?_
  · rcases hs with hs | hs <;> simp [hs]
  · unfold Part.enterReady
    dsimp only
    split <;> simp

theorem Part.enterLate_judges (v : Wave) (hv : p.waves.get w = some v) (hs : v.state = .preparing) :
    JudgesSlot w p (p.enterLate w v) := by
  refine .ofSet hv (u := { v with state := .late, late := true }) ⟨rfl, by simp [hs]⟩ ?_
  simp [Part.enterLate]

theorem Part.plateCheck_state (v : Wave) (hv : p.waves.get w = some v) :
    ∃ u, (p.plateCheck w).waves.get w = some u ∧ u.state = v.state := by
  unfold Part.plateCheck Part.onWave
  rw [hv]
  dsimp only
  split
  · split
    · exact ⟨{ v with short := false }, by simp, rfl⟩
    · exact ⟨v, hv, rfl⟩
  · split
    · exact ⟨{ v with short := true }, by simp, rfl⟩
    · exact ⟨v, hv, rfl⟩

theorem Part.judgePreparing_judges : JudgesSlot w p (p.judgePreparing w) := by
  have both (v : Wave) (hv : p.waves.get w = some v) (hs : v.state = .preparing ∨ v.state = .late) :
      JudgesSlot w p ((p.plateCheck w).judgeReadiness w) := by
    refine (Part.plateCheck_judges p w).trans (Part.onWave_judges _ w _ fun u hu => ?_)
    obtain ⟨u', hu', hs'⟩ := Part.plateCheck_state p w v hv
    rw [hu] at hu'
    cases hu'
    split
    · exact Part.enterReady_judges _ w u hu (by rw [hs']; exact hs)
    · exact .refl w _
  refine Part.onWave_judges p w _ fun v hv => ?_
  split
  · next hs => exact both v hv (Or.inl hs)
  · next hs => exact both v hv (Or.inr hs)
  all_goals exact .refl w p

theorem Part.judgePlanned_judges : JudgesSlot w p (p.judgePlanned w) := by
  refine Part.onWave_judges p w _ fun v hv => ?_
  split
  · next h =>
    rw [Bool.and_eq_true, decide_eq_true_eq] at h
    exact Part.enterPreparing_judges p w v hv h.1
  · exact .refl w p

theorem Part.judgeDue_judges : JudgesSlot w p (p.judgeDue w) := by
  refine Part.onWave_judges p w _ fun v hv => ?_
  split
  · next h =>
    rw [Bool.and_eq_true, decide_eq_true_eq] at h
    exact Part.enterLate_judges p w v hv h.1
  · exact .refl w p

theorem Part.judgeStanding_judges : JudgesSlot w p (p.judgeStanding w) := by
  refine Part.onWave_judges p w _ fun v _ => ?_
  split
  · exact Part.plateCheck_judges p w
  · exact Part.plateCheck_judges p w
  all_goals exact .refl w p

/-- The judgement of a wave (R130): its own record alone, its state and flags. -/
theorem Part.judgeWave_judges : JudgesSlot w p (p.judgeWave w) :=
  (((Part.judgePlanned_judges p w).trans (Part.judgePreparing_judges _ w)).trans (Part.judgeDue_judges _ w)).trans
    (Part.judgeStanding_judges _ w)

/-! ## Notices -/

/-- What notices come to in the wave table: a wave changes its state and flags at most, a PLANNED or CLOSED one
nothing. -/
structure NoticedTable (p q : Part) : Prop where
  absent : ∀ x, p.waves.get x = none → q.waves.get x = none
  record : ∀ x v, p.waves.get x = some v → ∃ u, q.waves.get x = some u ∧ Judges v u ∧
    (v.state = .planned ∨ v.state = .closed → u = v)

/-- Work on one slot of a notice. -/
theorem NoticedTable.slot {q : Part} (h : JudgesSlot w p q)
    (still : ∀ v, p.waves.get w = some v → v.state = .planned ∨ v.state = .closed → q.waves.get w = some v) :
    NoticedTable p q := by
  refine ⟨fun x hx => ?_, fun x v hv => ?_⟩
  · by_cases e : x = w
    · subst e
      exact h.absent hx
    · rw [h.others x e]
      exact hx
  · by_cases e : x = w
    · subst e
      obtain ⟨u, hu, j⟩ := h.record v hv
      refine ⟨u, hu, j, fun hs => ?_⟩
      have := still v hv hs
      rw [hu] at this
      exact Option.some.inj this
    · exact ⟨v, by rw [h.others x e]; exact hv, .refl v, fun _ => rfl⟩

/-- An act on slots that leaves what is judged alone where the wave is READY past PLANNED is a notice. -/
theorem NoticedTable.eachSlot (act : Fin 12 → Part → Part)
    (h : ∀ x q, JudgesSlot x q (act x q))
    (still : ∀ x q v, q.waves.get x = some v → v.state = .planned ∨ v.state = .closed → act x q = q) :
    NoticedTable p (p.eachSlot act) := by
  -- each slot is visited once, so the record of slot `x` changes at its own visit alone
  suffices ∀ slots : List (Fin 12), slots.Nodup → ∀ q : Part,
      (∀ x, q.waves.get x = none → (slots.foldl (fun r w => act w r) q).waves.get x = none) ∧
      ∀ x v, q.waves.get x = some v → ∃ u, (slots.foldl (fun r w => act w r) q).waves.get x = some u ∧ Judges v u ∧
        (v.state = .planned ∨ v.state = .closed → u = v) by
    obtain ⟨a, b⟩ := this (List.finRange 12) (List.nodup_finRange 12) p
    exact ⟨a, b⟩
  intro slots
  induction slots with
  | nil => exact fun _ q => ⟨fun _ h => h, fun x v hv => ⟨v, hv, .refl v, fun _ => rfl⟩⟩
  | cons w rest ih =>
    intro nd q
    have one : NoticedTable q (act w q) :=
      NoticedTable.slot q w (h w q) fun v hv hs => by
        rw [still w q v hv hs]
        exact hv
    obtain ⟨a, b⟩ := ih (List.nodup_cons.mp nd).2 (act w q)
    refine ⟨fun x hx => a x (one.absent x hx), fun x v hv => ?_⟩
    obtain ⟨u, hu, j, s⟩ := one.record x v hv
    obtain ⟨t, ht, k, s'⟩ := b x u hu
    refine ⟨t, ht, j.trans k, fun hs => ?_⟩
    have e := s hs
    subst e
    exact s' hs

/-- An oven state notice in the wave table (R141). -/
theorem Part.ovenNotice_waves (oven : Fin 6) : NoticedTable p (p.ovenNotice oven) := by
  refine NoticedTable.eachSlot p _ (fun x q => Part.onWave_judges q x _ fun v _ => ?_) fun x q v hv hs => ?_
  · split
    · split
      · exact Part.judgeWave_judges q x
      · exact .refl x q
    · split
      · exact Part.judgeWave_judges q x
      · exact .refl x q
    all_goals exact .refl x q
  · unfold Part.onWave
    rw [hv]
    rcases hs with hs | hs <;> simp [hs]

/-- A plate notice in the wave table (R141). -/
theorem Part.plateNotice_waves (kind : Fin 4) : NoticedTable p (p.plateNotice kind) := by
  refine NoticedTable.eachSlot p _ (fun x q => Part.onWave_judges q x _ fun v _ => ?_) fun x q v hv hs => ?_
  · split
    all_goals first
      | exact .refl x q
      | split
        · exact Part.judgeWave_judges q x
        · exact .refl x q
  · unfold Part.onWave
    rw [hv]
    rcases hs with hs | hs <;> simp [hs]

end Judgement

end Sys2Proof.Machine
end

