-- ==== Sys2Proof/Laws/Link.lean ====
section
/-!
SUPPORT. The receive buffers and the transmitter of the control link: what taking a request does to the buffers, when a
request waits, and the frames on the air.
-/

namespace Sys2Proof.Machine

/-! ## The buffers (R187) -/

theorem takeOldestFrame_frames (l : List Buffer) : (takeOldestFrame l).map Buffer.frame = l.map Buffer.frame := by
  induction l with
  | nil => rfl
  | cons b rest ih =>
    by_cases h : b.taken = true
    · simp [takeOldestFrame, h, ih]
    · simp [takeOldestFrame, h]

@[simp] theorem takeOldestFrame_length (l : List Buffer) : (takeOldestFrame l).length = l.length := by
  simpa using congrArg List.length (takeOldestFrame_frames l)

/-- Behind frames that are taken, the oldest that waits is taken. -/
theorem takeOldestFrame_append (older : List Buffer) (b : Buffer) (newer : List Buffer)
    (taken : ∀ x ∈ older, x.taken = true) (waits : b.taken = false) :
    takeOldestFrame (older ++ b :: newer) = older ++ { b with taken := true } :: newer := by
  induction older with
  | nil => simp [takeOldestFrame, waits]
  | cons x rest ih =>
    have tail := ih fun y hy => taken y (List.mem_cons_of_mem x hy)
    simp [takeOldestFrame, taken x List.mem_cons_self, tail]

/-- Where no reply of a RESTART is outstanding, the oldest frame that is not taken is the next request. -/
theorem nextWaiting_append (k : Link) (older : List Buffer) (b : Buffer) (newer : List Buffer)
    (free : ∀ r ∈ k.replies, r.ofRestart = false) (buffers : k.buffers = older ++ b :: newer)
    (taken : ∀ x ∈ older, x.taken = true) (waits : b.taken = false) : k.nextWaiting = some b := by
  have none_restarts : k.replies.any Reply.ofRestart = false := by simpa using free
  have found : (older ++ b :: newer).find? (fun x => !x.taken) = some b := by
    induction older generalizing k with
    | nil => simp [waits]
    | cons x rest ih =>
      have hx := taken x List.mem_cons_self
      simp only [List.cons_append, List.find?_cons, hx, Bool.not_true]
      exact ih { k with buffers := rest ++ b :: newer } free rfl (fun y hy => taken y (List.mem_cons_of_mem x hy))
        none_restarts
  simp [Link.nextWaiting, none_restarts, buffers, found]

/-- A request that is next waits in a buffer, and no reply of a RESTART is outstanding. -/
theorem nextWaiting_some (k : Link) (b : Buffer) (h : k.nextWaiting = some b) :
    b ∈ k.buffers ∧ b.taken = false ∧ ∀ r ∈ k.replies, r.ofRestart = false := by
  unfold Link.nextWaiting at h
  split at h
  · cases h
  · next clear =>
    exact ⟨List.mem_of_find?_eq_some h, by simpa using List.find?_some h, by simpa using clear⟩

/-- Behind the reply of a RESTART nothing is taken (R193). -/
theorem nextWaiting_behind_restart (k : Link) (r : Reply) (mem : r ∈ k.replies) (restart : r.ofRestart = true) :
    k.nextWaiting = none := by
  have any : k.replies.any Reply.ofRestart = true := List.any_eq_true.mpr ⟨r, mem, restart⟩
  simp [Link.nextWaiting, any]

/-- With every frame taken, none is next. -/
theorem nextWaiting_of_taken (k : Link) (taken : ∀ b ∈ k.buffers, b.taken = true) : k.nextWaiting = none := by
  have none_waits : k.buffers.find? (fun b => !b.taken) = none := by simpa using taken
  simp [Link.nextWaiting, none_waits]

theorem takeWaiting_of_none (most : Nat) (p : Part) (h : p.desk.link.nextWaiting = none) : p.takeWaiting most = p := by
  cases most with
  | zero => rfl
  | succ n => simp [Part.takeWaiting, h]

theorem takeWaiting_of_some (most : Nat) (p : Part) (b : Buffer) (h : p.desk.link.nextWaiting = some b) :
    p.takeWaiting (most + 1) = (p.takeBuffer b).takeWaiting most := by
  simp [Part.takeWaiting, h]

/-! ## Frames that wait behind a RESTART (R187, R193) -/

theorem ofRestart_iff (r : Reply) : r.ofRestart = true ↔ r.kind = 0xF1 ∧ r.status = .ok := by
  simp [Reply.ofRestart]

/-- Where frames wait behind a RESTART alone, none may be taken. -/
theorem WaitsBehindRestart.nextWaiting {k : Link} (h : WaitsBehindRestart k) : k.nextWaiting = none := by
  by_cases all : ∀ b ∈ k.buffers, b.taken = true
  · exact nextWaiting_of_taken k all
  · simp only [not_forall, Bool.not_eq_true] at all
    obtain ⟨b, mem, untaken⟩ := all
    obtain ⟨r, reply, restart⟩ := h b mem untaken
    exact nextWaiting_behind_restart k r reply ((ofRestart_iff r).mpr restart)

theorem WaitsBehindRestart.takeWaiting {p : Part} (h : WaitsBehindRestart p.desk.link) (most : Nat) :
    p.takeWaiting most = p :=
  takeWaiting_of_none most p h.nextWaiting

theorem WaitsBehindRestart.congr {k l : Link} (h : WaitsBehindRestart k) (buffers : l.buffers = k.buffers)
    (replies : l.replies = k.replies) : WaitsBehindRestart l := by
  simpa [WaitsBehindRestart, buffers, replies] using h

/-- A reply more keeps the frames waiting. -/
theorem WaitsBehindRestart.append {k l : Link} (h : WaitsBehindRestart k) (more : List Reply)
    (buffers : l.buffers = k.buffers) (replies : l.replies = k.replies ++ more) : WaitsBehindRestart l := by
  intro b mem untaken
  obtain ⟨r, reply, restart⟩ := h b (buffers ▸ mem) untaken
  exact ⟨r, replies ▸ List.mem_append_left more reply, restart⟩

/-- A reply that has gone keeps them too: after a RESTART no frame is left. -/
theorem WaitsBehindRestart.sent {k : Link} (h : WaitsBehindRestart k) {r : Reply} {rest : List Reply}
    (replies : k.replies = r :: rest) : WaitsBehindRestart (Link.sent r rest k) := by
  intro b mem untaken
  by_cases restart : r.ofRestart = true
  · simp [Link.sent, restart] at mem
  · have held : b ∈ k.buffers := by
      by_cases hb : r.buffered = true
      · exact List.mem_of_mem_drop (i := 1) (by simpa [Link.sent, restart, hb] using mem)
      · simpa [Link.sent, restart, hb] using mem
    obtain ⟨q, reply, ofRestart⟩ := h b held untaken
    refine ⟨q, ?_, ofRestart⟩
    rcases List.mem_cons.mp (replies ▸ reply) with rfl | tail
    · exact absurd ((ofRestart_iff q).mpr ofRestart) restart
    · simpa [Link.sent, restart] using tail

/-- So REPLY_SENT takes no frame: the reply leaves and its buffer is freed. -/
theorem replySent_of_waits (p : Part) (h : WaitsBehindRestart p.desk.link) (r : Reply) (rest : List Reply)
    (tx : p.desk.link.tx = .reply) (replies : p.desk.link.replies = r :: rest) :
    p.replySent = p.onLink (Link.sent r rest) := by
  have kept : WaitsBehindRestart (p.onLink (Link.sent r rest)).desk.link := h.sent replies
  simp only [Part.replySent, tx, replies]
  exact kept.takeWaiting 2

/-- Overrun: with both buffers held, a complete frame changes nothing. -/
theorem frameComplete_overrun (f : Frame) (p : Part) (held : 2 ≤ p.desk.link.buffers.length) : p.frameComplete f = p := by
  simp [Part.frameComplete, Nat.not_lt.mpr held]

/-! ## The transmitter (R185, R190) -/

@[simp] theorem onAir_idle (k : Link) (h : k.tx = .idle) : k.onAir = [] := by simp [Link.onAir, h]

@[simp] theorem onAir_attention (k : Link) (marks : Nat) (h : k.tx = .attention marks) :
    k.onAir = [attentionFrame marks] := by
  simp [Link.onAir, h]

@[simp] theorem onAir_reply (k : Link) (r : Reply) (rest : List Reply) (h : k.tx = .reply) (replies : k.replies = r :: rest) :
    k.onAir = r.frames := by
  simp [Link.onAir, h, replies]

end Sys2Proof.Machine
end

