-- ==== Sys2Proof/Laws/Lists.lean ====
section
/-!
SUPPORT. Laws of the lists: batches, the page queue, the outcome list, the ring, the change set.
-/

namespace Sys2Proof.Machine

/-! ## Batches (R84, R88, R89) -/

theorem heldIn_nil : heldIn [] = 0 := rfl

theorem heldIn_cons (b : Batch) (rest : List Batch) : heldIn (b :: rest) = b.count + heldIn rest := by
  simp [heldIn]

theorem heldIn_append (a b : List Batch) : heldIn (a ++ b) = heldIn a + heldIn b := by
  simp [heldIn]

/-- Taking plates takes just that many. -/
theorem heldIn_takeOldest (n : Nat) (batches : List Batch) : heldIn (takeOldest n batches) = heldIn batches - n := by
  induction batches generalizing n with
  | nil => simp [takeOldest, heldIn]
  | cons b rest ih =>
    unfold takeOldest
    split
    · rw [ih, heldIn_cons]
      omega
    · rw [heldIn_cons, heldIn_cons]
      dsimp only
      omega

/-- Taking plates makes no batch. -/
theorem length_takeOldest (n : Nat) (batches : List Batch) : (takeOldest n batches).length ≤ batches.length := by
  induction batches generalizing n with
  | nil => simp [takeOldest]
  | cons b rest ih =>
    unfold takeOldest
    split
    · exact (ih _).trans (Nat.le_succ _)
    · simp

/-- A batch left holds plates. -/
theorem nonempty_takeOldest (n : Nat) (batches : List Batch) (h : ∀ b ∈ batches, 1 ≤ b.count) :
    ∀ b ∈ takeOldest n batches, 1 ≤ b.count := by
  induction batches generalizing n with
  | nil => simp [takeOldest]
  | cons b rest ih =>
    unfold takeOldest
    split
    · exact ih _ fun c hc => h c (List.mem_cons_of_mem _ hc)
    · intro c hc
      rcases List.mem_cons.mp hc with hc | hc
      · subst hc
        dsimp only
        omega
      · exact h c (List.mem_cons_of_mem _ hc)

/-- Loading adds just that many. -/
theorem heldIn_loadBatch (now : Word) (n : Nat) (batches : List Batch) :
    heldIn (loadBatch now n batches) = heldIn batches + n := by
  unfold loadBatch
  split
  · simp [heldIn]
  · split
    · next h => simp_all
    · next newest h =>
      have hb : batches = batches.dropLast ++ [newest] := by
        rw [List.getLast?_eq_some_iff] at h
        obtain ⟨ys, rfl⟩ := h
        simp
      conv_rhs => rw [hb]
      simp [heldIn, Nat.add_assoc]

theorem length_loadBatch (now : Word) (n : Nat) (batches : List Batch) (h : batches.length ≤ 8) :
    (loadBatch now n batches).length ≤ 8 := by
  unfold loadBatch
  split
  · simp
    omega
  · split
    · exact h
    · simp
      omega

/-- A warm second changes no count. -/
theorem heldIn_dwelt (batches : List Batch) : heldIn (batches.map Batch.dwelt) = heldIn batches := by
  unfold heldIn
  rw [List.map_map]
  rfl

/-! ## The page queue (R159, R161) -/

theorem joinQueue_perm (page : Page) (queue : List Page) : (joinQueue page queue).Perm (page :: queue) := by
  induction queue with
  | nil => exact List.Perm.refl _
  | cons first rest ih =>
    unfold joinQueue
    split
    · exact (ih.cons first).trans (List.Perm.swap page first rest)
    · exact List.Perm.refl _

theorem length_joinQueue (page : Page) (queue : List Page) : (joinQueue page queue).length = queue.length + 1 :=
  (joinQueue_perm page queue).length_eq

theorem mem_joinQueue (page x : Page) (queue : List Page) : x ∈ joinQueue page queue ↔ x = page ∨ x ∈ queue := by
  rw [(joinQueue_perm page queue).mem_iff, List.mem_cons]

/-- The queue stays in order of priority. -/
theorem joinQueue_order (page : Page) (queue : List Page)
    (h : queue.Pairwise fun a b => a.priority ≤ b.priority) :
    (joinQueue page queue).Pairwise fun a b => a.priority ≤ b.priority := by
  induction queue with
  | nil => simp [joinQueue]
  | cons first rest ih =>
    obtain ⟨h1, h2⟩ := List.pairwise_cons.mp h
    unfold joinQueue
    split
    · next le =>
      refine List.pairwise_cons.mpr ⟨fun x hx => ?_, ih h2⟩
      rcases (mem_joinQueue page x rest).mp hx with hx | hx
      · rw [hx]
        exact le
      · exact h1 x hx
    · next lt =>
      refine List.pairwise_cons.mpr ⟨fun x hx => ?_, h⟩
      have le : page.priority ≤ first.priority := by omega
      rcases List.mem_cons.mp hx with hx | hx
      · rw [hx]
        exact le
      · exact le.trans (h1 x hx)

theorem length_updatePage (id : Half) (f : Page → Page) (queue : List Page) :
    (updatePage id f queue).length = queue.length := by simp [updatePage]

theorem length_removePage (id : Half) (queue : List Page) : (removePage id queue).length ≤ queue.length :=
  List.length_filter_le _ _

theorem mem_removePage (id : Half) (x : Page) (queue : List Page) :
    x ∈ removePage id queue ↔ x ∈ queue ∧ x.id ≠ id := by simp [removePage]

/-- The page found stands in the queue under the id. -/
theorem findPage_some (id : Half) (queue : List Page) (page : Page) (h : findPage id queue = some page) :
    page ∈ queue ∧ page.id = id :=
  ⟨List.mem_of_find?_eq_some h, by simpa using List.find?_some h⟩

/-- The page found stands in the queue for the source. -/
theorem findSource_some (source : Source) (queue : List Page) (page : Page) (h : findSource source queue = some page) :
    page ∈ queue ∧ page.source = source :=
  ⟨List.mem_of_find?_eq_some h, by simpa using List.find?_some h⟩

theorem firstQueued_some (queue : List Page) (page : Page) (h : firstQueued queue = some page) :
    page ∈ queue ∧ page.state = .queued :=
  ⟨List.mem_of_find?_eq_some h, by simpa using List.find?_some h⟩

/-- The worst page is a QUEUED page of the queue. -/
theorem worstQueued_some (queue : List Page) (page : Page) (h : worstQueued queue = some page) :
    page ∈ queue ∧ page.state = .queued := by
  induction queue with
  | nil => simp [worstQueued] at h
  | cons first rest ih =>
    unfold worstQueued at h
    split at h
    · next worst hw =>
      cases h
      exact ⟨List.mem_cons_of_mem _ (ih hw).1, (ih hw).2⟩
    · split at h
      · next hs =>
        cases h
        exact ⟨List.mem_cons_self, hs⟩
      · cases h

theorem length_appendOutcome (r : OutcomeRecord) (outcomes : List OutcomeRecord) (h : outcomes.length ≤ 16) :
    (appendOutcome r outcomes).length ≤ 16 := by
  unfold appendOutcome
  split <;> simp <;> omega

/-! ## The ring (R103) -/

theorem Dish.length_appendRing (r : Rack) (d : Dish) (h : d.ring.length ≤ 64) : (d.appendRing r).ring.length ≤ 64 := by
  unfold Dish.appendRing
  split <;> simp <;> omega

@[simp] theorem Dish.appendRing_queue (r : Rack) (d : Dish) : (d.appendRing r).queue = d.queue := by
  unfold Dish.appendRing
  split <;> rfl

@[simp] theorem Dish.appendRing_state (r : Rack) (d : Dish) : (d.appendRing r).state = d.state := by
  unfold Dish.appendRing
  split <;> rfl

/-! ## The change set (R189, R190) -/

/-- A set with no pair twice, each naming a record that exists, holds at most 191 marks. -/
theorem marks_bound (marks : List Mark) (once : marks.Nodup) (named : ∀ m ∈ marks, m.index < m.cls.size) :
    marks.length ≤ 191 := by
  let classes : List MarkClass :=
    [.channel, .loop, .heater, .oven, .program, .cabinet, .stock, .dish, .ring, .wave, .condition, .outcomes]
  let every : List Mark := classes.flatMap fun c => (List.range c.size).map fun i => ⟨c, i⟩
  have sub : marks ⊆ every := by
    intro m hm
    refine List.mem_flatMap.mpr ⟨m.cls, ?_, List.mem_map.mpr ⟨m.index, List.mem_range.mpr (named m hm), rfl⟩⟩
    cases m.cls <;> simp [classes]
  have le := (List.subperm_of_subset once sub).length_le
  have : every.length = 191 := by decide +kernel
  omega

theorem LinkKept.judgeAttention {k : Link} (buffers : k.buffers.length ≤ 2) (waiting : WaitsBehindRestart k)
    (once : k.changeSet.Nodup) (named : ∀ m ∈ k.changeSet, m.index < m.cls.size) : LinkKept k.judgeAttention := by
  refine ⟨by simpa using buffers, by simpa [WaitsBehindRestart] using waiting, by simpa using once, by simpa using named,
    marks_bound _ (by simpa using once) (by simpa using named), fun h => ?_⟩
  unfold Link.judgeAttention
  split
  · next e =>
    rcases Bool.or_eq_true_iff.mp e with e | e
    · exact e
    · rw [Link.judgeAttention_changeSet] at h
      exact absurd (List.isEmpty_iff.mp e) h
  · rfl

/-- A mark of a record that exists keeps the link's invariant. -/
theorem LinkKept.mark {k : Link} (h : LinkKept k) (c : MarkClass) (i : Nat) (hi : i < c.size) :
    LinkKept (k.mark c i) := by
  unfold Link.mark
  split
  · exact h
  · next absent =>
    refine LinkKept.judgeAttention h.buffers h.waiting ?_ ?_
    · exact List.nodup_append.mpr ⟨h.once, by simp, fun a ha b hb => by
        rw [List.mem_singleton] at hb
        subst hb
        exact fun e => absent (e ▸ ha)⟩
    · intro m hm
      rcases List.mem_append.mp hm with hm | hm
      · exact h.named m hm
      · rw [List.mem_singleton] at hm
        subst hm
        exact hi

theorem LinkKept.kick {k : Link} (h : LinkKept k) : LinkKept k.kick :=
  ⟨by simpa using h.buffers, by simpa [WaitsBehindRestart] using h.waiting, by simpa using h.once, by simpa using h.named, by simpa using h.bound,
    by simpa using h.attention⟩

end Sys2Proof.Machine
end

