-- ==== Sys2Proof/Laws/Units.lean ====
section
/-!
SUPPORT. What the work of the ovens, the dish tunnel, the probe scanner and the interlock unit may touch, mark and
write at the desk.
-/

namespace Sys2Proof.Machine

section Units

variable (p : Part) (own : List (Fin 87))

/-! ## Ovens -/

/-- The parts that an oven's work reaches. -/
def ovenFoot : Footprint := { ovens := true, loops := true, waves := true, conds := true, pager := true }

/-- The slots that an oven's work may write: its loop's OVERTEMP, and the waves' own. -/
def ovenReach (n : Fin 6) : List (Fin 87) := overtempSlot (ovenLoop n) :: waveSlots

theorem waveSlots_subset_ovenReach (n : Fin 6) : waveSlots ⊆ ovenReach n := fun _ h => List.mem_cons_of_mem _ h

theorem overtemp_subset_ovenReach (n : Fin 6) : [overtempSlot (ovenLoop n)] ⊆ ovenReach n := by simp [ovenReach]

/-- A change of an oven's state: the cancel notice and the state notice (R75). -/
theorem Part.ovenChanged_works (n : Fin 6) (before : Oven) :
    Works noticeFoot waveSlots p (p.ovenChanged n before) := by
  unfold Part.ovenChanged
  refine Works.trans ?_ (Part.ovenNotice_works _ n)
  split
  · exact (Part.cancelNotice_works p _ _).widen
  · exact Works.refl _ _ _

theorem Part.programDone_works (n : Fin 6) (before o : Oven) :
    Works ovenFoot waveSlots p (p.programDone n before o) := by
  unfold Part.programDone
  dsimp only
  refine Works.trans (Works.trans ?_ (Part.trigger_works _ _ _ _).widen) (Part.ovenChanged_works _ n before).widen
  split
  · exact (Part.setOven_works p _ _ _).widen.trans (Part.requestSetpoint_works _ _ _ _).widen
  · exact (Part.setOven_works p _ _ _).widen.trans (Part.ownerOff_works _ _ _).widen

theorem Part.stepComplete_works (n : Fin 6) (before o : Oven) :
    Works ovenFoot waveSlots p (p.stepComplete n before o) := by
  unfold Part.stepComplete
  split
  · exact (Part.setOven_works p _ _ _).widen.trans (Part.requestSetpoint_works _ _ _ _).widen
  · exact Part.programDone_works p n before o

/-- A timing tick (R64, R69 to R72). -/
theorem Part.ovenTick_works (n : Fin 6) : Works ovenFoot waveSlots p (p.ovenTick n) := by
  unfold Part.ovenTick
  dsimp only
  split
  · exact Works.refl _ _ _
  · split
    · split
      · exact (Part.setOven_works p _ _ _).widen.trans (Part.ovenChanged_works _ n _).widen
      · exact Works.refl _ _ _
    · unfold Part.cookingTick
      dsimp only
      split
      · exact (Part.setOven_works p _ _ _).widen
      · exact Part.stepComplete_works p n _ _
    all_goals exact Works.refl _ _ _

/-- A door change: the oven's record and its loop (R76). -/
theorem Part.ovenDoor_works (n : Fin 6) (isOpen : Bool) :
    Works { ovens := true, loops := true, conds := true, pager := true } [overtempSlot (ovenLoop n)] p
      (p.ovenDoor n isOpen) := by
  unfold Part.ovenDoor
  dsimp only
  split
  · exact (Part.setOven_works p _ _ _).widen
  · split
    · exact (Part.setOven_works p _ _ _).widen.trans (Part.inhibitLoop_works _ _ _).widen
    · exact (Part.setOven_works p _ _ _).widen.trans (Part.releaseLoop_works _ _).widen

/-- A run's end in IDLE (R73, R74, R77). -/
theorem Part.endRun_works (n : Fin 6) (outcome : OvenOutcome) (askOff : Bool) :
    Works ovenFoot (ovenReach n) p (p.endRun n outcome askOff) := by
  have off (q : Part) : Works ovenFoot (ovenReach n) q (if askOff then q.ownerOff (ovenLoop n) else q) := by
    split
    · exact (Part.ownerOff_works q _ _).widen
    · exact Works.refl _ _ _
  have release (q : Part) (b : Bool) : Works ovenFoot (ovenReach n) q (if b then q.releaseLoop (ovenLoop n) else q) := by
    split
    · exact (Part.releaseLoop_works q _).mono rfl (overtemp_subset_ovenReach n)
    · exact Works.refl _ _ _
  unfold Part.endRun
  dsimp only
  exact (((Part.setOven_works p _ _ _).widen.trans (off _)).trans (release _ _)).trans
    ((Part.ovenChanged_works _ n _).mono rfl (waveSlots_subset_ovenReach n))

/-- A START PROGRAM that is taken (R66). -/
theorem Part.startOven_works (n : Fin 6) (g : Fin 16) (first : Step) :
    Works ovenFoot (ovenReach n) p (p.startOven n g first) := by
  have inhibit (q : Part) (b : Bool) : Works ovenFoot (ovenReach n) q (if b then q.inhibitLoop (ovenLoop n) else q) := by
    split
    · exact (Part.inhibitLoop_works q _ _).widen
    · exact Works.refl _ _ _
  unfold Part.startOven
  dsimp only
  refine Works.trans ?_ ((Part.ovenChanged_works _ n _).mono rfl (waveSlots_subset_ovenReach n))
  refine Works.trans ?_ (Part.setOven_works _ _ _ _).widen
  refine Works.trans ?_ ((Part.ownerAuto_works _ _).mono rfl (overtemp_subset_ovenReach n))
  exact ((Part.setOven_works p _ _ _).widen.trans (Part.requestSetpoint_works _ _ _ _).widen).trans (inhibit _ _)

theorem Part.restartOvens_works : Works { ovens := true } own p p.restartOvens := by
  unfold Part.restartOvens
  exact Works.foldl _ (fun q n => Part.setOven_works q own n _) _ p

/-- The slots that the ovens may write together. -/
def ovensReach : List (Fin 87) := ((List.finRange 6).map fun n => overtempSlot (ovenLoop n)) ++ waveSlots

theorem ovenReach_subset (n : Fin 6) : ovenReach n ⊆ ovensReach := by
  intro x hx
  rcases List.mem_cons.mp hx with hx | hx
  · exact List.mem_append_left _ (List.mem_map.mpr ⟨n, List.mem_finRange n, hx.symm⟩)
  · exact List.mem_append_right _ hx

theorem Part.tripOvens_works : Works ovenFoot ovensReach p p.tripOvens := by
  unfold Part.tripOvens
  refine Works.foldl _ (fun q n => ?_) _ p
  split
  · exact Works.refl _ _ _
  · exact (Part.endRun_works q n _ _).mono rfl (ovenReach_subset n)

/-! ## The dish tunnel -/

theorem Part.judgeGate_works : Works { dish := true } own p p.judgeGate := Part.setDish_works p own _

/-- The valve: the dish, and the lock of heater 15 (R116, R49). -/
theorem Part.setValve_works (isOpen : Bool) : Works { dish := true, feeder := true } own p (p.setValve isOpen) := by
  unfold Part.setValve
  split
  · exact Works.refl _ _ _
  · exact (Part.setDish_works p _ _).widen.trans (Part.valveNotice_works _ _ _).widen

theorem Part.judgeValve_works : Works { dish := true, feeder := true } own p p.judgeValve := Part.setValve_works p own _

/-- The slots that work on the racks may write. -/
def rackReach : List (Fin 87) := rinseFailSlot :: rackLostSlot :: exitUnmatchedSlot :: waveSlots

theorem waveSlots_subset_rackReach : waveSlots ⊆ rackReach := fun _ h =>
  List.mem_cons_of_mem _ (List.mem_cons_of_mem _ (List.mem_cons_of_mem _ h))

/-- A removal: the dish, the plates, the lock, the waves, RINSE_FAIL (R102). -/
theorem Part.removeOldest_works (outcome : RackOutcome) (notice : Bool) :
    Works rackFoot rackReach p (p.removeOldest outcome notice) := by
  unfold Part.removeOldest
  split
  · exact Works.refl _ _ _
  · dsimp only
    refine Works.trans (Works.trans ?_ (Part.judgeGate_works _ _).widen) (Part.judgeValve_works _ _).widen
    have moved (q : Part) (k : Option (Fin 4)) (c : Nat) :
        Works rackFoot rackReach q (q.rackExitMove k c outcome notice) :=
      (Part.rackExitMove_works q k c outcome notice).mono rfl waveSlots_subset_rackReach
    have failed (q : Part) (number : Half) : Works rackFoot rackReach q (q.rinseFailed number) :=
      ((Part.raise_works q _ _).mono rfl (by simp [rackReach])).trans (Part.setDish_works _ _ _).widen
    split
    · exact ((Part.setDish_works p _ _).widen.trans (moved _ _ _)).trans (failed _ _)
    · exact (Part.setDish_works p _ _).widen.trans (moved _ _ _)

theorem Part.clearTunnel_works (notice : Bool) : Works rackFoot rackReach p (p.clearTunnel notice) := by
  have count (n : Nat) : ∀ q : Part, Works rackFoot rackReach q (q.removeUnverified notice n) := by
    induction n with
    | zero => exact fun q => Works.refl _ _ q
    | succ n ih => exact fun q => (Part.removeOldest_works q .unverified notice).trans (ih _)
  exact count _ p

/-- A way out of RUNNING (R107, R108, R110). -/
theorem Part.stopTunnel_works (state : DishState) (reasons : HoldReasons) :
    Works { dish := true, feeder := true } own p (p.stopTunnel state reasons) :=
  (Part.setDish_works p _ _).widen.trans (Part.setValve_works _ _ _)

theorem Part.holdTunnel_works (join : HoldReasons → HoldReasons) :
    Works { dish := true, feeder := true } own p (p.holdTunnel join) := by
  unfold Part.holdTunnel
  split
  · exact (Part.setDish_works p _ _).widen
  · exact Part.stopTunnel_works p own _ _
  · exact Part.stopTunnel_works p own _ _
  · exact Part.stopTunnel_works p own _ _
  · exact Works.refl _ _ _

theorem Part.lineHold_works (join : HoldReasons → HoldReasons) :
    Works { dish := true, feeder := true } own p (p.lineHold join) := by
  unfold Part.lineHold
  split
  · exact Part.holdTunnel_works p own join
  · exact Part.holdTunnel_works p own join
  all_goals exact Works.refl _ _ _

theorem Part.endHold_works (leave : HoldReasons → HoldReasons) :
    Works { dish := true, feeder := true } own p (p.endHold leave) := by
  unfold Part.endHold
  split
  · dsimp only
    split
    · exact Works.refl _ _ _
    · split
      · exact ((Part.setDish_works p _ _).widen.trans (Part.judgeGate_works _ _).widen).trans
          (Part.judgeValve_works _ _)
      · exact (Part.setDish_works p _ _).widen
  all_goals exact Works.refl _ _ _

theorem Part.dishDoor_works (isOpen : Bool) : Works { dish := true, feeder := true } own p (p.dishDoor isOpen) := by
  unfold Part.dishDoor
  split
  · exact Part.lineHold_works p own _
  · exact Part.endHold_works p own _

theorem Part.dishOverload_works (asserted : Bool) :
    Works { dish := true, feeder := true } own p (p.dishOverload asserted) := by
  unfold Part.dishOverload
  split
  · exact Part.lineHold_works p own _
  · exact Part.endHold_works p own _

theorem Part.ackReport_works (slot : Fin 87) : Works { dish := true, feeder := true } own p (p.ackReport slot) := by
  unfold Part.ackReport
  split
  · exact ((Part.setDish_works p _ _).trans (Part.judgeGate_works _ _)).widen
  · split
    · exact Part.endHold_works p own _
    · exact Works.refl _ _ _

theorem Part.checkLost_works : Works rackFoot rackReach p p.checkLost := by
  unfold Part.checkLost
  split
  · exact Works.refl _ _ _
  · split
    · exact ((Part.removeOldest_works p _ _).trans ((Part.raise_works _ _ _).mono rfl (by simp [rackReach]))).trans
        (Part.holdTunnel_works _ _ _).widen
    · exact Works.refl _ _ _

theorem Part.tunnelPulse_works : Works rackFoot rackReach p p.tunnelPulse :=
  ((Part.setDish_works p _ _).widen.trans (Part.checkLost_works _)).trans (Part.judgeValve_works _ _).widen

/-- An encoder pulse: the travel counter, the racks, and a rack lost (R101, R119, R180). -/
theorem Part.encoderPulse_works : Works { rackFoot with interlock := true } rackReach p p.encoderPulse :=
  Works.trans (q := { p with interlock := { p.interlock with travel := p.interlock.travel + 1 } })
    (Works.ofTouches _ (by constructor <;> simp) rfl) (Part.tunnelPulse_works _).widen

/-- A rack entry edge: the rack, its plates, the notices (R113). -/
theorem Part.rackEntryEdge_works : Works rackFoot waveSlots p p.rackEntryEdge := by
  unfold Part.rackEntryEdge
  split
  · exact Works.refl _ _ _
  · split
    · exact Works.refl _ _ _
    · unfold Part.trackRack
      dsimp only
      exact (((Part.setDish_works p _ _).widen.trans (Part.rackEntryMove_works _ _ _).widen).trans
        (Part.setDish_works _ _ _).widen).trans (Part.judgeGate_works _ _).widen

/-- A rack exit edge: a removal, or EXIT_UNMATCHED (R118). -/
theorem Part.rackExitEdge_works : Works rackFoot rackReach p p.rackExitEdge := by
  unfold Part.rackExitEdge
  split
  · exact Works.refl _ _ _
  · split
    · exact (Part.raise_works p _ _).mono rfl (by simp [rackReach])
    · split
      · exact Part.removeOldest_works p _ _
      · exact (Part.raise_works p _ _).mono rfl (by simp [rackReach])

theorem Part.temperatureCheck_works : Works { dish := true } own p p.temperatureCheck :=
  (Part.setDish_works p own _).trans (Part.judgeGate_works _ own)

theorem Part.judgeWashCold_works : Works { dish := true, conds := true, pager := true } [washColdSlot] p p.judgeWashCold := by
  unfold Part.judgeWashCold
  dsimp only
  split
  · split
    · exact (Part.setDish_works p [washColdSlot] _).widen.trans (Part.ret_works _ _).widen
    · exact (Part.setDish_works p _ _).widen
  · split
    · split
      · exact (Part.setDish_works p [washColdSlot] _).widen.trans (Part.raise_works _ _ _).widen
      · exact (Part.setDish_works p _ _).widen
    · exact (Part.setDish_works p _ _).widen

theorem Part.dishLoopsOff_works : Works { loops := true } own p p.dishLoopsOff :=
  (Part.ownerOff_works p own _).trans (Part.ownerOff_works _ own _)

/-- The slots that the tunnel's loops may write. -/
def dishLoopSlots : List (Fin 87) := [overtempSlot 14, overtempSlot 15]

theorem Part.dishLoopsAuto_works :
    Works { loops := true, conds := true, pager := true } dishLoopSlots p p.dishLoopsAuto :=
  (((Part.requestSetpoint_works p _ _ _).widen.trans (Part.requestSetpoint_works _ _ _ _).widen).trans
    ((Part.ownerAuto_works _ _).mono rfl (by simp [dishLoopSlots]))).trans
    ((Part.ownerAuto_works _ _).mono rfl (by simp [dishLoopSlots]))

theorem Part.tripTunnel_works : Works { rackFoot with loops := true } rackReach p p.tripTunnel := by
  unfold Part.tripTunnel
  split
  · exact Works.refl _ _ _
  · dsimp only
    exact ((Part.clearTunnel_works p _).widen.trans (Part.stopTunnel_works _ _ _ _).widen).trans
      (Part.dishLoopsOff_works _ _).widen

theorem Part.tripTunnelExit_works :
    Works { dish := true, feeder := true, loops := true, conds := true, pager := true } dishLoopSlots p
      p.tripTunnelExit := by
  unfold Part.tripTunnelExit
  split
  · dsimp only
    have left : Works { dish := true, feeder := true, loops := true, conds := true, pager := true } dishLoopSlots p
        ((p.setDish { p.dish with reasons := { p.dish.reasons with trip := false } }).dishLoopsAuto) :=
      (Part.setDish_works p _ _).widen.trans (Part.dishLoopsAuto_works _).widen
    split
    · exact ((left.trans (Part.setDish_works _ _ _).widen).trans (Part.judgeGate_works _ _).widen).trans
        (Part.judgeValve_works _ _).widen
    · exact left
  · exact Works.refl _ _ _

theorem Part.restartDish_works : Works rackFoot rackReach p p.restartDish :=
  ((Part.clearTunnel_works p _).trans (Part.setDish_works _ _ _).widen).trans (Part.setValve_works _ _ _).widen

/-! ## The probe scanner -/

theorem Part.sampleNotice_works (ch : Fin 23) (value : Int) : Works { dish := true } own p (p.sampleNotice ch value) := by
  unfold Part.sampleNotice
  split
  · unfold Part.washNotice
    dsimp only
    split
    · exact Part.setDish_works p own _
    · exact Works.refl _ _ _
  · split
    · unfold Part.rinseNotice
      dsimp only
      split
      · exact Part.setDish_works p own _
      · exact Works.refl _ _ _
    · exact Works.refl _ _ _

/-- A sample of a channel: its entry, its PROBE_FAULT, the racks (R4 to R9). -/
theorem Part.sampleChannel_works (ch : Fin 23) (raw : Half) :
    Works { scan := true, dish := true, conds := true, pager := true } [probeSlot ch] p (p.sampleChannel ch raw) := by
  unfold Part.sampleChannel
  dsimp only
  split
  · split
    · refine Works.trans ?_ (Part.sampleNotice_works _ _ _ _).widen
      split
      · exact (Part.setEntry_works p [probeSlot ch] _ _).widen.trans (Part.ret_works _ _).widen
      · exact (Part.setEntry_works p _ _ _).widen
    · exact (Part.setEntry_works p _ _ _).widen
  · split
    · exact (Part.setEntry_works p [probeSlot ch] _ _).widen.trans (Part.raise_works _ _ _).widen
    · exact (Part.setEntry_works p _ _ _).widen
  · split
    · exact (Part.setEntry_works p [probeSlot ch] _ _).widen.trans (Part.raise_works _ _ _).widen
    · exact (Part.setEntry_works p _ _ _).widen

/-- A visit (R1). -/
theorem Part.scanVisit_works (raw : Half) :
    Works { scan := true, dish := true, conds := true, pager := true } [probeSlot p.scan.next] p (p.scanVisit raw) := by
  unfold Part.scanVisit
  dsimp only
  split
  · exact Works.trans (q := { p with scan := { p.scan with next := nextChannel p.scan.next, select := p.scan.next } })
      (Works.ofTouches _ (by constructor <;> simp) rfl) (Part.sampleChannel_works _ _ _)
  · exact Works.ofTouches _ (by constructor <;> simp) rfl

theorem Part.restartProbe_works : Works { scan := true } own p p.restartProbe := by
  unfold Part.restartProbe
  refine Works.foldl _ (fun q ch => ?_) _ p
  dsimp only
  split
  · exact Part.putEntry_works q own ch _
  · exact (Part.putEntry_works q own ch _).trans (Works.mark own _ _ _ rfl)

/-! ## The interlock unit -/

/-- The parts that trip entry reaches. -/
def tripFoot : Footprint :=
  { rackFoot with ovens := true, loops := true, interlock := true }

/-- Trip entry: the flag, the grants, the ovens, the tunnel (R181). -/
theorem Part.enterTrip_works : Works tripFoot (ovensReach ++ rackReach) p p.enterTrip := by
  unfold Part.enterTrip
  refine Works.trans (Works.trans (Works.trans
    (q := { p with interlock := { p.interlock with trip := true, driveEnable := false } }) ?_
    (Part.cutGrants_works _ _).widen) ((Part.tripOvens_works _).mono rfl (subset_left fun _ h => h)))
    ((Part.tripTunnel_works _).mono rfl fun _ h => List.mem_append_right _ h)
  exact Works.ofTouches _ (by constructor <;> simp [tripFoot]) rfl

/-- Trip exit (R183). -/
theorem Part.leaveTrip_works :
    Works { dish := true, feeder := true, loops := true, conds := true, pager := true, interlock := true }
      (hoodTripSlot :: dishLoopSlots) p p.leaveTrip := by
  unfold Part.leaveTrip
  refine Works.trans (Works.trans (q := { p with interlock := { p.interlock with trip := false, driveEnable := true } })
    ?_ ((Part.ret_works _ _).mono rfl (by simp)))
    ((Part.tripTunnelExit_works _).mono rfl fun _ h => List.mem_cons_of_mem _ h)
  exact Works.ofTouches _ (by constructor <;> simp) rfl

theorem Part.overloadChange_works (asserted : Bool) :
    Works { dish := true, feeder := true, conds := true, pager := true } [overloadSlot] p (p.overloadChange asserted) := by
  unfold Part.overloadChange
  refine Works.trans ?_ (Part.dishOverload_works _ _ asserted).widen
  split
  · exact (Part.raise_works p _ _).widen
  · exact (Part.ret_works p _).widen

end Units

end Sys2Proof.Machine
end

