-- ==== Sys2Proof/Laws/Wire.lean ====
section
/-!
SUPPORT. Laws of the wire: fields taken apart and put together, ranges and indexes, the cutting of replies into frames,
the receiver.
-/

namespace Sys2Proof

/-! ## Fields -/

theorem half_bytes16 (x : Half) : half (x.extractLsb' 8 8) (x.extractLsb' 0 8) = x := by
  unfold half
  apply BitVec.eq_of_getLsbD_eq
  intro i hi
  simp only [BitVec.getLsbD_append, BitVec.getLsbD_extractLsb']
  split
  · next h => simp [h]
  · next h =>
    have : i - 8 < 8 := by omega
    simp [this, show 8 + (i - 8) = i by omega]

theorem word_bytes32 (x : Word) :
    word (x.extractLsb' 24 8) (x.extractLsb' 16 8) (x.extractLsb' 8 8) (x.extractLsb' 0 8) = x := by
  unfold word half
  apply BitVec.eq_of_getLsbD_eq
  intro i hi
  simp only [BitVec.getLsbD_append, BitVec.getLsbD_extractLsb']
  by_cases h1 : i < 8
  · simp [h1, show i < 16 by omega]
  · by_cases h2 : i < 16
    · simp [h1, h2, show i - 8 < 8 by omega, show 8 + (i - 8) = i by omega]
    · by_cases h3 : i < 24
      · simp [h2, show i - 16 < 8 by omega, show 16 + (i - 16) = i by omega]
      · simp [h2, show ¬ i - 16 < 8 by omega, show i - 16 - 8 < 8 by omega, show 24 + (i - 16 - 8) = i by omega]

@[simp] theorem length_bytes16 (x : Half) : (bytes16 x).length = 2 := rfl

@[simp] theorem length_bytes32 (x : Word) : (bytes32 x).length = 4 := rfl

@[simp] theorem length_stepBytes (s : WireStep) : (stepBytes s).length = 7 := rfl

theorem length_steps (steps : List WireStep) : (steps.flatMap stepBytes).length = 7 * steps.length := by
  induction steps with
  | nil => rfl
  | cons s rest ih =>
    simp [List.flatMap_cons, ih]
    omega

/-- The steps of STORE PROGRAM come back from their bytes. -/
theorem parseSteps_stepBytes (steps : List WireStep) : parseSteps (steps.flatMap stepBytes) = some steps := by
  induction steps with
  | nil => rfl
  | cons s rest ih =>
    simp only [List.flatMap_cons, stepBytes, bytes16, List.cons_append, List.nil_append, parseSteps, ih, half_bytes16]

/-- A list announced by its length comes back from what carries it. -/
theorem splitExactly_append (a b : List Byte) : splitExactly a.length (a ++ b) = some (a, b) := by
  induction a with
  | nil => rfl
  | cons x rest ih => simp [splitExactly, ih]

namespace Machine

/-! ## Ranges and indexes -/

theorem within_iff (lo hi x : Nat) : within lo hi x = true ↔ lo ≤ x ∧ x ≤ hi := by
  simp [within]

theorem index_of_lt {n : Nat} {b : Byte} (h : b.toNat < n) : index n b = some ⟨b.toNat, h⟩ := by
  simp [index, h]

theorem index_of_le {n : Nat} {b : Byte} (h : n ≤ b.toNat) : index n b = none := by
  simp [index, Nat.not_lt.mpr h]

theorem index_eq_some {n : Nat} {b : Byte} {i : Fin n} : index n b = some i ↔ i.val = b.toNat := by
  unfold index
  split
  · constructor
    · intro e
      cases e
      rfl
    · intro e
      congr 1
      exact Fin.ext e.symm
  · next h =>
    constructor
    · intro e
      cases e
    · intro e
      exact absurd (e ▸ i.isLt) h

/-! ## Replies (R188) -/

/-- The frames of a reply carry its pieces in order, and nothing else. -/
theorem flatten_gather (pieces : List (List Byte)) (current : List Byte) :
    (gather current pieces).flatten = current ++ pieces.flatten := by
  induction pieces generalizing current with
  | nil => simp [gather]
  | cons piece rest ih =>
    unfold gather
    split
    · rw [ih]
      simp
    · simp [ih]

/-- No frame of a reply is too long, where no piece is. -/
theorem length_gather (pieces : List (List Byte)) (current : List Byte) (hc : current.length ≤ 238)
    (h : ∀ piece ∈ pieces, piece.length ≤ 238) : ∀ part ∈ gather current pieces, part.length ≤ 238 := by
  induction pieces generalizing current with
  | nil => simpa [gather] using hc
  | cons piece rest ih =>
    have hr : ∀ p ∈ rest, p.length ≤ 238 := fun p hp => h p (List.mem_cons_of_mem _ hp)
    unfold gather
    split
    · next le => exact ih _ (by simpa using le) hr
    · intro part hp
      rcases List.mem_cons.mp hp with hp | hp
      · rw [hp]
        exact hc
      · exact ih piece (h piece List.mem_cons_self) hr part hp

/-! ## The receiver (R186) -/

/-- A completed frame leaves the receiver in HUNT. -/
theorem Receiver.take_complete (rx : Receiver) (b : Byte) (f : Frame) (h : (rx.take b).2 = some f) :
    (rx.take b).1 = .hunt := by
  match rx, h with
  | .check _ _ _ _ (some _), _ => rfl
  | .hunt, h => simp [Receiver.take] at h
  | .length, h => simp [Receiver.take] at h
  | .header _ none, h => simp [Receiver.take] at h
  | .header _ (some _), h => simp [Receiver.take] at h
  | .body _ _ _ _, h => simp [Receiver.take] at h
  | .check _ _ _ _ none, h => simp [Receiver.take] at h

end Machine

end Sys2Proof
end

