-- ==== Sys2Proof/Tests/Slice0.lean ====
section
/-!
SUPPORT. The model's own tests, each about one step on a small state: the smoke tests of well-formedness, the worked
cases of the manual, and for every statement a state and operands that meet its hypotheses, clause by clause at the
ends of their ranges.
-/

namespace Sys2Proof.Tests

set_option Elab.async false

open Sys2Proof.Machine

/-! ## Small states -/

/-- The part after reset. -/
def rest : Part := {}

def state (p : Part) : State := { part := p, pending := [] }

/-- The part after one command. -/
def after (c : Instr) (p : Part) : Part :=
  match exec c (state p) with
  | .next t => t.part
  | .fault _ | .refused _ => p

/-- The status and the fields of the newest reply after one command. -/
def answer (c : Instr) (p : Part) : Option (Status × List (List Byte)) :=
  (after c p).desk.link.replies.getLast?.map fun r => (r.status, r.pieces)

/-- A request refused: the status alone, and the part as it stood but for its link. -/
abbrev refusal (c : Instr) (p : Part) (status : Status) : Bool :=
  decide (answer c p = some (status, []) ∧ { after c p with desk := p.desk } = p)

def onEntry (ch : Fin 23) (f : Entry → Entry) (p : Part) : Part :=
  { p with scan := { p.scan with entries := p.scan.entries.set ch (f (p.scan.entries.get ch)) } }

/-- A channel that reads OK at a temperature. -/
def reads (ch : Fin 23) (value : Int) (p : Part) : Part := onEntry ch (fun e => { e with status := .ok, value }) p

def visiting (ch : Fin 23) (p : Part) : Part := { p with scan := { p.scan with next := ch } }

def onLoop (n : Fin 16) (f : Loop → Loop) (p : Part) : Part := { p with loops := p.loops.set n (f (p.loops.get n)) }

def onHeater (n : Fin 16) (f : Heater → Heater) (p : Part) : Part :=
  { p with feeder := { p.feeder with heaters := p.feeder.heaters.set n (f (p.feeder.heaters.get n)) } }

def onOven (n : Fin 6) (f : Oven → Oven) (p : Part) : Part := { p with ovens := p.ovens.set n (f (p.ovens.get n)) }

def onCabinet (n : Fin 8) (f : Cabinet → Cabinet) (p : Part) : Part :=
  { p with cabinets := p.cabinets.set n (f (p.cabinets.get n)) }

def stocked (kind : Fin 4) (s : Stock) (p : Part) : Part := { p with stock := p.stock.set kind s }

def stored (n : Fin 16) (g : Program) (p : Part) : Part := { p with programs := p.programs.set n g }

def waving (w : Fin 12) (v : Wave) (p : Part) : Part := { p with waves := p.waves.set w (some v) }

def washing (f : Dish → Dish) (p : Part) : Part := { p with dish := f p.dish }

def onSlot (i : Fin 87) (c : Slot) (p : Part) : Part :=
  { p with desk := { p.desk with conds := p.desk.conds.set i c } }

def paging (f : Pager → Pager) (p : Part) : Part := { p with desk := { p.desk with pager := f p.desk.pager } }

def linked (f : Link → Link) (p : Part) : Part := { p with desk := { p.desk with link := f p.desk.link } }

def lined (line : Line) (l : LineState) (p : Part) : Part :=
  { p with interlock := { p.interlock with lines := p.interlock.lines.set (lineIndex line) l } }

def tripped (p : Part) : Part := { p with interlock := { p.interlock with trip := true, driveEnable := false } }

/-- A line about to be taken as asserted. -/
def rises (line : Line) (p : Part) : Part := lined line { raw := true, filtered := false, timing := true } p

/-- A line about to be taken as deasserted. -/
def falls (line : Line) (p : Part) : Part := lined line { raw := false, filtered := true, timing := true } p

/-! ## Well-formedness -/

theorem test_payload_of_240_bytes_is_well_formed :
    (Instr.controlFrameComplete 0xF0 1 (List.replicate 240 0)).wellFormed = true := by decide +kernel

theorem test_payload_of_241_bytes_is_refused :
    (Instr.controlFrameComplete 0xF0 1 (List.replicate 241 0)).wellFormed = false := by decide +kernel

theorem test_program_of_33_steps_is_well_formed :
    (Instr.storeProgram 1 0 33 0 0 (List.replicate 33 ⟨0, 0, 0, 0⟩)).wellFormed = true := by decide +kernel

theorem test_program_of_34_steps_is_refused :
    (Instr.storeProgram 1 0 34 0 0 (List.replicate 34 ⟨0, 0, 0, 0⟩)).wellFormed = false := by decide +kernel

theorem test_wave_lists_of_227_bytes_are_well_formed :
    (Instr.create 1 ⟨1, 0, 1, 0, List.replicate 200 0, List.replicate 27 0, 0, 0⟩).wellFormed = true := by decide +kernel

theorem test_wave_lists_of_228_bytes_are_refused :
    (Instr.create 1 ⟨1, 0, 1, 0, List.replicate 200 0, List.replicate 28 0, 0, 0⟩).wellFormed = false := by decide +kernel

/-! ## The machine -/

theorem test_step_takes_the_front_command :
    step { state rest with pending := [.uptimeSecond, .poll 1] } =
        exec .uptimeSecond { state rest with pending := [.poll 1] } ∧
      (after .uptimeSecond rest).uptime = 1 ∧ step (state rest) = .next (state rest) :=
  ⟨rfl, by decide +kernel, rfl⟩

theorem test_power_on_finds_the_raw_levels :
    ((after .powerOn (rises .hoodTrip { rest with uptime := 7 })).interlock.lines.get 0) =
        { raw := true, filtered := false, timing := true } ∧
      (after .powerOn { rest with uptime := 7 }).uptime = 0 := by decide +kernel

theorem test_a_request_goes_by_its_frame :
    encodeRequest (.readChannel 5 22) = some ⟨0x10, 5, [22]⟩ ∧
      decodeRequest 0x10 5 [22] = .request (.readChannel 5 22) ∧
      after (.readChannel 5 22) rest = ((state rest).answer 0x10 5 (performRequest (.readChannel 5 22) rest)).part := by
  decide +kernel

/-- The longest requests of the three with lists come back from the wire. -/
theorem test_the_longest_requests_come_back :
    decodeRequest 0x40 9 ([3, 33, 0, 1, 0, 2] ++ (List.replicate 33 [1, 0, 3, 0, 60, 0, 4]).flatten) =
        .request (.storeProgram 9 3 33 1 2 (List.replicate 33 ⟨1, 3, 60, 4⟩)) ∧
      encodeRequest (.create 9 ⟨1, 15, 3000, 3, [0, 7], [5], 86400, 7200⟩) =
        some ⟨0x70, 9, [1, 15, 0x0B, 0xB8, 3, 2, 0, 7, 1, 5, 0, 1, 0x51, 0x80, 0x1C, 0x20]⟩ ∧
      decodeRequest 0x70 9 [1, 15, 0x0B, 0xB8, 3, 2, 0, 7, 1, 5, 0, 1, 0x51, 0x80, 0x1C, 0x20] =
        .request (.create 9 ⟨1, 15, 3000, 3, [0, 7], [5], 86400, 7200⟩) := by decide +kernel

theorem test_frames_that_are_no_request :
    decodeRequest 0x13 1 [] = .unknown ∧ decodeRequest 0x10 1 [] = .wrongLength ∧
      decodeRequest 0x10 1 [0, 0] = .wrongLength ∧ decodeRequest 0x40 1 [0, 1, 0, 0, 0, 0, 9] = .wrongLength ∧
      decodeRequest 0x70 1 [1, 0, 0, 1, 0, 5, 0, 0] = .wrongLength := by decide +kernel

/-- A frame refused by each kind of check: UNKNOWN, LENGTH, RANGE, STALE. -/
theorem test_refused_frames :
    (performFrame ⟨0, 1, []⟩ rest).2 = { status := .unknown } ∧ (performFrame ⟨0xF0, 1, [0]⟩ rest).2 = { status := .length } ∧
      (performFrame ⟨0x10, 1, [23]⟩ rest).2 = { status := .range } ∧
      (performFrame ⟨0x80, 1, [85, 2]⟩ (onSlot 85 { state := .active, count := 3 } rest)).2 =
        { status := .stale, pieces := [[3]] } := by decide +kernel

/-! ## Chapter 1 -/

/-- The figures of R3 and of the worked case 1.2.1. -/
theorem test_conversion_figures :
    convert 4500 (-500) 256 = -483 ∧ convert 4500 (-500) 65279 = 3982 ∧ convert 4620 (-512) 300 = -491 ∧
      convert 4620 (-512) 20000 = 897 ∧ convert 4620 (-512) 40000 = 2307 ∧ convert 4620 (-512) 65279 = 4000 ∧
      convert 4500 (-500) 18933 = 800 ∧ convert 4500 (-500) 18950 = 801 := by decide +kernel

theorem test_classes_of_raw_readings :
    classify 255 = .shortBad ∧ classify 256 = .good ∧ classify 65279 = .good ∧ classify 65280 = .openBad := by
  decide +kernel

/-- Channel 14 of the worked case 1.4.1. -/
def probe (status : ChStatus) (kind : SampleKind) (len : Nat) : Part :=
  visiting 14 (onEntry 14 (fun e => { e with status, value := 801, seq := 44, runKind := some kind, runLen := len }) rest)

theorem test_a_good_sample_enters_at_once :
    (after (.scanVisit 256) (visiting 22 rest)).scan.entries.get 22 =
        { value := -483, status := .ok, seq := 1, fresh := true, runKind := some .good, runLen := 1 } ∧
      (after (.scanVisit 256) (visiting 22 rest)).scan.next = 0 := by decide +kernel

/-- S4, S6, S8 and S9 of the worked case. -/
theorem test_a_probe_opens_and_recovers :
    ((after (.scanVisit 65535) (probe .ok .openBad 2)).scan.entries.get 14).status = .openFault ∧
      ((after (.scanVisit 65535) (probe .ok .openBad 2)).desk.conds.get 14) =
        { state := .active, count := 1, param := 65535 } ∧
      (after (.scanVisit 65535) (probe .openFault .good 1)).scan.entries.get 14 =
        { value := 801, status := .openFault, seq := 45, fresh := true, runKind := some .openBad, runLen := 1 } ∧
      ((after (.scanVisit 18933) (probe .openFault .good 1)).scan.entries.get 14).status = .openFault ∧
      (after (.scanVisit 18933) (probe .openFault .good 2)).scan.entries.get 14 =
        { value := 800, status := .ok, seq := 45, fresh := true, runKind := some .good, runLen := 3 } := by decide +kernel

theorem test_a_short_and_the_other_fault :
    ((after (.scanVisit 255) (probe .ok .shortBad 2)).scan.entries.get 14).status = .shortFault ∧
      ((after (.scanVisit 255) (probe .openFault .shortBad 2)).scan.entries.get 14).status = .shortFault ∧
      ((after (.scanVisit 65280) (probe .shortFault .openBad 2)).scan.entries.get 14).status = .openFault ∧
      ((after (.scanVisit 255) (probe .shortFault .shortBad 2)).scan.entries.get 14).runLen = 3 ∧
      ((after (.scanVisit 255) (probe .ok .shortBad 1)).scan.entries.get 14).status = .ok ∧
      let off := visiting 14 (onEntry 14 (fun e => { e with enabled := false, status := .disabled }) rest)
      (after (.scanVisit 255) off).scan.entries = off.scan.entries ∧ (after (.scanVisit 255) off).scan.next = 15 := by
  decide +kernel

/-- Samples of channels 20 and 22 reach the racks (R114, R117, worked case 6.6.1). -/
def rack (position : Nat) : Rack := { number := 37, kind := some 2, count := 24, entry := 40000, interval := none, position }

theorem test_samples_reach_the_racks :
    ((after (.scanVisit 16748) (visiting 20 (reads 20 700 (washing (fun d =>
        { d with state := .running, queue := [rack 850, rack 2051] }) rest)))).dish.queue.map Rack.washMin) =
        [some 649, none] ∧
      (after (.scanVisit 16748) (visiting 20 (reads 20 700 (washing (fun d => { d with queue := [rack 850] }) rest)))).dish =
        { rest.dish with queue := [rack 850] } ∧
      doseOf 830 = 30 ∧ doseOf 800 = 22 ∧ doseOf 920 = 47 ∧ doseOf 700 = 0 ∧
      ((after (.scanVisit 19370) (visiting 22 (reads 22 700 (washing (fun d =>
        { d with valveOpen := true, queue := [rack 2450, rack 2851] }) rest)))).dish.queue.map Rack.dose) = [30, 0] ∧
      ((after (.scanVisit 19370) (visiting 22 (reads 22 700 (washing (fun d =>
        { d with queue := [rack 2450] }) rest)))).dish.queue.map Rack.dose) = [0] := by decide +kernel

/-- The first good sample after UNSCANNED, and the second and the third in a row after a fault (R4, R6, R9). -/
theorem test_a_sample_reaches_the_racks_as_it_updates :
    let washed (f : Entry → Entry) := ((after (.scanVisit 16748) (visiting 20 (onEntry 20 f (washing (fun d =>
      { d with state := .running, queue := [rack 850] }) rest)))).dish.queue.map Rack.washMin)
    let rinsed (f : Entry → Entry) := ((after (.scanVisit 19370) (visiting 22 (onEntry 22 f (washing (fun d =>
      { d with valveOpen := true, queue := [rack 2450] }) rest)))).dish.queue.map Rack.dose)
    let faulted (runLen : Nat) (e : Entry) : Entry := { e with status := .openFault, runKind := some .good, runLen }
    washed id = [some 649] ∧ washed (faulted 1) = [none] ∧ washed (faulted 2) = [some 649] ∧
      rinsed id = [30] ∧ rinsed (faulted 1) = [0] ∧ rinsed (faulted 2) = [30] := by decide +kernel

theorem test_reads_clear_the_fresh_mark :
    ((after (.readChannel 1 22) (onEntry 22 (fun e => { e with fresh := true }) rest)).scan.entries.get 22).fresh = false ∧
      ((after (.readChannels 1 22 1) (onEntry 22 (fun e => { e with fresh := true }) rest)).scan.entries.get 22).fresh =
        false ∧
      refusal (.readChannel 1 23) rest .range ∧ refusal (.readChannels 1 22 2) rest .range ∧
      refusal (.readChannels 1 0 0) rest .range := by decide +kernel

theorem test_configure_channel :
    (after (.configureChannel 1 22 65535 1000 0) (onEntry 22 (fun e => { e with status := .openFault }) rest)).scan.entries.get 22 =
        { gain := 65535, offset := 1000, enabled := false, status := .disabled } ∧
      ((after (.configureChannel 1 0 1 (BitVec.ofInt 16 (-1000)) 1) rest).scan.entries.get 0).offset = -1000 ∧
      refusal (.configureChannel 1 23 1 0 1) rest .range ∧ refusal (.configureChannel 1 0 0 0 1) rest .range ∧
      refusal (.configureChannel 1 0 1 1001 1) rest .range ∧
      refusal (.configureChannel 1 0 1 (BitVec.ofInt 16 (-1001)) 1) rest .range ∧
      refusal (.configureChannel 1 0 1 0 2) rest .range := by decide +kernel

/-! ## Chapter 2 -/

/-- Loop 1 before the first cycle of the worked case 2.4.1. -/
def roast (l : Loop) : Loop :=
  { l with
    cfg := { l.cfg with kc := 400, ti := 18000, td := 1000, n := 4, a := 49152 }, base := .auto, sp := 1800, spf := 1700
    integ := 250000, deriv := -80, yPrev := -1644, uLast := 440, grantRound := 5111, usedRound := 5111 }

theorem test_first_cycle_of_the_worked_case :
    (after (.loopCycle 1) (reads 1 1650 (onLoop 1 roast rest))).loops.get 1 =
      { roast (rest.loops.get 1) with
        spf := 1725, integ := 253333, deriv := -90, yPrev := -1650, uLast := 463, demand := 463 } := by decide +kernel

theorem test_second_cycle_of_the_worked_case :
    (after (.loopCycle 1) (reads 1 1655 (onLoop 1 (fun l => { roast l with
        spf := 1725, integ := 253333, deriv := -90, yPrev := -1650, uLast := 463, grant := 400, grantRound := 5112 })
        rest))).loops.get 1 =
      { roast (rest.loops.get 1) with
        spf := 1743, integ := 241494, deriv := -92, yPrev := -1655, uLast := 501, demand := 501, grant := 400
        grantRound := 5112, usedRound := 5112 } := by decide +kernel

theorem test_a_cycle_that_clears_the_channel_fault :
    let l := (after (.loopCycle 1) (reads 1 1650 (onLoop 1 (fun l => { roast l with chFault := true }) rest))).loops.get 1
    l.chFault = false ∧ l.deriv = -60 ∧ l.usedRound = 5111 ∧ l.demand = 493 := by decide +kernel

/-- Loop 6 of the worked case 2.3.1, in MANUAL. -/
def warm (latch : Bool) (l : Loop) : Loop := { l with base := .manual, manOut := 120, latch }

/-- C2, C4 and C5 of the worked case. -/
theorem test_the_overtemp_latch :
    let c2 := after (.loopCycle 6) (reads 12 1100 (onLoop 6 (warm false) rest))
    let c4 := after (.loopCycle 6) (reads 12 1050 (onLoop 6 (warm true) (onSlot 29 { state := .active, count := 1 } rest)))
    let c5 := after (.loopCycle 6) (reads 12 1049 (onLoop 6 (warm true) (onSlot 29 { state := .active, count := 1 } rest)))
    (c2.loops.get 6).latch = true ∧ (c2.loops.get 6).demand = 0 ∧
      c2.desk.conds.get 29 = { state := .active, count := 1, param := 1100 } ∧ (c4.loops.get 6).demand = 0 ∧
      (c5.loops.get 6).latch = false ∧ (c5.loops.get 6).demand = 120 ∧ (c5.desk.conds.get 29).state = .returned ∧
      ((after (.loopCycle 6) (reads 12 1099 (onLoop 6 (warm false) rest))).loops.get 6).latch = false := by decide +kernel

theorem test_cycles_in_the_other_modes :
    ((after (.loopCycle 6) (onLoop 6 (warm false) rest)).loops.get 6) =
        { warm false (rest.loops.get 6) with chFault := true } ∧
      ((after (.loopCycle 6) (reads 12 700 (onLoop 6 (fun l => { warm false l with ramp := 1000 }) rest))).loops.get 6).demand =
        1000 ∧
      ((after (.loopCycle 6) (reads 12 700 (onLoop 6 (fun l => { l with integ := 5, demand := 3 }) rest))).loops.get 6) =
        { rest.loops.get 6 with spf := 700 } ∧
      ((after (.loopCycle 0) (reads 0 700 (onLoop 0 (fun l => { l with inhibit := true, demand := 3 }) rest))).loops.get 0) =
        { rest.loops.get 0 with inhibit := true, yPrev := -700 } := by decide +kernel

/-- The worked case 2.8.1, and its second part. -/
theorem test_handing_a_cabinet_back_to_auto :
    let l (spf : Int) (out : Nat) (l : Loop) : Loop :=
      { l with base := .manual, manOut := out, spf, demand := out, cfg := { l.cfg with kc := 250, ti := 60000 } }
    let q := after (.setLoopMode 1 9 1) (reads 15 760 (onLoop 9 (l 780 420) rest))
    (q.loops.get 9).integ = 370000 ∧ (q.loops.get 9).uLast = 420 ∧ (q.loops.get 9).demand = 420 ∧
      ((after (.setLoopMode 1 9 1) (reads 15 160 (onLoop 9 (l 780 100) rest))).loops.get 9).integ = -1000000 ∧
      ((after (.setLoopMode 1 9 1) (onLoop 9 (l 780 100) rest)).loops.get 9).chFault = true := by decide +kernel

theorem test_loop_mode_transfers :
    ((after (.setLoopMode 1 15 2) (onLoop 15 (fun l => { l with base := .auto, demand := 463, uLast := 500 }) rest)).loops.get 15) =
        { rest.loops.get 15 with base := .manual, manOut := 463, uLast := 463, demand := 463 } ∧
      answer (.setLoopMode 1 15 2) (onLoop 15 (warm false) rest) = some (.ok, []) ∧
      answer (.setLoopMode 1 15 1) (onLoop 15 (fun l => { l with base := .auto }) rest) = some (.ok, []) ∧
      refusal (.setLoopMode 1 15 1) rest .state ∧
      refusal (.setLoopMode 1 0 2) (onLoop 0 (fun l => { warm false l with inhibit := true }) rest) .state ∧
      refusal (.setLoopMode 1 16 1) rest .range ∧ refusal (.setLoopMode 1 0 0) rest .range ∧
      refusal (.setLoopMode 1 0 3) rest .range := by decide +kernel

theorem test_manual_output_and_setpoint :
    let held := onLoop 15 (fun l => { warm false l with cfg := { l.cfg with satLow := 100, satHigh := 900 } }) rest
    answer (.setManualOutput 1 15 1000 1000) held = some (.okTaken, [[0x03, 0x84]]) ∧
      answer (.setManualOutput 1 15 900 (BitVec.ofInt 16 (-1000))) held = some (.ok, []) ∧
      refusal (.setManualOutput 1 15 0 0) rest .state ∧ refusal (.setManualOutput 1 16 0 0) held .range ∧
      refusal (.setManualOutput 1 15 1001 0) held .range ∧ refusal (.setManualOutput 1 15 0 1001) held .range ∧
      refusal (.setManualOutput 1 15 0 (BitVec.ofInt 16 (-1001))) held .range ∧
      answer (.setLoopSetpoint 1 15 951) rest = some (.okTaken, [[0x03, 0xB6]]) ∧
      answer (.setLoopSetpoint 1 15 950) rest = some (.ok, []) ∧
      ((after (.setLoopSetpoint 1 0 (BitVec.ofInt 16 (-1))) rest).loops.get 0).sp = 0 ∧
      refusal (.setLoopSetpoint 1 16 0) rest .range := by decide +kernel

/-- The fields of a CONFIGURE LOOP at the ends of their ranges. -/
def lowest : LoopFields := ⟨10, 1, 0, 0, 0, 0, 1, 0, 1, 0, 1, 0, 0, 0⟩

def highest : LoopFields := ⟨600, 99999, 99999, 99999, 255, 255, 255, 65535, 65535, 999, 1000, 4000, 4000, 200⟩

theorem test_configure_loop :
    let running := onLoop 15 (fun l => { l with base := .auto, sp := 900, uLast := 500, demand := 500 }) rest
    ((after (.configureLoop 1 15 lowest) running).loops.get 15).demand = 1 ∧
      ((after (.configureLoop 1 15 lowest) running).loops.get 15).sp = 0 ∧
      ((after (.configureLoop 1 15 highest) running).loops.get 15).demand = 999 ∧
      ((after (.configureLoop 1 0 highest) (onLoop 0 (warm false) rest)).loops.get 0).demand = 999 ∧
      refusal (.configureLoop 1 16 lowest) rest .range ∧ refusal (.configureLoop 1 0 { lowest with tcyc := 9 }) rest .range ∧
      refusal (.configureLoop 1 0 { lowest with n := 0 }) rest .range ∧
      refusal (.configureLoop 1 0 { highest with satLow := 1000 }) rest .range ∧
      refusal (.configureLoop 1 0 { highest with hysteresis := 201 }) rest .range := by decide +kernel

/-! ## Chapter 3 -/

/-- A heater with its rating, class and demand. -/
def heated (n : Fin 16) (rated : Nat) (cls : HeaterClass) (demand : Nat) (p : Part) : Part :=
  onHeater n (fun h => { h with rated, cls }) (onLoop n (fun l => { l with demand }) p)

/-- The kitchen of the worked case 3.4, under a requested and an applied budget. -/
def kitchen34 (requested applied : Nat) : Part :=
  let cabinets := heated 10 3000 .standby 400 (heated 11 3000 .standby 400 (heated 12 3000 .standby 400
    (heated 13 3000 .standby 400 rest)))
  let ovens := heated 0 18000 .service 800 (heated 1 18000 .service 900 (heated 2 18000 .standby 700
    (heated 3 18000 .standby 500 cabinets)))
  let all := heated 8 3000 .service 1000 (heated 9 3000 .service 600 (heated 14 12000 .sanitise 500
    (heated 15 36000 .sanitise 1000 ovens)))
  { all with feeder := { all.feeder with requested, applied, reduced := 60000 } }

def grants (p : Part) : List Nat := p.feeder.heaters.items.map Heater.grant

theorem test_the_worked_division :
    let p := after .allocationRound (kitchen34 90000 0)
    grants p = [800, 900, 334, 238, 0, 0, 0, 0, 1000, 600, 190, 190, 190, 190, 500, 1000] ∧
      p.feeder.grantedTotal = 89996 ∧ p.feeder.deliveredTotal = 89976 ∧ p.feeder.round = 1 ∧
      (p.loops.get 2).grant = 334 ∧ (p.feeder.heaters.get 2).starve = 2 ∧ (p.feeder.heaters.get 0).starve = 0 := by
  decide +kernel

/-- The worked cases 3.5 and 3.6, and the trip state. -/
theorem test_scaled_classes_and_the_trip_state :
    grants (after .allocationRound (kitchen34 30000 0)) = [0, 0, 0, 0, 0, 0, 0, 0, 0, 0, 0, 0, 0, 0, 357, 714] ∧
      (after .allocationRound (kitchen34 30000 0)).feeder.deliveredTotal = 29988 ∧
      grants (after .allocationRound (kitchen34 60000 90000)) = [406, 457, 0, 0, 0, 0, 0, 0, 508, 305, 0, 0, 0, 0, 500, 1000] ∧
      (after .allocationRound (kitchen34 60000 90000)).feeder.deliveredTotal = 59973 ∧
      (after .allocationRound (tripped (kitchen34 90000 0))).feeder.grantedTotal = 0 := by decide +kernel

/-- Rounds 201 and 204 of the worked case 3.6. -/
theorem test_a_reduction_waits_for_the_lock :
    let asked := lined .feederReduce { raw := true, filtered := true, timing := false } (kitchen34 60000 90000)
    let held := after .allocationRound (onHeater 15 (fun h => { h with locked := true }) asked)
    let free := after .allocationRound asked
    held.feeder.applied = 90000 ∧ held.feeder.pending = true ∧ held.feeder.reducedAck = false ∧
      free.feeder.applied = 60000 ∧ free.feeder.pending = false ∧ free.feeder.reducedAck = true := by decide +kernel

theorem test_starvation :
    let p (starve : Nat) (starved : Bool) (demand : Nat) :=
      after .allocationRound (onHeater 0 (fun h => { h with starve, starved }) (heated 0 1000 .standby demand rest))
    (p 298 false 51).feeder.heaters.get 0 =
        { rated := 1000, cls := .standby, grantRound := 1, starve := 300, starved := true } ∧
      ((p 298 false 51).desk.conds.get 39).state = .active ∧ ((p 297 false 51).feeder.heaters.get 0).starved = false ∧
      ((p 1800 true 1000).feeder.heaters.get 0).starve = 1800 ∧ ((p 298 false 50).feeder.heaters.get 0).starve = 0 ∧
      ((p 300 true 50).feeder.heaters.get 0).starved = false := by decide +kernel

theorem test_burst_steps :
    let p (nextStep : Nat) : Part := onHeater 0 (fun h => { h with grant := 1 }) { rest with feeder := { rest.feeder with nextStep } }
    ((after .heaterBurstStep (p 999)).feeder.heaters.get 0).output = true ∧
      (after .heaterBurstStep (p 999)).feeder.nextStep = 1000 ∧ after .heaterBurstStep (p 1000) = p 1000 ∧
      ((after .heaterBurstStep (p 0)).feeder.heaters.get 0).output = false ∧
      ((List.range 1000).filter fun k => burstOn 334 k).length = 334 := by decide +kernel

theorem test_heater_configuration :
    let p := onHeater 15 (fun h => { h with grant := 9, assigned := 8, delivered := 7, output := true })
      { rest with feeder := { rest.feeder with grantedTotal := 10, deliveredTotal := 10 } }
    ((after (.configureHeater 1 15 60000) p).feeder.heaters.get 15) = { rated := 60000, cls := .sanitise } ∧
      (after (.configureHeater 1 15 60000) p).feeder.grantedTotal = 2 ∧
      refusal (.configureHeater 1 16 0) p .range ∧ refusal (.configureHeater 1 15 60001) p .range ∧
      refusal (.configureHeater 1 15 0) (onLoop 15 (fun l => { l with base := .auto }) p) .state := by decide +kernel

theorem test_feeder_configuration :
    (after (.configureFeeder 1 600000 600000 1800) rest).feeder.requested = 600000 ∧
      (after (.configureFeeder 1 0 0 60) (lined .feederReduce { raw := true, filtered := true, timing := false } rest)).feeder.reducedAck =
        true ∧
      refusal (.configureFeeder 1 600001 0 60) rest .range ∧ refusal (.configureFeeder 1 5 6 60) rest .range ∧
      refusal (.configureFeeder 1 0 0 59) rest .range ∧ refusal (.configureFeeder 1 0 0 1801) rest .range := by
  decide +kernel

/-! ## Chapter 4 -/

/-- Program 4 of the worked case 4.10. -/
def roastProgram : Program := { steps := [.timed 1800 600, .core 1600 2400 630], hold := 700 }

/-- Oven 1 in a state of the worked case, at a step. -/
def roasting (state : OvenState) (step elapsed : Nat) : Part :=
  onLoop 1 (fun l => { l with base := .auto, sp := 1800 })
    (stored 4 roastProgram (onOven 1 (fun o => { o with state, program := 4, step, elapsed }) rest))

theorem test_store_program :
    let steps : List WireStep := [⟨0, 4000, 14400, 9999⟩, ⟨1, 0, 60, 4000⟩]
    (after (.storeProgram 1 15 2 4000 500 steps) rest).programs.get 15 =
        { steps := [.timed 4000 14400, .core 0 60 4000], hold := 4000, band := 500 } ∧
      refusal (.storeProgram 1 4 0 0 0 []) (roasting .cooking 1 0) .busy ∧
      answer (.storeProgram 1 4 0 0 0 []) (roasting .finished 1 0) = some (.ok, []) ∧
      refusal (.storeProgram 1 16 0 0 0 []) rest .range ∧ refusal (.storeProgram 1 0 1 0 0 []) rest .range ∧
      refusal (.storeProgram 1 0 9 0 0 (List.replicate 9 ⟨0, 0, 1, 0⟩)) rest .range ∧
      refusal (.storeProgram 1 0 0 4001 0 []) rest .range ∧ refusal (.storeProgram 1 0 0 0 501 []) rest .range ∧
      refusal (.storeProgram 1 0 1 0 0 [⟨1, 0, 59, 0⟩]) rest .range ∧
      refusal (.storeProgram 1 0 1 0 0 [⟨2, 0, 60, 0⟩]) rest .range := by decide +kernel

theorem test_start_program :
    let p := { roasting .idle 2 5 with uptime := 10000 }
    let q := after (.startProgram 1 1 4) (onLoop 1 (fun l => { l with base := .off, sp := 0 }) (reads 1 250 p))
    q.ovens.get 1 = { state := .preheating, program := 4, step := 1, start := 10000 } ∧
      (q.loops.get 1).sp = 1800 ∧ (q.loops.get 1).base = .auto ∧ (q.loops.get 1).demand = 1000 ∧
      ((after (.startProgram 1 1 4) (onOven 1 (fun o => { o with doorOpen := true }) p)).loops.get 1).inhibit = true ∧
      refusal (.startProgram 1 1 4) (roasting .holding 2 0) .busy ∧ refusal (.startProgram 1 1 3) p .empty ∧
      refusal (.startProgram 1 1 4) (onSlot 1 { state := .returned, count := 1 } p) .faultPending ∧
      refusal (.startProgram 1 1 4) (onSlot 24 { state := .active, count := 1 } p) .faultPending ∧
      refusal (.startProgram 1 1 4) (tripped p) .tripped ∧ refusal (.startProgram 1 6 0) p .range ∧
      refusal (.startProgram 1 5 16) p .range := by decide +kernel

theorem test_oven_requests :
    ((after (.foodLoaded 1 1) (roasting .loadWait 1 0)).ovens.get 1).state = .cooking ∧
      refusal (.foodLoaded 1 1) (roasting .cooking 1 0) .state ∧ refusal (.foodLoaded 1 6) rest .range ∧
      ((after (.unload 1 1) (roasting .holding 2 9)).ovens.get 1) = { state := .idle, program := 4, step := 2, elapsed := 9 } ∧
      ((after (.unload 1 1) (roasting .holding 2 9)).loops.get 1).base = .off ∧
      ((after (.unload 1 1) (onLoop 1 (fun l => { l with base := .off }) (roasting .finished 2 9))).ovens.get 1).state = .idle ∧
      refusal (.unload 1 1) (roasting .loadWait 2 9) .state ∧ refusal (.unload 1 6) rest .range ∧
      ((after (.abort 1 1) (roasting .preheating 1 0)).ovens.get 1).outcome = .aborted ∧
      refusal (.abort 1 1) (roasting .idle 1 0) .state ∧ refusal (.abort 1 6) rest .range := by decide +kernel

/-- The ticks at 10,912, 11,918 and 13,200 of the worked case, and a step that falls back. -/
theorem test_oven_ticks :
    ((after (.ovenTimingTick 1) (reads 1 1700 (roasting .preheating 1 0))).ovens.get 1).state = .loadWait ∧
      after (.ovenTimingTick 1) (reads 1 1699 (roasting .preheating 1 0)) = reads 1 1699 (roasting .preheating 1 0) ∧
      (after (.ovenTimingTick 1) (reads 1 1700 (roasting .cooking 1 599))).ovens.get 1 =
        { state := .cooking, program := 4, step := 2, elapsed := 0, stepEnd := .timed } ∧
      ((after (.ovenTimingTick 1) (reads 1 1700 (roasting .cooking 1 599))).loops.get 1).sp = 1600 ∧
      ((after (.ovenTimingTick 1) (reads 1 1699 (roasting .cooking 1 599))).ovens.get 1).elapsed = 599 ∧
      (after (.ovenTimingTick 1) (reads 1 1600 (reads 7 630 (roasting .cooking 2 1281)))).ovens.get 1 =
        { state := .holding, program := 4, step := 2, elapsed := 1282, stepEnd := .coreTarget, outcome := .done } ∧
      ((after (.ovenTimingTick 1) (reads 1 1600 (reads 7 629 (roasting .cooking 2 2399)))).ovens.get 1).stepEnd = .coreLimit ∧
      ((after (.ovenTimingTick 1) (reads 1 1600 (roasting .cooking 2 2399))).ovens.get 1).stepEnd = .coreFallback ∧
      ((after (.ovenTimingTick 1) (reads 1 1700 (stored 4 { roastProgram with steps := [.timed 1800 600], hold := 0 }
        (roasting .cooking 1 599)))).ovens.get 1).state = .finished ∧
      after (.ovenTimingTick 1) (roasting .loadWait 1 0) = roasting .loadWait 1 0 := by decide +kernel

/-- The cook that ends sends PROGRAM_DONE with its program's number (R72, R160). -/
theorem test_a_cook_that_ends_sends_program_done :
    let p := after (.ovenTimingTick 1) (paging (fun g => { g with port := .waiting, routes := g.routes.set 13 { enabled := true } })
      (reads 1 1600 (reads 7 630 (roasting .cooking 2 1281))))
    (p.desk.pager.queue.map fun q => (q.source, q.param)) = [(.oven 1, 4)] ∧
      (after (.ovenTimingTick 1) (paging (fun g => { g with port := .waiting })
        (reads 1 1600 (reads 7 630 (roasting .cooking 2 1281))))).desk.pager.queue = [] := by decide +kernel

/-! ## Chapter 5 -/

/-- The batches of cabinet 2 in the worked case 5.5. -/
def batches55 : List Batch :=
  [⟨15, 20000, 1500⟩, ⟨10, 20100, 1400⟩, ⟨12, 20300, 1200⟩, ⟨10, 20500, 1000⟩, ⟨10, 20700, 800⟩, ⟨11, 20900, 600⟩,
    ⟨12, 21100, 400⟩, ⟨10, 21300, 200⟩]

def serving55 : Wave :=
  { state := .serving, number := 3, ballroom := 0, covers := 400, kind := 1, cabinets := [2], ovens := [], due := 0
    lead := 0, issued := 350 }

/-- The kitchen of the worked case, PLATES_LOW being routed. -/
def kitchen55 : Part :=
  let p := onCabinet 2 (fun c => { c with kind := 1, mode := .service, waveSlot := some 3, waveSet := true, batches := batches55 })
    (waving 3 serving55 (stocked 1 { total := 900, soiled := 300, tunnel := 60, clean := 250, issued := 200 } rest))
  paging (fun g => { g with port := .down, routes := g.routes.set 15 { enabled := true } }) { p with uptime := 21500 }

theorem test_load_in_the_worked_case :
    let p := after (.load 1 2 20) kitchen55
    (p.cabinets.get 2).batches = batches55.dropLast ++ [⟨30, 21500, 0⟩] ∧ (p.stock.get 1).clean = 230 ∧
      answer (.load 1 2 20) kitchen55 = some (.ok, [[0, 20, 0, 0]]) ∧
      answer (.load 1 2 31) kitchen55 = some (.okTaken, [[0, 30, 0, 30, 0, 1]]) := by decide +kernel

theorem test_issue_in_the_worked_case :
    let p := after (.issue 1 2 20) kitchen55
    (p.cabinets.get 2).batches = ⟨5, 20100, 1400⟩ :: batches55.drop 2 ∧ (p.stock.get 1).issued = 220 ∧
      (p.waves.get 3).map Wave.issued = some 370 ∧ answer (.issue 1 2 20) kitchen55 = some (.ok, [[0, 20, 0, 0, 0, 0]]) ∧
      p.desk.pager.queue.map Page.param = [17] ∧
      ((after (.issue 1 2 50) kitchen55).waves.get 3).map Wave.state = some .closed ∧
      answer (.issue 1 2 91) kitchen55 = some (.okTaken, [[0, 90, 0, 90, 0, 1, 0, 53]]) := by decide +kernel

/-- An ISSUE that leaves the cabinet at or above its low mark, or with more plates than its mark not ready (R95). -/
theorem test_an_issue_judges_the_low_mark :
    let params (p : Part) := (after (.issue 1 2 20) p).desk.pager.queue.map Page.param
    let marked (lowMark : Nat) := onCabinet 2 (fun c => { c with lowMark }) kitchen55
    params (marked 17) = [] ∧ params (marked 18) = [17] ∧
      params (onCabinet 2 (fun c => { c with warmTime := 1401 }) (marked 10)) = [0] := by decide +kernel

theorem test_plate_requests_turned_away :
    refusal (.load 1 8 1) kitchen55 .range ∧ refusal (.load 1 2 0) kitchen55 .range ∧
      refusal (.load 1 2 1) (tripped kitchen55) .tripped ∧ refusal (.issue 1 8 1) kitchen55 .range ∧
      refusal (.issue 1 2 0) kitchen55 .range ∧ refusal (.unloadPlates 1 8 1) kitchen55 .range ∧
      refusal (.unloadPlates 1 2 0) kitchen55 .range ∧
      answer (.load 1 0 1) kitchen55 = some (.okTaken, [[0, 0, 0, 0, 0, 1]]) ∧
      answer (.issue 1 0 1) kitchen55 = some (.okTaken, [[0, 0, 0, 0, 0, 1, 0, 0]]) ∧
      answer (.unloadPlates 1 0 1) kitchen55 = some (.okTaken, [[0, 0, 0, 0, 0, 1]]) := by decide +kernel

theorem test_load_begins_a_batch_and_unload_takes_the_oldest :
    let p := onCabinet 2 (fun c => { c with batches := batches55.take 7 }) kitchen55
    ((after (.load 1 2 1) p).cabinets.get 2).batches = batches55.take 7 ++ [⟨1, 21500, 0⟩] ∧
      ((after (.unloadPlates 1 2 15) p).cabinets.get 2).batches = (batches55.take 7).drop 1 ∧
      ((after (.unloadPlates 1 2 15) p).stock.get 1).clean = 265 ∧ heldIn (takeOldest 90 batches55) = 0 ∧
      takeOldest 15 batches55 = batches55.drop 1 ∧ takeOldest 16 batches55 = ⟨9, 20100, 1400⟩ :: batches55.drop 2 := by
  decide +kernel

theorem test_stock_requests :
    ((after (.stockAdd 1 1 64635) kitchen55).stock.get 1).total = 65535 ∧
      refusal (.stockAdd 1 1 64636) kitchen55 .range ∧ refusal (.stockAdd 1 4 1) rest .range ∧
      refusal (.stockAdd 1 0 0) rest .range ∧
      ((after (.returnPlates 1 1 201) kitchen55).stock.get 1) =
        { total := 900, soiled := 500, tunnel := 60, clean := 250, issued := 0 } ∧
      answer (.returnPlates 1 1 200) kitchen55 = some (.ok, [[0, 200, 0, 0]]) ∧
      answer (.returnPlates 1 0 1) kitchen55 = some (.okTaken, [[0, 0, 0, 0, 0, 1]]) ∧
      refusal (.returnPlates 1 4 1) rest .range ∧ refusal (.returnPlates 1 0 0) rest .range := by decide +kernel

theorem test_write_off :
    ((after (.writeOff 1 1 8 301) kitchen55).stock.get 1).soiled = 0 ∧
      ((after (.writeOff 1 1 9 250) kitchen55).stock.get 1).clean = 0 ∧
      ((after (.writeOff 1 1 10 1) kitchen55).stock.get 1).issued = 199 ∧
      ((after (.writeOff 1 1 2 15) kitchen55).cabinets.get 2).batches = batches55.drop 1 ∧
      ((after (.writeOff 1 1 2 15) kitchen55).stock.get 1).total = 885 ∧
      answer (.writeOff 1 0 7 1) kitchen55 = some (.okTaken, [[0, 0, 0, 0, 0, 1]]) ∧
      refusal (.writeOff 1 1 7 1) kitchen55 .range ∧ refusal (.writeOff 1 4 8 1) kitchen55 .range ∧
      refusal (.writeOff 1 1 11 1) kitchen55 .range ∧ refusal (.writeOff 1 1 8 0) kitchen55 .range := by decide +kernel

/-- The fields of a CONFIGURE CABINET at the ends of their ranges. -/
def fewest : CabinetFields := ⟨1, 120, 0, 0, 0, 60, 0⟩

def most : CabinetFields := ⟨3, 300, 4000, 4000, 4000, 5400, 300⟩

theorem test_configure_cabinet :
    ((after (.configureCabinet 1 7 most) rest).cabinets.get 7) =
        { kind := 3, capacity := 300, standbySp := 4000, serviceSp := 4000, readyTemp := 4000, warmTime := 5400, lowMark := 300 } ∧
      ((after (.configureCabinet 1 2 fewest) (onLoop 8 (fun l => { l with sp := 800 }) kitchen55)).loops.get 8).sp = 0 ∧
      refusal (.configureCabinet 1 2 most) kitchen55 .state ∧
      refusal (.configureCabinet 1 2 { fewest with kind := 0 }) (onCabinet 2 (fun c => { c with batches := [] }) kitchen55) .state ∧
      refusal (.configureCabinet 1 8 most) rest .range ∧ refusal (.configureCabinet 1 0 { most with kind := 4 }) rest .range ∧
      refusal (.configureCabinet 1 0 { most with capacity := 301 }) rest .range ∧
      refusal (.configureCabinet 1 0 { most with warmTime := 59 }) rest .range := by decide +kernel

theorem test_cabinet_modes :
    let p := after (.setCabinetMode 1 2 1) kitchen55
    (p.cabinets.get 2).mode = .standby ∧ (p.cabinets.get 2).waveSet = false ∧ (p.loops.get 8).sp = 500 ∧
      (p.loops.get 8).base = .auto ∧ (p.feeder.heaters.get 8).cls = .standby ∧
      ((after (.setCabinetMode 1 7 2) rest).feeder.heaters.get 13).cls = .service ∧
      ((after (.setCabinetMode 1 2 0) (onLoop 8 (fun l => { l with base := .auto }) kitchen55)).loops.get 8).base = .off ∧
      ((after (.setCabinetMode 1 2 2) kitchen55).cabinets.get 2).waveSet = false ∧
      refusal (.setCabinetMode 1 8 0) rest .range ∧ refusal (.setCabinetMode 1 0 3) rest .range := by decide +kernel

theorem test_seconds :
    let cold := { reads 14 649 kitchen55 with uptime := 0xFFFFFFFE }
    after (.warmTick 2) cold = cold ∧ after (.warmTick 0) kitchen55 = kitchen55 ∧
      ((after (.warmTick 2) (reads 14 650 kitchen55)).cabinets.get 2).batches.map Batch.dwell =
        [1501, 1401, 1201, 1001, 801, 601, 401, 201] ∧
      (after .uptimeSecond cold).uptime = 0xFFFFFFFF := by decide +kernel

/-! ## Chapter 6 -/

/-- A RUNNING tunnel with warm water and a queue, its valve as given. -/
def running (queue : List Rack) (valveOpen : Bool) : Part :=
  onHeater 15 (fun h => { h with locked := valveOpen }) (washing (fun d =>
    { d with state := .running, conveyor := true, tankWarm := true, boosterHot := true, gateOpen := true, queue, valveOpen })
    (stocked 2 { total := 100, soiled := 76, tunnel := 24 } { rest with uptime := 40090 }))

def held (reasons : HoldReasons) : Part := washing (fun d => { d with state := .held, reasons }) rest

/-- The fields of a CONFIGURE DISH at the ends of their ranges. -/
def smallest : DishFields := ⟨0, 0, 0, 0, 100, 1000, 0, 1, 999, 1000, 50⟩

def largest : DishFields := ⟨4000, 4000, 4000, 4000, 10000, 6000, 5999, 6000, 5999, 6000, 300⟩

/-- The power-on configuration with other loop setpoints. -/
def trimmed : DishFields := ⟨700, 600, 900, 820, 1100, 3000, 600, 1800, 2200, 2600, 150⟩

theorem test_configure_dish :
    (after (.configureDish 1 largest) rest).dish.cfg.tunnelLength = 6000 ∧
      (after (.configureDish 1 smallest) rest).dish.cfg.dose = 100 ∧
      ((after (.configureDish 1 trimmed) (running [] false)).loops.get 14).sp = 700 ∧
      ((after (.configureDish 1 trimmed) (held { door := true })).loops.get 15).sp = 900 ∧
      ((after (.configureDish 1 trimmed) (held { trip := true })).loops.get 15).sp = 0 ∧
      refusal (.configureDish 1 largest) (running [] false) .state ∧
      refusal (.configureDish 1 { smallest with dose := 99 }) rest .range ∧
      refusal (.configureDish 1 { smallest with washEnd := 0 }) rest .range ∧
      refusal (.configureDish 1 { largest with rinseEnd := 6001 }) rest .range ∧
      refusal (.configureDish 1 { largest with exitTolerance := 301 }) rest .range := by decide +kernel

theorem test_dish_on_run_and_stop :
    (after (.dishOn 1) rest).dish.state = .warming ∧ ((after (.dishOn 1) rest).loops.get 14).sp = 650 ∧
      ((after (.dishOn 1) rest).loops.get 15).base = .auto ∧ refusal (.dishOn 1) (tripped rest) .tripped ∧
      refusal (.dishOn 1) (running [] false) .state ∧
      (after (.run 1) (washing (fun d => { d with state := .ready, tankWarm := true, boosterHot := true, queue := [rack 2450] }) rest)).dish =
        { rest.dish with
          state := .running, tankWarm := true, boosterHot := true, queue := [rack 2450], conveyor := true
          gateOpen := true, valveOpen := true } ∧
      refusal (.run 1) (tripped rest) .tripped ∧ refusal (.run 1) rest .state ∧
      refusal (.run 1) (lined .dishDoor { raw := true, filtered := true, timing := false }
        (washing (fun d => { d with state := .ready }) rest)) .state ∧
      refusal (.run 1) (lined .conveyorOverload { raw := true, filtered := true, timing := false }
        (washing (fun d => { d with state := .ready }) rest)) .state ∧
      (after (.stop 1) (running [rack 2600] true)).dish.valveOpen = false ∧
      ((after (.stop 1) (running [rack 2600] true)).feeder.heaters.get 15).locked = false ∧
      refusal (.stop 1) (held {}) .state := by decide +kernel

theorem test_dish_off_clears_the_tunnel :
    let full := washing (fun d => { d with ring := List.replicate 64 (rack 1), overwrites := 65535, washCold := true })
      (onSlot 55 { state := .active, count := 1 } (running [rack 2600] true))
    let p := after (.dishOff 1) full
    p.dish.queue = [] ∧ p.dish.ring.length = 64 ∧ p.dish.overwrites = 65535 ∧ p.dish.state = .off ∧
      (p.dish.ring.getLast?.map Rack.outcome) = some (some .unverified) ∧
      p.stock.get 2 = { total := 100, soiled := 100, tunnel := 0 } ∧ (p.desk.conds.get 55).state = .returned ∧
      answer (.dishOff 1) rest = some (.ok, []) := by decide +kernel

theorem test_declared_racks :
    let seven := washing (fun d => { d with declared := List.replicate 7 ⟨2, 24⟩ }) rest
    answer (.declareRack 1 3 40) seven = some (.ok, [[8]]) ∧ refusal (.declareRack 1 4 1) seven .range ∧
      refusal (.declareRack 1 0 0) seven .range ∧ refusal (.declareRack 1 0 41) seven .range ∧
      refusal (.declareRack 1 0 1) (after (.declareRack 1 0 1) seven) .full := by decide +kernel

theorem test_taken_records :
    let p := washing (fun d => { d with ring := List.replicate 9 (rack 1), overwrites := 3 }) rest
    (after (.takeRacks 1 8) p).dish.ring.length = 1 ∧ ((answer (.takeRacks 1 8) p).map fun a => a.2.length) = some 9 ∧
      refusal (.takeRacks 1 0) p .range ∧ refusal (.takeRacks 1 9) p .range ∧
      (after (.clearRingCount 1) p).dish.overwrites = 0 := by decide +kernel

theorem test_encoder_pulses :
    (after .encoderPulse (running [rack 2449] false)).dish.valveOpen = true ∧
      ((after .encoderPulse (running [rack 2449] false)).feeder.heaters.get 15).locked = true ∧
      (after .encoderPulse (running [rack 2850] true)).dish.valveOpen = false ∧
      (after .encoderPulse rest).interlock.travel = 1 ∧
      (after .encoderPulse (running [rack 3149] false)).dish.queue = [rack 3150] ∧
      (after .encoderPulse (running [rack 65535] false)).dish.queue = [] := by decide +kernel

/-- The lost rack of the worked case 6.7.2. -/
theorem test_a_rack_lost :
    let p := after .encoderPulse (running [rack 3150, rack 2350] true)
    let q := after .encoderPulse (washing (fun d => { d with state := .held, reasons := { door := true } }) (running [rack 3150] false))
    p.dish.queue = [rack 2351] ∧ p.dish.state = .held ∧ p.dish.reasons = { lost := true } ∧ p.dish.conveyor = false ∧
      p.desk.conds.get 57 = { state := .returned, count := 1, first := 40090, last := 40090, param := 37 } ∧
      p.stock.get 2 = { total := 100, soiled := 100, tunnel := 0 } ∧ q.dish.reasons = { door := true, lost := true } := by
  decide +kernel

/-- Rack 37 enters in the worked case 6.7.1, and where it is not tracked. -/
theorem test_rack_entry_edges :
    let p := washing (fun d => { d with rackCounter := 36, lastEntry := some 40075, declared := [⟨2, 24⟩] }) (running [] false)
    let q := after (.filterTimerExpiry .rackEntry) (rises .rackEntry p)
    q.dish.queue = [{ number := 37, kind := some 2, count := 24, entry := 40090, interval := some 15 }] ∧
      q.stock.get 2 = { total := 100, soiled := 52, tunnel := 48 } ∧ q.dish.declared = [] ∧ q.dish.gateOpen = true ∧
      ((after (.filterTimerExpiry .rackEntry) (rises .rackEntry (running (List.replicate 11 (rack 1)) false))).dish.gateOpen) =
        false ∧
      ((after (.filterTimerExpiry .rackEntry) (rises .rackEntry (running (List.replicate 12 (rack 1)) false))).dish.queue.length) =
        12 ∧
      (after (.filterTimerExpiry .rackEntry) (rises .rackEntry rest)).dish = rest.dish := by decide +kernel

/-- The exit of the worked case 6.7.1, its failures, and edges that match nothing. -/
theorem test_rack_exit_edges :
    let out (r : Rack) := after (.filterTimerExpiry .rackExit) (rises .rackExit (running [r] false))
    let outcome (r : Rack) := (out r).dish.ring.map Rack.outcome
    let passed : Rack := { rack 3000 with washMin := some 618, dose := 1200 }
    outcome passed = [some .passed] ∧ (out passed).stock.get 2 = { total := 100, soiled := 76, tunnel := 0, clean := 24 } ∧
      outcome { passed with dose := 1100, washMin := some 600 } = [some .passed] ∧
      outcome { passed with dose := 1099 } = [some .failedDose] ∧ outcome { passed with washMin := some 599 } = [some .failedWash] ∧
      outcome { passed with washMin := none } = [some .failedWash] ∧
      (out { passed with dose := 1000 }).desk.conds.get 56 =
        { state := .returned, count := 1, first := 40090, last := 40090, param := 37 } ∧
      (out { passed with dose := 1000 }).dish.gateOpen = false ∧
      outcome { passed with position := 2850 } = [some .passed] ∧ outcome { passed with position := 3150 } = [some .passed] ∧
      outcome { passed with position := 2849 } = [] ∧
      ((out { passed with position := 3151 }).desk.conds.get 58).param = 3151 ∧
      ((after (.filterTimerExpiry .rackExit) (rises .rackExit (running [] false))).desk.conds.get 58).param = 65535 ∧
      (after (.filterTimerExpiry .rackExit) (rises .rackExit rest)).desk.conds = rest.desk.conds := by decide +kernel

theorem test_temperature_checks :
    let warming := washing (fun d => { d with state := .warming }) rest
    (after .temperatureCheck (reads 20 600 (reads 21 820 warming))).dish =
        { rest.dish with state := .ready, tankWarm := true, boosterHot := true } ∧
      (after .temperatureCheck (reads 20 599 (reads 21 820 warming))).dish = { rest.dish with state := .warming, boosterHot := true } ∧
      (after .temperatureCheck (running [] false)).dish.gateOpen = false := by decide +kernel

theorem test_wash_cold :
    let cold (coldTimer : Nat) (washCold : Bool) := washing (fun d => { d with tankWarm := false, coldTimer, washCold }) (running [] false)
    (after .washColdJudgement (reads 20 599 (cold 29 false))).dish.washCold = true ∧
      ((after .washColdJudgement (reads 20 599 (cold 29 false))).desk.conds.get 55).param = 599 ∧
      (after .washColdJudgement (cold 28 false)).dish.coldTimer = 29 ∧ (after .washColdJudgement (cold 30 true)).dish.coldTimer = 30 ∧
      (after .washColdJudgement (washing (fun d => { d with tankWarm := true }) (onSlot 55 { state := .acked } (cold 30 true)))).desk.conds.get 55 =
        {} ∧
      (after .washColdJudgement (washing (fun d => { d with state := .ready }) (cold 29 false))).dish.coldTimer = 0 := by
  decide +kernel

/-! ## Chapter 7 -/

/-- The kitchen of the worked case 7.9. -/
def kitchen79 : Part :=
  onCabinet 2 (fun c => { c with kind := 1, mode := .standby, batches := [⟨90, 48000, 1200⟩] })
    (onCabinet 3 (fun c => { c with kind := 1 }) (stocked 1 { total := 150, clean := 60 } { rest with uptime := 50000 }))

def create17 : CreateFields := ⟨17, 3, 200, 1, [2, 3], [0, 1], 3600, 1800⟩

/-- Wave 17 as CREATE makes it. -/
def wave17 : Wave :=
  { number := 17, ballroom := 3, covers := 200, kind := 1, cabinets := [2, 3], ovens := [0, 1], due := 3600, lead := 1800 }

theorem test_create_in_the_worked_case :
    let p := after (.create 1 create17) kitchen79
    p.waves.get 0 = some wave17 ∧ (p.cabinets.get 3).waveSlot = some 0 ∧ (p.cabinets.get 3).mode = .off ∧
      answer (.create 1 create17) kitchen79 = some (.ok, [[0, 1]]) ∧ createFields wave17 = create17 ∧
      answer (.create 1 { create17 with lead := 3600 }) kitchen79 = some (.ok, [[0, 2]]) := by decide +kernel

theorem test_create_turned_away :
    let p := after (.create 1 create17) kitchen79
    let other : CreateFields := { create17 with number := 18, cabinets := [3, 4], ovens := [] }
    let full : Part := { kitchen79 with
      waves := Table.ofFn fun w => some { wave17 with number := BitVec.ofNat 8 (w.val + 30), state := .closed } }
    refusal (.create 1 other) (onCabinet 4 (fun c => { c with kind := 1 }) p) .conflict ∧ refusal (.create 1 other) p .range ∧
      refusal (.create 1 { other with number := 17, cabinets := [4] }) (onCabinet 4 (fun c => { c with kind := 1 }) p) .conflict ∧
      refusal (.create 1 { other with cabinets := [4], ovens := [1] }) (onCabinet 4 (fun c => { c with kind := 1 }) p) .conflict ∧
      refusal (.create 1 create17) full .full ∧ refusal (.create 1 { create17 with number := 0 }) kitchen79 .range ∧
      refusal (.create 1 { create17 with ballroom := 16 }) kitchen79 .range ∧
      refusal (.create 1 { create17 with covers := 3001 }) kitchen79 .range ∧
      refusal (.create 1 { create17 with cabinets := [] }) kitchen79 .range ∧
      refusal (.create 1 { create17 with cabinets := [2, 2] }) kitchen79 .range ∧
      refusal (.create 1 { create17 with ovens := [6] }) kitchen79 .range ∧
      refusal (.create 1 { create17 with due := 86401 }) kitchen79 .range := by decide +kernel

/-- The kitchen with wave 17 in a state, its cabinets holding 90 and 110 plates. -/
def waves17 (f : Wave → Wave) : Part :=
  onCabinet 2 (fun c => { c with waveSlot := some 0, mode := .service, waveSet := true })
    (onCabinet 3 (fun c => { c with waveSlot := some 0, mode := .service, waveSet := true, batches := [⟨110, 52010, 1200⟩] })
      (waving 0 (f wave17) kitchen79))

def ovensAt (a b : OvenState) (p : Part) : Part :=
  onOven 0 (fun o => { o with state := a }) (onOven 1 (fun o => { o with state := b }) p)

/-- The tick at 51,800 of the worked case. -/
theorem test_a_wave_enters_preparing :
    let p := after (.countdownTick 0) (waving 0 { wave17 with due := 1801 } kitchen79)
    p.waves.get 0 = some { wave17 with due := 1800, state := .preparing, short := true } ∧
      (p.cabinets.get 3).mode = .service ∧ (p.cabinets.get 2).waveSet = true ∧ (p.feeder.heaters.get 0).cls = .service ∧
      p.desk.conds.get 59 = { state := .active, count := 1, first := 50000, last := 50000, param := 50 } ∧
      (after (.countdownTick 0) (waving 0 wave17 kitchen79)).waves.get 0 = some { wave17 with due := 3599 } := by
  decide +kernel

/-- Readiness, the late wave of the worked case, and slots that take no tick. -/
theorem test_a_wave_becomes_ready_or_late :
    let ready := after (.countdownTick 0) (ovensAt .holding .finished (waves17 fun v => { v with state := .preparing, due := 1 }))
    let late := after (.countdownTick 0) (ovensAt .holding .cooking (waves17 fun v => { v with state := .preparing, due := 1 }))
    let back := after (.countdownTick 0) (onSlot 71 { state := .active, count := 1 } (ovensAt .holding .finished (waves17 fun v =>
      { v with state := .late, late := true, due := 0 })))
    (ready.waves.get 0).map Wave.state = some .ready ∧ (late.waves.get 0).map Wave.state = some .late ∧
      (late.desk.conds.get 71).param = 785 ∧
      back.waves.get 0 = some { wave17 with state := .ready, due := 0, readyLate := true } ∧
      (back.desk.conds.get 71).state = .returned ∧
      (after (.countdownTick 0) (waves17 fun v => { v with state := .ready })).waves.get 0 =
        some { wave17 with state := .ready, due := 3599 } ∧
      after (.countdownTick 0) (waves17 fun v => { v with state := .serving }) = waves17 (fun v => { v with state := .serving }) ∧
      after (.countdownTick 11) rest = rest := by decide +kernel

theorem test_amend :
    let late := onSlot 71 { state := .active, count := 1 } (waves17 fun v => { v with state := .late, late := true, due := 0 })
    answer (.amend 1 0 17 3000 86400 7200) (waves17 id) = some (.ok, [[1]]) ∧
      answer (.amend 1 0 17 1 0 0) (waves17 id) = some (.ok, [[4]]) ∧
      ((after (.amend 1 0 17 200 1 0) late).waves.get 0) = some { wave17 with state := .preparing, due := 1, lead := 0 } ∧
      ((after (.amend 1 0 17 200 1 0) late).desk.conds.get 71).state = .returned ∧
      ((after (.amend 1 0 17 200 0 0) late).waves.get 0).map Wave.state = some .late ∧
      refusal (.amend 1 0 17 0 0 0) late .range ∧ refusal (.amend 1 0 17 3001 0 0) late .range ∧
      refusal (.amend 1 0 17 1 86401 0) late .range ∧ refusal (.amend 1 0 17 1 0 7201) late .range ∧
      refusal (.amend 1 0 17 1 0 0) (waves17 fun v => { v with state := .ready }) .state := by decide +kernel

/-- An AMEND to no time left makes a PREPARING wave LATE at once and raises WAVE_LATE (R135, R136). -/
theorem test_an_amend_raises_wave_late :
    let p := after (.amend 1 0 17 200 0 0) (ovensAt .holding .cooking (waves17 fun v => { v with state := .preparing }))
    (p.waves.get 0).map (fun v => (v.state, v.late)) = some (.late, true) ∧
      p.desk.conds.get 71 = { state := .active, count := 1, first := 50000, last := 50000, param := 785 } := by decide +kernel

/-- Each cabinet of a released wave that is below its low mark sends PLATES_LOW, in list order (R95, R137). -/
theorem test_a_release_judges_the_low_marks :
    let p (lowMark : Nat) := after (.release 1 0 17) (paging (fun g =>
      { g with port := .waiting, routes := g.routes.set 15 { enabled := true } })
        (onCabinet 2 (fun c => { c with lowMark }) (waves17 fun v => { v with state := .ready, covers := 1 })))
    ((p 300).desk.pager.queue.map fun q => (q.source, q.param)) = [(.cabinet 2, 90)] ∧ (p 90).desk.pager.queue = [] := by
  decide +kernel

theorem test_a_wave_must_be_named :
    refusal (.amend 1 12 17 1 0 0) (waves17 id) .range ∧ refusal (.release 1 0 0) (waves17 id) .range ∧
      refusal (.close 1 11 17) (waves17 id) .state ∧ refusal (.delete 1 0 18) (waves17 id) .conflict ∧
      refusal (.readWave 1 0 16) (waves17 id) .conflict := by decide +kernel

/-- RELEASE, CLOSE and DELETE of the worked case, and what refuses them. -/
theorem test_release_close_and_delete :
    let serving := after (.release 1 0 17) (waves17 fun v => { v with state := .ready })
    let closed := after (.close 1 0 17) (onSlot 59 { state := .active, count := 1 } (waves17 fun v =>
      { v with state := .late, short := true, late := true }))
    (serving.waves.get 0).map Wave.state = some .serving ∧ refusal (.release 1 0 17) (waves17 id) .state ∧
      closed.waves.get 0 = some { wave17 with state := .closed } ∧
      (closed.cabinets.get 3).mode = .standby ∧ (closed.cabinets.get 3).waveSlot = none ∧
      (closed.desk.conds.get 59).state = .returned ∧
      refusal (.close 1 0 17) (waves17 fun v => { v with state := .closed }) .state ∧
      (after (.delete 1 0 17) (waves17 id)).waves.get 0 = none ∧
      ((after (.delete 1 0 17) (waves17 id)).cabinets.get 2).waveSlot = none ∧
      (after (.delete 1 0 17) (waves17 fun v => { v with state := .closed })).waves.get 0 = none ∧
      refusal (.delete 1 0 17) (waves17 fun v => { v with state := .serving }) .state := by decide +kernel

/-! ## Chapter 8 -/

/-- The slot of the worked case 8.5.1 at 60,140, and the kinds of slots at the ends of their ranges. -/
theorem test_raises_and_returns :
    let c : Slot := { state := .returned, count := 1, first := 60000, last := 60000, param := 3214 }
    (rest.desk.raise 60140 25 3203).conds.get 25 = { state := .active, count := 1, first := 60140, last := 60140, param := 3203 } ∧
      c.raise 60140 3203 = { state := .active, count := 2, first := 60000, last := 60140, param := 3203 } ∧
      ({ c with state := .acked } : Slot).raise 1 2 = { c with state := .acked, last := 1, param := 2 } ∧
      ({ c with state := .active } : Slot).raise 1 2 = { c with state := .active, last := 1, param := 2 } ∧
      ({ c with state := .acked } : Slot).ret = { c with state := .normal } ∧
      ({ c with state := .active } : Slot).ret = c ∧ c.ret = c ∧
      ((rest.desk.raise 1 57 51).conds.get 57).state = .returned ∧
      ([0, 22, 23, 38, 39, 54, 55, 56, 57, 58, 59, 70, 71, 82, 83, 84, 85, 86].map fun i => (slotKind i).val) =
        [0, 0, 1, 1, 2, 2, 3, 4, 5, 6, 7, 7, 8, 8, 9, 10, 11, 12] := by decide +kernel

theorem test_acknowledge :
    let p := onSlot 25 { state := .active, count := 2 } rest
    answer (.acknowledge 1 25 2) p = some (.ok, [[2]]) ∧ ((after (.acknowledge 1 25 2) p).desk.conds.get 25).state = .acked ∧
      answer (.acknowledge 1 25 2) (onSlot 25 { state := .returned, count := 2 } rest) = some (.ok, [[0]]) ∧
      answer (.acknowledge 1 25 1) p = some (.stale, [[2]]) ∧ refusal (.acknowledge 1 25 2) (onSlot 25 { state := .acked, count := 2 } rest) .state ∧
      refusal (.acknowledge 1 86 0) rest .state ∧ refusal (.acknowledge 1 87 0) rest .range := by decide +kernel

theorem test_acknowledgements_reach_the_tunnel :
    let lost := onSlot 57 { state := .returned, count := 1 } (held { lost := true, door := true })
    let rinse := onSlot 56 { state := .returned, count := 1 } (washing (fun d => { d with rinseFail := true }) (running [] false))
    (after (.acknowledge 1 57 1) lost).dish.reasons = { door := true } ∧
      (after (.acknowledge 1 57 1) (washing (fun d => { d with reasons := { lost := true } }) lost)).dish.state = .ready ∧
      (after (.acknowledge 1 57 1) (washing (fun d => { d with state := .off }) lost)).dish.state = .off ∧
      (after (.acknowledge 1 56 1) rinse).dish.rinseFail = false ∧ (after (.acknowledge 1 56 1) rinse).dish.gateOpen = true := by
  decide +kernel

/-! ## Chapter 9 -/

/-- The directory and the groups of the worked case 9.7; entry `n` has the radio address 100 + `n`. -/
def staff : Part :=
  paging (fun g => { g with
    pageCounter := 119
    groups := (g.groups.set 2 { escalation := some 5, pointer := 9 }).set 5 {}
    routes := g.routes.set 14 { enabled := true, group := 2, priority := 1, code := 40 }
    directory := Table.ofFn fun e =>
      if e = 4 ∨ e = 9 ∨ e = 17 then { address := 100 + e.val, groups := 4, duty := true }
      else if e = 30 ∨ e = 31 then { address := 100 + e.val, groups := 32, duty := true }
      else {} }) { rest with uptime := 53360 }

/-- Page 120 of the worked case, and its wave's page queue alone in the queue. -/
def page120 : Page := { id := 120, source := .wave 0, group := 2, current := 2, priority := 1, code := 40, param := 785 }

def queued (queue : List Page) (port : Port) : Part := paging (fun g => { g with queue, port }) staff

/-- Page 120 waits for an answer from entry 17, one attempt short of `attempts` ended. -/
def awaiting (attempts : Nat) : Page :=
  { page120 with state := .awaiting, tried := [17], target := some 17, attempts, deadline := some 53360 }

/-- An attempt of page 120 is outstanding at entry 17. -/
def outstanding (queue : List Page) (port : Port) : Part :=
  paging (fun g => { g with
    directory := g.directory.set 17 { g.directory.get 17 with outstanding := 1 } }) (queued queue port)

/-- The page at the head of the queue, and the port. -/
def headPage (p : Part) : Option Page := p.desk.pager.queue.head?

theorem test_set_pager :
    let stores (c : Instr) (p : Part) := decide ((answer c p).map Prod.fst = some .ok)
    let used := outstanding [awaiting 0] .waiting
    ((after (.setPager 1 63 4095 0x81 1) staff).desk.pager.directory.get 63) =
        { address := 4095, groups := 0x81, duty := true } ∧
      stores (.setPager 1 4 1 0 0) staff ∧ stores (.setPager 1 17 117 0 0) used ∧
      refusal (.setPager 1 17 118 4 1) used .busy ∧ refusal (.setPager 1 17 109 4 1) staff .range ∧
      refusal (.setPager 1 17 0 4 1) staff .range ∧ refusal (.setPager 1 17 4096 4 1) staff .range ∧
      refusal (.setPager 1 17 117 4 2) staff .range ∧ refusal (.setPager 1 64 1 4 1) staff .range ∧
      ((after (.clearPager 1 17) staff).desk.pager.directory.get 17) = {} ∧
      refusal (.clearPager 1 17) (queued [awaiting 0] .waiting) .busy ∧ refusal (.clearPager 1 64) staff .range := by
  decide +kernel

theorem test_set_group_route_and_radio :
    ((after (.setGroup 1 7 255 8 600) staff).desk.pager.groups.get 7) = { escalation := none, limit := 8, timeout := 600 } ∧
      ((after (.setGroup 1 2 7 1 10) staff).desk.pager.groups.get 2) =
        { escalation := some 7, limit := 1, timeout := 10, pointer := 9 } ∧
      refusal (.setGroup 1 8 255 8 600) staff .range ∧ refusal (.setGroup 1 7 7 8 600) staff .range ∧
      refusal (.setGroup 1 7 8 8 600) staff .range ∧ refusal (.setGroup 1 7 0 9 600) staff .range ∧
      refusal (.setGroup 1 7 0 0 600) staff .range ∧ refusal (.setGroup 1 7 0 8 601) staff .range ∧
      refusal (.setGroup 1 7 0 8 9) staff .range ∧
      ((after (.setRoute 1 15 1 7 3 255) staff).desk.pager.routes.get 15) =
        { enabled := true, group := 7, priority := 3, code := 255 } ∧
      refusal (.setRoute 1 16 1 7 3 0) staff .range ∧ refusal (.setRoute 1 15 2 7 3 0) staff .range ∧
      refusal (.setRoute 1 15 1 8 3 0) staff .range ∧ refusal (.setRoute 1 15 1 7 4 0) staff .range ∧
      (after (.configureRadio 1 200) rest).desk.pager.backoff = 200 ∧
      (after (.configureRadio 1 5000) rest).desk.pager.backoff = 5000 ∧
      refusal (.configureRadio 1 199) rest .range ∧ refusal (.configureRadio 1 5001) rest .range := by decide +kernel

theorem test_page_joins_the_queue :
    let two := queued [{ page120 with id := 119 }, { page120 with id := 120, priority := 3, source := .host 1 }] .down
    let p := after (.page 1 9 7 1 2 3) two
    let full := queued (List.replicate 32 page120) .waiting
    answer (.page 1 9 7 1 2 3) two = some (.ok, [[0, 121]]) ∧
      p.desk.pager.queue.map Page.id = [119, 121, 120] ∧ p.desk.pager.pageCounter = 121 ∧
      refusal (.page 1 9 7 3 2 3) full .full ∧ refusal (.page 1 9 8 1 2 3) full .range ∧
      refusal (.page 1 9 7 4 2 3) two .range ∧ refusal (.cancelPage 1 118) two .state := by decide +kernel

/-- The tick that makes wave 17 ready, over a page queue (R134, R160, R161). -/
def readies (queue : List Page) : Pager :=
  (after (.countdownTick 0) { ovensAt .holding .finished (waves17 fun v => { v with state := .preparing, due := 1 }) with
    desk := (queued queue .waiting).desk }).desk.pager

def others (n : Nat) (f : Page → Page) : List Page :=
  (List.range n).map fun i => f { page120 with id := BitVec.ofNat 16 i, source := .host 1 }

/-- A trigger makes a page, sets the latch of its source's page, or meets a full queue: there the newest of the least
urgent goes, or the new page itself. -/
theorem test_a_trigger_by_the_room_in_the_queue :
    let urgent := others 31 id ++ [{ page120 with id := 31, priority := 3, source := .host 2 }]
    (readies []).queue = [page120] ∧ (readies []).pageCounter = 120 ∧
      (readies [{ page120 with id := 7 }]).queue = [{ page120 with id := 7, latch := some 785 }] ∧
      (readies urgent).queue = others 31 id ++ [page120] ∧
      (readies urgent).outcomes.map (fun r => (r.id, r.outcome)) = [(31, .dropped)] ∧
      (readies (others 32 id)).queue = others 32 id ∧
      (readies (others 32 id)).outcomes.map (fun r => (r.id, r.source, r.outcome)) = [(120, .wave 0, .dropped)] := by
  decide +kernel

/-- A latch that was set makes a page by its route once its page has gone (R162). -/
theorem test_a_latch_turns_into_a_page :
    let p := after (.cancelPage 1 77) (queued [{ page120 with id := 77, latch := some 9 }] .waiting)
    p.desk.pager.queue = [{ page120 with param := 9 }] ∧ p.desk.pager.outcomes.map OutcomeRecord.id = [77] := by
  decide +kernel

theorem test_cancel_page :
    let onAir := queued [{ page120 with state := .onAir }] (.sending 120 5 false)
    let gone := after (.cancelPage 1 120) (outstanding [awaiting 0] .waiting)
    headPage (after (.cancelPage 1 120) onAir) = some { page120 with state := .onAir, cancelMark := true } ∧
      gone.desk.pager.queue = [] ∧ (gone.desk.pager.directory.get 17).outstanding = 0 ∧
      gone.desk.pager.outcomes =
        [{ id := 120, source := .wave 0, outcome := .cancelled, pager := none, uptime := 53360 }] ∧
      (after (.cancelPage 1 120) (queued [page120] .down)).desk.pager.queue = [] := by decide +kernel

/-- The first search of the worked case, a broadcast, and the search that passes over 17, tried already. -/
theorem test_the_arbiter_searches_after_the_pointer :
    let sent (q : Page) := (after .backoffEnd (queued [q] .waiting)).desk.pager
    (sent page120).queue = [{ page120 with state := .onAir, tried := [17], target := some 17 }] ∧
      (sent page120).port = .sending 120 1 false ∧ ((sent page120).groups.get 2).pointer = 17 ∧
      (sent { page120 with tried := [17, 9] }).queue =
        [{ page120 with state := .onAir, tried := [17, 9, 4], target := some 4 }] ∧
      (sent { page120 with priority := 0 }).queue =
        [{ page120 with priority := 0, state := .onAir, tried := [4, 9, 17], broadcast := true }] ∧
      (sent { page120 with priority := 0 }).lastSent = some ⟨0x01, 1, [0, 120, 0, 0, 2, 0, 40, 3, 17]⟩ := by decide +kernel

/-- A page that nobody can get escalates at once; where it cannot, it expires, PAGE_UNANSWERED sends its page, and the
next page goes (R165, R148). -/
theorem test_a_page_that_nobody_can_get :
    let sent (queue : List Page) := (after .backoffEnd (queued queue .waiting)).desk.pager
    let last : Page := { page120 with current := 5, escalated := true, tried := [30, 31] }
    let paged := after .backoffEnd (paging (fun g => { g with routes := g.routes.set 9 { enabled := true, group := 5 } })
      (queued [last] .waiting))
    (sent [{ page120 with tried := [4, 9, 17] }]).queue =
        [{ page120 with current := 5, escalated := true, state := .onAir, tried := [30], target := some 30 }] ∧
      (sent [last]).queue = [] ∧ (sent [last]).outcomes.map OutcomeRecord.outcome = [.expired] ∧ (sent [last]).port = .idle ∧
      (sent [last, { page120 with id := 121 }]).port = .sending 121 1 false ∧
      (sent [{ page120 with priority := 0, group := 7, current := 7 }]).outcomes.map OutcomeRecord.outcome = [.expired] ∧
      (paged.desk.pager.queue.map fun q => (q.source, q.param, q.state)) = [(.slot 83, 120, .onAir)] := by decide +kernel

/-- A page's marks are settled as its transmission ends: by the base station's reply, or by the second silence
(R166, R167, R168). -/
theorem test_marks_are_settled :
    let onAir (cancelMark declineMark : Bool) (attempts : Nat) := queued [{ page120 with
      state := .onAir, tried := [17], target := some 17, cancelMark, declineMark, attempts }] (.sending 120 5 true)
    let outcomes (p : Part) := p.desk.pager.outcomes.map OutcomeRecord.outcome
    outcomes (after (.accepted 5 120) (onAir true true 0)) = [.cancelled] ∧
      (after (.accepted 5 120) (onAir true false 0)).desk.pager.port = .idle ∧
      (headPage (after (.backoff 5 120) (onAir false true 0))).map (fun q => (q.state, q.attempts, q.declineMark)) =
        some (.queued, 1, false) ∧
      headPage (after (.backoff 5 120) (onAir false true 2)) = some { page120 with current := 5, escalated := true } ∧
      outcomes (after (.backoff 5 120) (onAir true false 0)) = [.cancelled] ∧
      outcomes (after .silenceTimeout (onAir true false 0)) = [.cancelled] ∧
      (after .silenceTimeout (onAir true false 0)).desk.pager.port = .down := by decide +kernel

/-- Frames other than STATUS REPLY bring a port out of DOWN too (R168). -/
theorem test_any_valid_frame_ends_down :
    let down := onSlot 84 { state := .active, count := 1 } (outstanding [awaiting 0] .down)
    let up (c : Instr) := ((after c down).desk.pager.port, ((after c down).desk.conds.get 84).state)
    up (.accepted 9 7) = (.idle, .returned) ∧ up (.backoff 9 7) = (.idle, .returned) ∧
      up (.answerAccept 117 120) = (.idle, .returned) ∧ up (.answerDecline 99 7) = (.idle, .returned) ∧
      (after (.answerAccept 117 120) down).desk.pager.queue = [] := by decide +kernel

theorem test_replies_of_the_base_station :
    let onAir := queued [{ page120 with state := .onAir, tried := [17], target := some 17 }] (.sending 120 5 true)
    let got := after (.accepted 5 120) onAir
    headPage got = some { awaiting 0 with deadline := some 53420 } ∧ got.desk.pager.port = .idle ∧
      (got.desk.pager.directory.get 17).outstanding = 1 ∧
      headPage (after (.backoff 5 120) onAir) = some page120 ∧
      (after (.backoff 5 120) onAir).desk.pager.port = .waiting ∧
      after (.accepted 4 120) onAir = onAir ∧ after (.backoff 5 121) onAir = onAir ∧
      after (.accepted 5 120) (queued [page120] .waiting) = queued [page120] .waiting ∧
      after (.backoff 5 120) rest = rest ∧ after .backoffEnd onAir = onAir ∧
      (after .backoffEnd (queued [awaiting 0] .waiting)).desk.pager.port = .idle := by decide +kernel

theorem test_silence :
    let onAir (again : Bool) :=
      queued [{ page120 with state := .onAir, tried := [17], target := some 17 }] (.sending 120 5 again)
    let down := after .silenceTimeout (onAir true)
    (after .silenceTimeout (onAir false)).desk.pager.port = .sending 120 5 true ∧ down.desk.pager.port = .down ∧
      headPage down = some page120 ∧
      down.desk.conds.get 84 = { state := .active, count := 1, first := 53360, last := 53360, param := 120 } ∧
      after .silenceTimeout rest = rest ∧ (after .statusTimer down).desk.pager.lastSent = some ⟨0x02, 1, []⟩ ∧
      after .statusTimer rest = rest ∧ after (.statusReply 9) rest = rest ∧
      ((after (.statusReply 9) down).desk.conds.get 84).state = .returned ∧
      (after (.statusReply 9) down).desk.pager.port = .sending 120 1 false ∧
      (after (.statusReply 9) (queued [awaiting 0] .down)).desk.pager.port = .idle := by decide +kernel

/-- Entry 17 accepts at last in the worked case; and the pagers that may not answer. -/
theorem test_accepts :
    let p := after (.answerAccept 117 120) (outstanding [awaiting 2] .waiting)
    let broadcast := queued [{ page120 with state := .onAir, broadcast := true }] (.sending 120 5 false)
    p.desk.pager.queue = [] ∧ (p.desk.pager.directory.get 17).outstanding = 0 ∧
      p.desk.pager.outcomes =
        [{ id := 120, source := .wave 0, outcome := .acked, pager := some 17, uptime := 53360 }] ∧
      (after (.answerAccept 104 120) broadcast).desk.pager.queue = [] ∧
      after (.answerAccept 130 120) broadcast = broadcast ∧ after (.answerAccept 99 120) broadcast = broadcast ∧
      (let marked := queued [{ page120 with state := .onAir, broadcast := true, cancelMark := true }] (.sending 120 5 false)
       after (.answerAccept 104 120) marked = marked) ∧
      (after (.answerAccept 104 7) broadcast).desk.pager.outcomes.map (fun r => (r.id, r.outcome, r.pager)) =
        [(7, .lateAnswer, some 4)] ∧
      (after (.answerAccept 99 7) broadcast).desk.pager.outcomes.map OutcomeRecord.pager = [none] := by decide +kernel

/-- An attempt ends: with attempts left, at the limit with an escalation group, and escalated already. -/
theorem test_attempts_that_end :
    let ends (c : Instr) (q : Page) := after c (outstanding [q] .waiting)
    let final (c : Instr) := ends c { awaiting 2 with escalated := true }
    headPage (ends (.pageDeadline 120) (awaiting 1)) =
        some { awaiting 2 with state := .queued, deadline := none } ∧
      ((ends (.pageDeadline 120) (awaiting 1)).desk.pager.directory.get 17).outstanding = 0 ∧
      headPage (ends (.answerDecline 117 120) (awaiting 2)) = some { page120 with current := 5, escalated := true } ∧
      (final (.pageDeadline 120)).desk.pager.outcomes.map OutcomeRecord.outcome = [.expired] ∧
      (final (.answerDecline 117 120)).desk.pager.outcomes.map OutcomeRecord.outcome = [.declinedOut] ∧
      (final (.pageDeadline 120)).desk.conds.get 83 =
        { state := .returned, count := 1, first := 53360, last := 53360, param := 120 } ∧
      (final (.pageDeadline 120)).desk.pager.queue = [] := by decide +kernel

/-- A DECLINE before the deadline, one of a page on the air, and the deadline of a broadcast (R170, R171). -/
theorem test_a_decline_and_a_broadcast_deadline :
    let early := outstanding [{ awaiting 0 with deadline := some 60000 }] .waiting
    let onAir := queued [{ page120 with state := .onAir, tried := [17], target := some 17 }] (.sending 120 5 false)
    let broadcast := outstanding [{ awaiting 0 with broadcast := true, target := none }] .waiting
    headPage (after (.answerDecline 117 120) early) = some { awaiting 1 with state := .queued, deadline := none } ∧
      headPage (after (.answerDecline 117 120) onAir) =
        some { page120 with state := .onAir, tried := [17], target := some 17, declineMark := true } ∧
      (headPage (after (.pageDeadline 120) broadcast)).map (fun q => (q.state, q.attempts)) = some (.queued, 1) ∧
      ((after (.pageDeadline 120) broadcast).desk.pager.directory.get 17).outstanding = 1 ∧
      after (.answerDecline 117 120) broadcast = broadcast := by decide +kernel

/-- An attempt that ends with the port IDLE hands the page to the arbiter (R164). -/
theorem test_an_attempt_that_ends_with_the_port_idle :
    (after (.pageDeadline 120) (outstanding [awaiting 0] .idle)).desk.pager.port = .sending 120 1 false ∧
      (headPage (after (.answerDecline 117 120) (outstanding [awaiting 0] .idle))).map Page.tried = some [17, 4] := by
  decide +kernel

theorem test_attempts_that_do_not_end :
    let early := outstanding [{ awaiting 1 with deadline := some 53361 }] .waiting
    after (.pageDeadline 120) early = early ∧
      after (.pageDeadline 120) (queued [page120] .waiting) = queued [page120] .waiting ∧
      after (.pageDeadline 121) early = early ∧
      after (.answerDecline 117 120) (queued [page120] .waiting) = queued [page120] .waiting ∧
      after (.answerDecline 117 121) early = early ∧ after (.answerDecline 104 120) early = early := by decide +kernel

theorem test_outcomes :
    let record (n : Nat) : OutcomeRecord :=
      { id := BitVec.ofNat 16 n, source := .host 3, outcome := .acked, pager := some 63, uptime := 5 }
    let p (n : Nat) := paging (fun g => { g with outcomes := (List.range n).map record }) rest
    answer (.takeOutcomes 1 16) (p 1) = some (.ok, [[1, 0, 0, 4, 3, 0, 1, 63, 0, 0, 0, 5], [0]]) ∧
      (after (.takeOutcomes 1 1) (p 16)).desk.pager.outcomes = ((List.range 16).map record).drop 1 ∧
      answer (.takeOutcomes 1 16) (p 0) = some (.ok, [[0], [0]]) ∧ refusal (.takeOutcomes 1 0) (p 1) .range ∧
      refusal (.takeOutcomes 1 17) (p 1) .range ∧
      (appendOutcome (record 16) ((List.range 16).map record)).map OutcomeRecord.id =
        (List.range 16).map (fun n => BitVec.ofNat 16 (n + 1)) ∧
      (appendOutcome (record 15) ((List.range 15).map record)).length = 16 := by decide +kernel

/-! ## Chapter 10 -/

theorem test_stability_timers :
    let line (c : Instr) (l : LineState) := (after c (lined .dishDoor l rest)).interlock.lines.get 7
    line (.rawLineChange .dishDoor true) {} = { raw := true, filtered := false, timing := true } ∧
      line (.rawLineChange .dishDoor false) { raw := true, filtered := false, timing := true } =
        { raw := false, filtered := false, timing := false } ∧
      line (.rawLineChange .dishDoor true) { raw := true, filtered := false, timing := false } =
        { raw := true, filtered := false, timing := false } ∧
      line (.filterTimerExpiry .dishDoor) { raw := true, filtered := false, timing := false } =
        { raw := true, filtered := false, timing := false } ∧
      line (.filterTimerExpiry .dishDoor) {} = { raw := false, filtered := false, timing := false } ∧
      line (.filterTimerExpiry .dishDoor) { raw := true, filtered := false, timing := true } =
        { raw := true, filtered := true, timing := false } := by decide +kernel

/-- Oven 1 COOKING, its loop in AUTO. -/
def turkey : Part :=
  onOven 1 (fun o => { o with state := .cooking, program := 3, step := 1 })
    (onLoop 1 (fun l => { l with base := .auto, sp := 1800, demand := 463 })
      (stored 3 { steps := [.timed 1800 60] } { rest with uptime := 900 }))

theorem test_oven_doors_and_the_reduce_line :
    let opened := after (.filterTimerExpiry (.ovenDoor 1)) (rises (.ovenDoor 1) turkey)
    let reduced := after (.filterTimerExpiry .feederReduce)
      (rises .feederReduce { rest with feeder := { rest.feeder with limit := 90000, applied := 90000, reduced := 90000 } })
    (opened.ovens.get 1).doorOpen = true ∧ (opened.loops.get 1).inhibit = true ∧ (opened.loops.get 1).demand = 0 ∧
      (opened.loops.get 1).base = .auto ∧
      ((after (.filterTimerExpiry (.ovenDoor 1)) (falls (.ovenDoor 1)
        (onOven 1 (fun o => { o with doorOpen := true }) (onLoop 1 (fun l => { l with inhibit := true }) turkey)))).loops.get 1).inhibit =
        false ∧
      (after (.filterTimerExpiry (.ovenDoor 5)) (rises (.ovenDoor 5) rest)).loops = rest.loops ∧
      reduced.feeder.requested = 90000 ∧ reduced.feeder.reducedAck = true ∧
      (after (.filterTimerExpiry .feederReduce) (falls .feederReduce reduced)).feeder.reducedAck = false := by decide +kernel

theorem test_lines_of_the_tunnel :
    let on (line : Line) (p : Part) := after (.filterTimerExpiry line) (rises line p)
    let off (line : Line) (p : Part) := after (.filterTimerExpiry line) (falls line p)
    (on .dishDoor (running [rack 2450] true)).dish.reasons = { door := true } ∧
      (on .dishDoor (running [rack 2450] true)).dish.valveOpen = false ∧
      (on .dishDoor (held { lost := true })).dish.reasons = { door := true, lost := true } ∧
      (on .dishDoor rest).dish = rest.dish ∧ (off .dishDoor (held { door := true })).dish.state = .ready ∧
      (off .dishDoor (held { door := true, trip := true })).dish.state = .held ∧ (off .dishDoor rest).dish = rest.dish ∧
      (on .conveyorOverload (running [] false)).dish.reasons = { overload := true } ∧
      ((on .conveyorOverload (running [] false)).desk.conds.get 86).state = .active ∧
      (on .conveyorOverload (held { door := true })).dish.reasons = { door := true, overload := true } ∧
      (on .conveyorOverload rest).dish = rest.dish ∧ (off .conveyorOverload rest).dish = rest.dish ∧
      (off .conveyorOverload (onSlot 86 { state := .active, count := 1 } (held { overload := true }))).dish.state = .ready ∧
      (off .rackEntry (running [] false)).dish = (running [] false).dish ∧
      (off .rackExit (running [] false)).dish = (running [] false).dish ∧
      (off .hoodTrip (tripped rest)).interlock.trip = true := by decide +kernel

theorem test_the_hood_trips :
    let hood (p : Part) := after (.filterTimerExpiry .hoodTrip) (rises .hoodTrip p)
    let ovens := hood (onHeater 3 (fun h => { h with grant := 500, assigned := 900, delivered := 800, output := true }) turkey)
    let tunnel := hood (running [rack 850] false)
    ovens.interlock.driveEnable = false ∧ ovens.heaterPins = List.replicate 16 false ∧
      ovens.feeder.heaters.get 3 = {} ∧ (ovens.ovens.get 1).state = .idle ∧ (ovens.ovens.get 1).outcome = .tripped ∧
      (ovens.loops.get 1).base = .off ∧ ovens.dish = rest.dish ∧
      ovens.desk.conds.get 85 = { state := .active, count := 1, first := 900, last := 900 } ∧
      tunnel.dish.state = .held ∧ tunnel.dish.reasons = { trip := true } ∧ tunnel.dish.queue = [] ∧
      tunnel.stock.get 2 = { total := 100, soiled := 100, tunnel := 0 } ∧
      (hood (held { door := true })).dish.reasons = { door := true, trip := true } ∧
      (hood (tripped turkey)).ovens = turkey.ovens ∧
      ((hood (tripped rest)).desk.conds.get 85).state = .active := by decide +kernel

theorem test_clear_trip :
    let cleared := onSlot 85 { state := .acked, count := 1 } (tripped (held { trip := true }))
    let hot := after (.clearTrip 1) cleared
    hot.interlock.trip = false ∧ hot.interlock.driveEnable = true ∧ (hot.desk.conds.get 85).state = .normal ∧
      hot.dish.state = .ready ∧ (hot.loops.get 14).sp = 650 ∧ (hot.loops.get 15).sp = 850 ∧
      (hot.loops.get 15).base = .auto ∧
      (after (.clearTrip 1) (tripped (held { trip := true, lost := true }))).dish.state = .held ∧
      ((after (.clearTrip 1) (onLoop 14 (warm false) cleared)).loops.get 14).base = .manual ∧
      (after (.clearTrip 1) (tripped rest)).loops = rest.loops ∧ refusal (.clearTrip 1) rest .state ∧
      refusal (.clearTrip 1) (lined .hoodTrip { raw := true, filtered := true, timing := false } (tripped rest)) .state := by
  decide +kernel

/-! ## Chapter 11 -/

def polling : Frame := ⟨0xF0, 7, []⟩

theorem test_receiver :
    let bad : Receiver := .check 0 0xF0 7 [] (some 0)
    crc [0x31, 0x32, 0x33, 0x34, 0x35, 0x36, 0x37, 0x38, 0x39] = 0x29B1 ∧
      Receiver.byte .length false 240 = (.header 240 none, none) ∧ Receiver.byte .length false 241 = (.hunt, none) ∧
      Receiver.byte (.header 0 (some 0xF0)) false 7 = (.check 0 0xF0 7 [] none, none) ∧
      Receiver.byte (.body 2 1 1 [9]) false 8 = (.check 2 1 1 [9, 8] none, none) ∧
      bad.byte false 0 = (.hunt, none) ∧ bad.byte true 0x5A = (.length, none) ∧ bad.byte true 0 = (.hunt, none) ∧
      polling.bytes = [0x5A, 0, 0xF0, 7] ++ bytes16 (crc [0, 0xF0, 7]) := by decide +kernel

/-- The receiver before the last byte of a frame, and that byte. -/
def almost (f : Frame) : Receiver :=
  let body := BitVec.ofNat 8 f.payload.length :: f.kind :: f.tag :: f.payload
  .check (BitVec.ofNat 8 f.payload.length) f.kind f.tag f.payload (bytes16 (crc body)).head?

def lastByte (f : Frame) : Byte := (f.bytes.getLast?).getD 0

theorem test_a_frame_completes_on_either_link :
    let hears (f : Frame) (p : Part) := after (.pagerLinkByte false (lastByte f)) (paging (fun g => { g with rx := almost f }) p)
    let onAir := queued [{ page120 with state := .onAir, tried := [17], target := some 17 }] (.sending 120 5 true)
    after (.controlLinkByte false (lastByte polling)) (linked (fun k => { k with rx := almost polling }) rest) =
        after (.controlFrameComplete 0xF0 7 []) rest ∧
      (after (.controlLinkByte true 0x5A) (linked (fun k => { k with rx := almost polling }) rest)).desk.link.rx = .length ∧
      (after (.pagerLinkByte false 0x5A) rest).desk.pager.rx = .length ∧
      hears ⟨0x81, 5, [0, 120]⟩ onAir = after (.accepted 5 120) onAir ∧
      hears ⟨0x82, 5, [0, 120]⟩ onAir = after (.backoff 5 120) onAir ∧
      hears ⟨0x83, 9, []⟩ (queued [] .down) = after (.statusReply 9) (queued [] .down) ∧
      hears ⟨0x84, 1, [0, 117, 0, 120, 0]⟩ onAir = after (.answerAccept 117 120) onAir ∧
      hears ⟨0x84, 1, [0, 117, 0, 120, 1]⟩ onAir = after (.answerDecline 117 120) onAir ∧
      hears ⟨0x81, 5, [0]⟩ onAir = onAir ∧ hears ⟨0x85, 5, [0, 120]⟩ onAir = onAir := by decide +kernel

/-- A reply on the air for a frame that holds a buffer. -/
def replying (r : Reply) (buffers : List Buffer) (p : Part) : Part :=
  linked (fun k => { k with tx := .reply, replies := [r], buffers, rx := .length }) p

def okReply (kind : Byte) : Reply := { kind, tag := 1, status := .ok, pieces := [], buffered := true }

/-- A frame is taken while the reply before it goes out; behind the reply of a RESTART it waits, and is lost with it. -/
theorem test_frames_are_taken_behind_a_reply :
    let b (taken : Bool) : Buffer := { frame := polling, taken }
    let link (c : Instr) (p : Part) := (after c p).desk.link
    let frame : Instr := .controlFrameComplete 0xF0 7 []
    let busy := replying (okReply 1) [b true] rest
    (link frame busy).buffers = [b true, b true] ∧ (link frame busy).replies.map Reply.kind = [1, 0xF0] ∧
      (link frame busy).tx = .reply ∧ (link frame (replying (okReply 1) [b true, b true] rest)).replies = [okReply 1] ∧
      (link frame (replying (okReply 1) [b true, b true] rest)).buffers = [b true, b true] ∧
      (link frame (replying (okReply 0xF1) [b true] rest)).buffers = [b true, b false] ∧
      (link frame rest).replies = [{ kind := 0xF0, tag := 7, status := .ok, pieces := [[0, 0]], buffered := true }] ∧
      (link frame rest).buffers = [b true] ∧ (link frame rest).tx = .reply := by decide +kernel

theorem test_a_reply_goes_out :
    let b (taken : Bool) : Buffer := { frame := polling, taken }
    let link (p : Part) := (after .replySent p).desk.link
    let two := linked (fun k => { k with replies := k.replies ++ [okReply 2] }) (replying (okReply 1) [b true, b true] rest)
    link (replying (okReply 0xF1) [b true, b false] rest) = rest.desk.link ∧
      link (replying (okReply 1) [b true] rest) = { rest.desk.link with rx := .length } ∧
      (link two).buffers = [b true] ∧ (link two).replies.map Reply.kind = [2] ∧ (link two).tx = .reply ∧
      (link (replying (okReply 1) [b true, b false] rest)).buffers = [b true] ∧
      (link (replying (okReply 1) [b true, b false] rest)).replies.map Reply.kind = [0xF0] ∧
      after .replySent rest = rest := by decide +kernel

/-- What goes on the air: an ATTENTION is one frame of kind 0xFF and tag 0 (R190, R194). -/
theorem test_frames_on_the_air :
    ({ tx := .attention 3 } : Link).onAir = [⟨0xFF, 0, [3]⟩] ∧
      ({ tx := .reply, replies := [okReply 1, okReply 2] } : Link).onAir = [⟨1, 1, [0, 0]⟩] ∧
      ({ replies := [okReply 1] } : Link).onAir = [] := by decide +kernel

theorem test_attention_frames :
    let link (c : Instr) (k : Link) := (after c (linked (fun _ => k) rest)).desk.link
    link .attentionSent { tx := .attention 3 } = {} ∧ link .attentionSent { tx := .reply, replies := [okReply 1] } =
        { tx := .reply, replies := [okReply 1] } ∧
      link .attentionSent { tx := .attention 3, attentions := [4, 5] } = { tx := .attention 4, attentions := [5] } ∧
      link .attentionSent { tx := .attention 3, attentions := [4], replies := [okReply 1] } =
        { tx := .reply, attentions := [4], replies := [okReply 1] } ∧ link .attentionSent {} = {} := by decide +kernel

/-- 61 marks: 60 go, one is left and brings a fresh ATTENTION; 60 marks all go. -/
theorem test_poll :
    let marks (n : Nat) := (List.range n).map fun i => Mark.mk .condition i
    let polled (n : Nat) := (after (.poll 1) (linked (fun k => { k with changeSet := marks n, attention := true }) rest)).desk.link
    (polled 61).changeSet = [⟨.condition, 60⟩] ∧ (polled 61).attention = true ∧ (polled 61).attentions = [1] ∧
      (polled 61).replies.map (fun r => r.pieces.take 2) = [[[60, 1], [11, 0]]] ∧
      (polled 60).changeSet = [] ∧ (polled 60).attention = false ∧ (polled 60).attentions = [] ∧
      ({ changeSet := marks 2, attention := true } : Link).mark .condition 1 = { changeSet := marks 2, attention := true } ∧
      ({ changeSet := marks 2, attention := true } : Link).mark .condition 2 = { changeSet := marks 3, attention := true } ∧
      ({} : Link).mark .condition 0 = { changeSet := marks 1, attention := true, attentions := [1] } := by decide +kernel

theorem test_restart :
    let p := after (.restart 1) (waving 0 wave17 (tripped (linked (fun k => { k with changeSet := [⟨.ring, 0⟩] }) (running [rack 850] false))))
    let calm := after (.restart 1) (outstanding [awaiting 0] .down)
    p.uptime = 40090 ∧ p.dish.state = .off ∧ p.dish.queue = [] ∧ p.dish.ring.map Rack.outcome = [some .unverified] ∧
      p.stock.get 2 = { total := 100, soiled := 100, tunnel := 0 } ∧ p.waves.get 0 = none ∧ p.interlock.trip = true ∧
      p.desk.conds.get 85 = { state := .active, count := 1, first := 40090, last := 40090 } ∧
      (p.desk.link.replies.map fun r => (r.kind, r.status)) = [(0xF1, .ok)] ∧
      calm.desk.pager.queue = [] ∧ calm.desk.pager.port = .idle ∧ (calm.desk.pager.directory.get 17).outstanding = 0 ∧
      (calm.desk.pager.directory.get 17).address = 117 ∧ calm.desk.pager.pageCounter = 119 ∧
      (after (.restart 1) turkey).ovens.get 1 = { program := 3, step := 1, outcome := .aborted } := by decide +kernel

/-- RESTART empties the change set and calls attention at its own first mark. -/
theorem test_restart_calls_attention :
    let p := after (.restart 1) (linked (fun k => { k with changeSet := [⟨.condition, 3⟩], attention := true }) (tripped rest))
    p.desk.link.attention = true ∧ p.desk.link.attentions = [1] ∧
      p.desk.link.changeSet.head? = some ⟨.loop, 0⟩ := by
  decide +kernel

/-- The heater of a cabinet that was in SERVICE takes STANDBY; another keeps its class (R99). -/
theorem test_restart_takes_service_heaters_to_standby :
    let p (mode : CabinetMode) := after (.restart 1) (onCabinet 2 (fun c => { c with mode }) (heated 8 1000 .service 0 rest))
    ((p .service).feeder.heaters.get 8) = { rated := 1000, cls := .standby } ∧
      ((p .off).feeder.heaters.get 8).cls = .service := by
  decide +kernel

/-! ## Reads -/

theorem test_reads_at_the_ends_of_their_ranges :
    let ok (c : Instr) := decide ((answer c rest).map Prod.fst = some .ok)
    (ok (.readLoop 1 15) ∧ ok (.readHeater 1 15) ∧ ok (.readProgram 1 15) ∧ ok (.readRoute 1 15) ∧ ok (.readOven 1 5) ∧
      ok (.readCabinet 1 7) ∧ ok (.readGroup 1 7) ∧ ok (.readStock 1 3) ∧ ok (.readCondition 1 86) ∧ ok (.readPager 1 63) ∧
      ok (.readConditions 1 86 1) ∧ ok (.readConditions 1 0 87)) ∧
    refusal (.readLoop 1 16) rest .range ∧ refusal (.readHeater 1 16) rest .range ∧ refusal (.readProgram 1 16) rest .range ∧
      refusal (.readRoute 1 16) rest .range ∧ refusal (.readOven 1 6) rest .range ∧ refusal (.readCabinet 1 8) rest .range ∧
      refusal (.readGroup 1 8) rest .range ∧ refusal (.readStock 1 4) rest .range ∧ refusal (.readCondition 1 87) rest .range ∧
      refusal (.readPager 1 64) rest .range ∧ refusal (.readConditions 1 86 2) rest .range ∧
      refusal (.readConditions 1 0 0) rest .range := by decide +kernel

theorem test_bytes_of_some_reads :
    answer (.readStock 1 2) (running [] false) = some (.ok, [[0, 100, 0, 76, 0, 24, 0, 0, 0, 0, 0, 0]]) ∧
      answer (.readCondition 1 25) (onSlot 25 { state := .acked, count := 2, first := 60000, last := 60140, param := 3203 } rest) =
        some (.ok, [[25, 1, 2, 2, 0, 0, 0xEA, 0x60, 0, 0, 0xEA, 0xEC, 0x0C, 0x83]]) ∧
      answer (.readRadio 1) (queued [] (.sending 258 5 true)) = some (.ok, [[1, 1, 1, 2, 1, 5, 1, 1, 3, 0xE8, 0, 119]]) ∧
      answer (.readPending 1) (onSlot 25 { state := .returned, count := 2 } rest) = some (.ok, [[1, 25, 3, 2]]) := by
  decide +kernel

theorem test_bytes_of_an_oven :
    answer (.readOven 1 1) turkey = some (.ok, [[3, 3, 1, 0, 0, 0, 1, 0, 0, 0, 0, 0, 1, 7, 8, 0, 0, 0]]) ∧
      answer (.readOven 1 1) (stored 3 { steps := [.core 1800 60 700] } turkey) =
        some (.ok, [[3, 3, 1, 0, 0, 0, 1, 0, 0, 0, 0, 0, 1, 7, 8, 1, 2, 0xBC]]) ∧
      answer (.readOven 1 5) rest = some (.ok, [[0, 0, 0, 0, 0, 0, 1, 0, 0, 0, 0, 0, 0, 0, 0, 0, 0, 0]]) := by
  decide +kernel

theorem test_bytes_of_a_wave :
    (answer (.readWave 1 0 17) (waves17 id)).map (fun a => a.2.map (List.take 12)) =
      some [[1, 17, 3, 0, 200, 1, 2, 2, 3, 2, 0, 1]] := by decide +kernel

theorem test_reads_without_an_index :
    let same (c : Instr) (p : Part) := decide ((answer c p).map Prod.fst = some .ok ∧ { after c p with desk := p.desk } = p)
    same (.readFeeder 1) turkey ∧ same (.readDish 1) (running [rack 850] false) ∧ same (.readTunnel 1) (running [rack 850] false) ∧
      same (.readWaves 1) (waves17 id) ∧ same (.readPages 1) (queued [{ page120 with latch := some 5 }] .waiting) ∧
      same (.readInterlocks 1) (tripped rest) ∧
      (answer (.readPages 1) (queued [{ page120 with latch := some 5 }] .waiting)).map (fun a => a.2.getLast?) =
        some (some [1, 2, 0, 0, 5]) := by decide +kernel

/-! ## Invariants -/

/-- A kitchen at work: an oven cooking behind its open door, the feeder on its reduced limit, a cabinet with plates held
by wave 17, a rack under the rinse, pages, pending conditions and marks. -/
def hall : Part :=
  let budget (f : Feeder) : Feeder :=
    { f with
      limit := 90000, reduced := 60000, requested := 60000, applied := 60000, reducedAck := true, grantedTotal := 500
      deliveredTotal := 400, heaters := f.heaters.set 0 { rated := 1000, grant := 400, assigned := 500, delivered := 400 } }
  let tunnel := running [rack 2500] true
  let fed : Part := { tunnel with feeder := budget tunnel.feeder }
  let cooking := onLoop 1 (fun l => { l with base := .auto, inhibit := true, sp := 1800 })
    (onOven 1 (fun o => { o with state := .cooking, program := 3, step := 1, doorOpen := true })
      (stored 3 { steps := [.timed 1800 60] } fed))
  let plated := stocked 1 { total := 150, clean := 60 } (waving 0 { wave17 with cabinets := [2], ovens := [0] }
    (onCabinet 2 (fun c => { c with kind := 1, waveSlot := some 0, batches := [⟨90, 48000, 1200⟩] }) cooking))
  let asserted : LineState := { raw := true, filtered := true, timing := false }
  let wired := lined (.ovenDoor 1) asserted (lined .feederReduce asserted (onLoop 6 (fun l => { warm false l with demand := 120 }) plated))
  linked (fun k => { k with changeSet := [⟨.wave, 11⟩, ⟨.condition, 86⟩], attention := true, buffers := [⟨polling, true⟩] })
    (onSlot 57 { state := .returned, count := 1 } (paging (fun g => { g with
      queue := [{ awaiting 0 with latch := some 5 }, { page120 with id := 121, source := .host 1, priority := 3 },
        { page120 with id := 122, source := .host 1, priority := 3 }] }) wired))

/-- The kitchen in the trip state, the hood line released. -/
def dark : Part := tripped (held { trip := true })

theorem test_hall_is_in_range : LoopsInRange hall where
  record n :=
    { cfg :=
        { tcyc := by revert n; decide +kernel
          kc := by revert n; decide +kernel
          ti := by revert n; decide +kernel
          td := by revert n; decide +kernel
          b := by revert n; decide +kernel
          c := by revert n; decide +kernel
          n := by revert n; decide +kernel
          a := by revert n; decide +kernel
          w := by revert n; decide +kernel
          sat := by revert n; decide +kernel
          maxSetpoint := by revert n; decide +kernel
          highLimit := by revert n; decide +kernel
          hysteresis := by revert n; decide +kernel }
      integ := by revert n; decide +kernel
      sp := by revert n; decide +kernel
      ramp := by revert n; decide +kernel
      manOut := by revert n; decide +kernel
      heating := by revert n; decide +kernel
      latched := by revert n; decide +kernel
      resting := by revert n; decide +kernel }
  inhibit := by decide +kernel

theorem test_hall_keeps_its_budget : BudgetKept hall := by constructor <;> decide +kernel

theorem test_hall_keeps_its_plates : PlatesKept hall := by constructor <;> decide +kernel

theorem test_hall_keeps_its_tunnel : TunnelKept hall ∧ TripHeld hall :=
  ⟨by constructor <;> decide +kernel, by constructor <;> decide +kernel⟩

theorem test_dark_holds_the_trip : TunnelKept dark ∧ TripHeld dark ∧ dark.interlock.trip = true :=
  ⟨by constructor <;> decide +kernel, by constructor <;> decide +kernel, rfl⟩

theorem test_hall_keeps_its_ovens : OvensKept hall := by constructor <;> decide +kernel

theorem test_hall_keeps_its_waves_apart : WavesApart hall := by
  have only : ∀ w v, hall.waves.get w = some v → w = 0 := by
    intro w v h
    have : ∀ w, w = 0 ∨ hall.waves.get w = none := by decide +kernel
    exact (this w).resolve_right (by rw [h]; simp)
  have first : hall.waves.get 0 = some { wave17 with cabinets := [2], ovens := [0] } := by decide +kernel
  exact {
    numbers := fun w x v u hw hx _ => (only w v hw).trans (only x u hx).symm
    cabinets := fun w x n ⟨v, hw, _⟩ ⟨u, hx, _⟩ => (only w v hw).trans (only x u hx).symm
    ovens := fun w x n ⟨v, hw, _⟩ ⟨u, hx, _⟩ => (only w v hw).trans (only x u hx).symm
    slot := fun w n => by
      have slots : ∀ w n, (hall.cabinets.get n).waveSlot = some w ↔ w = 0 ∧ n = 2 := by decide +kernel
      rw [slots]
      constructor
      · rintro ⟨rfl, rfl⟩
        exact ⟨_, first, rfl, by decide⟩
      · rintro ⟨v, hw, _, hn⟩
        obtain rfl := only w v hw
        rw [first] at hw
        injection hw with hw
        subst hw
        exact ⟨rfl, by simpa using hn⟩ }

theorem test_hall_keeps_its_desk : EventKindsReturned hall ∧ PagesKept hall.desk.pager := by
  refine ⟨by unfold EventKindsReturned; decide +kernel, ?_⟩
  have queue : hall.desk.pager.queue =
      [{ awaiting 0 with latch := some 5 }, { page120 with id := 121, source := .host 1, priority := 3 },
        { page120 with id := 122, source := .host 1, priority := 3 }] := by decide +kernel
  exact {
    length := by decide +kernel
    order := by decide +kernel
    ids := by decide +kernel
    sources := by
      rw [queue]
      simp [awaiting, page120]
    latches := by decide +kernel
    outcomes := by decide +kernel }

theorem test_hall_keeps_its_link : LinkKept hall.desk.link where
  buffers := by decide +kernel
  waiting := by unfold WaitsBehindRestart; decide +kernel
  once := by decide +kernel
  named := by decide +kernel
  bound := by decide +kernel
  attention := by decide +kernel

/-- A frame behind a RESTART waits, a command taken then marks what it changes, and the frame is not taken behind another
reply. -/
theorem test_a_frame_waits_behind_a_restart :
    let link (kind : Byte) := (replying (okReply kind) [⟨polling, true⟩, ⟨polling, false⟩] rest).desk.link
    let p := after (.stockAdd 1 2 5) (replying (okReply 0xF1) [⟨polling, true⟩, ⟨polling, false⟩] rest)
    WaitsBehindRestart (link 0xF1) ∧ ¬ WaitsBehindRestart (link 1) ∧ WaitsBehindRestart rest.desk.link ∧
      WaitsBehindRestart p.desk.link ∧ ⟨.stock, 2⟩ ∈ p.desk.link.changeSet := by
  unfold WaitsBehindRestart
  decide +kernel

/-- A step of the kitchen at work, and of the dark one. -/
theorem test_steps_of_the_hall :
    ∃ t u, step { part := hall, pending := [.uptimeSecond] } = .next t ∧ step { part := dark, pending := [.clearTrip 1] } = .next u ∧
      t.part.uptime = 40091 ∧ u.part.dish.state = .ready ∧ ¬ (Instr.uptimeSecond = .powerOn) :=
  ⟨_, _, rfl, rfl, by decide +kernel, by decide +kernel, by decide⟩

/-! ## Cycles at once, releases and cancel notices -/

/-- A loop taken to AUTO from OFF: it has a demand at once with its channel OK, and CHAN_FAULT with none (R33). -/
theorem test_a_start_takes_a_cycle_at_once :
    let off (n : Fin 16) (p : Part) := onLoop n (fun l => { l with integ := 9, uLast := 5, grantRound := 3 }) p
    let oven := off 1 (stored 4 roastProgram rest)
    let cabinet := off 8 (onCabinet 2 (fun c => { c with kind := 1, serviceSp := 600 }) rest)
    let dish := off 14 (reads 20 200 (reads 21 200 rest))
    let trip := onSlot 85 { state := .acked, count := 1 } (tripped (off 14 (reads 20 200 (held { trip := true }))))
    ((after (.startProgram 1 1 4) (reads 1 250 oven)).loops.get 1).demand = 1000 ∧
      ((after (.startProgram 1 1 4) (reads 1 250 oven)).loops.get 1).usedRound = 3 ∧
      ((after (.startProgram 1 1 4) oven).loops.get 1) =
        { oven.loops.get 1 with base := .auto, sp := 1800, integ := 0, uLast := 0, usedRound := 3, chFault := true } ∧
      0 < ((after (.setCabinetMode 1 2 2) (reads 14 250 cabinet)).loops.get 8).demand ∧
      ((after (.setCabinetMode 1 2 2) cabinet).loops.get 8).chFault = true ∧
      0 < ((after (.dishOn 1) dish).loops.get 14).demand ∧ 0 < ((after (.dishOn 1) dish).loops.get 15).demand ∧
      0 < ((after (.clearTrip 1) trip).loops.get 14).demand ∧
      ((after (.clearTrip 1) trip).loops.get 15).chFault = true := by
  decide +kernel

/-- An oven door that closes releases its loop: a cycle at once with the used round at the grant round in AUTO, the manual
output or 0 under the latch in MANUAL, nothing more in OFF (R34). -/
theorem test_a_door_that_closes_releases_the_loop :
    let closes (l : Loop → Loop) := (after (.filterTimerExpiry (.ovenDoor 1)) (falls (.ovenDoor 1) (reads 1 1650
      (onLoop 1 (fun d => { l d with inhibit := true, demand := 7, grantRound := 6 }) (onOven 1 (fun o =>
        { o with doorOpen := true, state := .cooking }) rest))))).loops.get 1
    (closes roast).usedRound = 6 ∧ (closes roast).demand = 463 ∧ (closes roast).inhibit = false ∧
      (closes (warm false)).demand = 120 ∧ (closes (warm true)).demand = 0 ∧ (closes id).demand = 7 ∧
      (closes id).inhibit = false := by decide +kernel

/-- UNLOAD from FINISHED with the door open releases the loop in the mode it stands in (R34, R73). -/
theorem test_an_unload_releases_the_loop :
    let unloads (l : Loop → Loop) := (after (.unload 1 1) (reads 1 1650 (onLoop 1 (fun d =>
      { l d with inhibit := true, demand := 7, grantRound := 6 })
        (onOven 1 (fun o => { o with doorOpen := true, state := .finished }) rest)))).loops.get 1
    (unloads roast).usedRound = 6 ∧ (unloads roast).demand = 463 ∧ (unloads (warm false)).demand = 120 := by decide +kernel

/-- A page of a source in the state it is in, its latch set, on the air or out at entry 17. -/
def announced (source : Source) (state : PageState) : Page :=
  { page120 with source, state, tried := [17], target := some 17, latch := some 9 }

/-- What a cancel notice makes of that page: CANCELLED at once with no page of the latch, the pager's outstanding count down
if it was AWAITING, or marked on the air. -/
abbrev cancelled (c : Instr) (source : Source) (p : Part) : Bool :=
  let out (state : PageState) := paging (fun g => { (outstanding [announced source state] .waiting).desk.pager with
    routes := g.routes }) p
  let air := paging (fun g => { g with queue := [announced source .onAir], port := .sending 120 5 false }) p
  let left (state : PageState) := (after c (out state)).desk.pager
  decide ((left .queued).queue = [] ∧ (left .awaiting).queue = [] ∧
    (left .queued).outcomes.map OutcomeRecord.outcome = [.cancelled] ∧
    ((left .queued).directory.get 17).outstanding = 1 ∧ ((left .awaiting).directory.get 17).outstanding = 0 ∧
    (after c air).desk.pager.queue = [{ announced source .onAir with latch := none, cancelMark := true }])

/-- The notices of R172: an oven that leaves HOLDING or FINISHED by UNLOAD, ABORT, START PROGRAM or the trip, a wave that
closes by CLOSE or at its covers, and an acknowledged slot. -/
theorem test_cancel_notices :
    cancelled (.unload 1 1) (.oven 1) (roasting .holding 2 9) ∧
      cancelled (.unload 1 1) (.oven 1) (roasting .finished 2 9) ∧
      cancelled (.abort 1 1) (.oven 1) (roasting .holding 2 9) ∧
      cancelled (.abort 1 1) (.oven 1) (roasting .finished 2 9) ∧
      cancelled (.startProgram 1 1 4) (.oven 1) (roasting .finished 2 9) ∧
      cancelled (.filterTimerExpiry .hoodTrip) (.oven 1) (rises .hoodTrip (roasting .holding 2 9)) ∧
      cancelled (.filterTimerExpiry .hoodTrip) (.oven 1) (rises .hoodTrip (roasting .finished 2 9)) ∧
      cancelled (.close 1 0 17) (.wave 0) (waves17 fun v => { v with state := .ready }) ∧
      cancelled (.acknowledge 1 3 2) (.slot 3) (onSlot 3 { state := .active, count := 2 } rest) := by decide +kernel

theorem test_the_covers_cancel_wave_ready :
    let full := waving 3 { serving55 with covers := 360 } { kitchen55 with desk := rest.desk }
    cancelled (.issue 1 2 10) (.wave 3) full ∧ ¬ cancelled (.issue 1 2 9) (.wave 3) full ∧
      ((after (.issue 1 2 10) full).waves.get 3).map Wave.state = some .closed := by decide +kernel

/-- Other moves of an oven, and another oven's page, meet no notice. -/
theorem test_moves_that_cancel_nothing :
    ¬ cancelled (.foodLoaded 1 1) (.oven 1) (roasting .loadWait 1 0) ∧
      ¬ cancelled (.abort 1 1) (.oven 1) (roasting .cooking 1 0) ∧
      ¬ cancelled (.unload 1 1) (.oven 2) (roasting .holding 2 9) := by decide +kernel

/-! ## An ACCEPT with the port IDLE, moves of nothing, a CREATE late or short, a RESTART and a trip of the tunnel -/

/-- An ACCEPT ends its page; with the port IDLE the next page then goes on the air, and a set latch makes a page (R162). -/
theorem test_an_accept_with_the_port_idle :
    let next := { page120 with id := 7, source := .host 1 }
    let idle := after (.answerAccept 117 120) (outstanding [awaiting 0, next] .idle)
    let latched := after (.answerAccept 117 120) (outstanding [{ awaiting 0 with latch := some 9 }] .waiting)
    (idle.desk.pager.outcomes.map fun r => (r.id, r.outcome)) = [(120, .acked)] ∧
      idle.desk.pager.port = .sending 7 1 false ∧ idle.desk.pager.queue.map Page.id = [7] ∧
      (idle.desk.pager.directory.get 17).outstanding = 0 ∧
      (latched.desk.pager.queue.map fun q => (q.source, q.param, q.state)) = [(.wave 0, 9, .queued)] ∧
      latched.desk.pager.outcomes.map OutcomeRecord.outcome = [.acked] := by decide +kernel

theorem test_moves_of_nothing :
    let bare := stocked 1 { total := 100, tunnel := 100 } { kitchen55 with desk := rest.desk }
    let nothing (c : Instr) (p : Part) := decide (answer c p = some (.okTaken, [[0, 0, 0, 0, 0, 3]]) ∧
      { after c p with desk := p.desk } = p ∧ (after c p).desk.pager = p.desk.pager ∧
      (after c p).desk.conds = p.desk.conds)
    nothing (.writeOff 1 1 8 3) bare ∧ nothing (.writeOff 1 1 9 3) bare ∧ nothing (.writeOff 1 1 10 3) bare ∧
      nothing (.writeOff 1 1 2 3) (onCabinet 2 (fun c => { c with batches := [] }) bare) ∧
      nothing (.returnPlates 1 1 3) bare := by decide +kernel

/-- A CREATE inside its lead with too few plates is short, one with no time left is late as well. -/
theorem test_a_create_judged_at_once :
    let made (due : Word) := after (.create 1 { create17 with due }) kitchen79
    ((made 1800).waves.get 0).map (fun v => (v.state, v.short, v.late)) = some (.preparing, true, false) ∧
      (made 1800).desk.conds.get 59 = { state := .active, count := 1, first := 50000, last := 50000, param := 50 } ∧
      (made 1800).desk.conds.get 71 = kitchen79.desk.conds.get 71 ∧
      ((made 0).waves.get 0).map (fun v => (v.state, v.late)) = some (.late, true) ∧
      (made 0).desk.conds.get 71 = { state := .active, count := 1, first := 50000, last := 50000, param := 785 } ∧
      ((made 3600).waves.get 0).map (fun v => (v.state, v.short, v.late)) = some (.planned, false, false) ∧
      (made 3600).desk.conds.get 59 = kitchen79.desk.conds.get 59 := by decide +kernel

/-- The racks in the tunnel at a RESTART go to the ring, which counts what it overwrites; the valve closes, and the lock of
heater 15 with it. At a trip heater 15 is cut like the others (R103, R116). -/
theorem test_a_restart_and_a_trip_of_the_tunnel :
    let full (n : Nat) := washing (fun d => { d with ring := List.replicate n (rack 0), overwrites := 65534 })
      (running [rack 2450, rack 850] true)
    let again (n : Nat) := (after (.restart 1) (full n)).dish
    let hood := after (.filterTimerExpiry .hoodTrip) (rises .hoodTrip (onHeater 15 (fun h =>
      { h with rated := 9000, grant := 500, assigned := 900, delivered := 800, output := true }) (full 0)))
    (again 62).overwrites = 65534 ∧ (again 63).overwrites = 65535 ∧ (again 64).overwrites = 65535 ∧
      (again 64).ring.length = 64 ∧ ((after (.restart 1) (full 0)).feeder.heaters.get 15).locked = false ∧
      hood.feeder.heaters.get 15 = { rest.feeder.heaters.get 15 with rated := 9000 } := by decide +kernel

/-! ## Notices that judge waves, PLATES_LOW, a CLOSE with its notice, and raises at a RESTART -/

/-- Wave 17 in PREPARING with its ovens done, and 90 of its covers ready in cabinet 2, WAVE_READY being routed. -/
def nearly (v : Wave → Wave) : Part :=
  paging (fun g => { g with port := .waiting, routes := g.routes.set 14 { enabled := true, code := 40 } })
    (ovensAt .holding .finished (waves17 fun w => v { w with state := .preparing, covers := 90 }))

def waveOf0 (p : Part) : Option (WaveState × Bool × Bool × Bool) :=
  (p.waves.get 0).map fun v => (v.state, v.short, v.late, v.readyLate)

/-- Each notice finds the wave ready, and sends WAVE_READY; a LATE wave returns its condition (R134, R141). -/
theorem test_notices_find_a_wave_ready :
    let sent (p : Part) := p.desk.pager.queue.map fun q => (q.source, q.param)
    let stock := after (.stockAdd 1 1 5) (nearly id)
    let late := after (.stockAdd 1 1 5) (onSlot 71 { state := .active, count := 1 } (nearly fun v =>
      { v with state := .late, late := true, due := 0 }))
    waveOf0 stock = some (.ready, false, false, false) ∧ sent stock = [(.wave 0, 785)] ∧
      waveOf0 late = some (.ready, false, false, true) ∧ (late.desk.conds.get 71).state = .returned ∧
      waveOf0 (after (.stockAdd 1 2 5) (nearly id)) = some (.preparing, false, false, false) := by decide +kernel

theorem test_ticks_and_configurations_find_a_wave_ready :
    let sent (p : Part) := p.desk.pager.queue.map fun q => (q.source, q.param)
    let warm := after (.warmTick 2) (reads 14 900 (onCabinet 2 (fun c => { c with batches := [⟨90, 48000, 1199⟩] }) (nearly id)))
    let oven := after (.ovenTimingTick 1) (reads 1 1700 (stored 4 { roastProgram with steps := [.timed 1800 600] }
      (onOven 1 (fun o => { o with state := .cooking, program := 4, step := 1, elapsed := 599 }) (nearly id))))
    waveOf0 warm = some (.ready, false, false, false) ∧ sent warm = [(.wave 0, 785)] ∧
      waveOf0 oven = some (.ready, false, false, false) ∧ sent oven = [(.wave 0, 785)] ∧
      waveOf0 (after (.configureCabinet 1 2 ⟨1, 120, 500, 800, 650, 1000, 20⟩)
        (onCabinet 2 (fun c => { c with batches := [⟨90, 48000, 1100⟩] }) (nearly id))) =
          some (.ready, false, false, false) := by decide +kernel

/-- A judgement at a notice takes the short flag and makes a wave with no time left LATE (R133, R135, R141). -/
theorem test_notices_find_a_wave_short_or_late :
    let short := after (.writeOff 1 1 9 60) (waves17 fun v => { v with state := .ready, covers := 250 })
    let late := after (.stockAdd 1 1 5) (waves17 fun v => { v with state := .preparing, covers := 200, due := 0 })
    let unloaded := after (.unload 1 0) (ovensAt .holding .finished (waves17 fun v => { v with state := .preparing, due := 0 }))
    waveOf0 short = some (.ready, true, false, false) ∧
      short.desk.conds.get 59 = { state := .active, count := 1, first := 50000, last := 50000, param := 50 } ∧
      waveOf0 late = some (.late, false, true, false) ∧ (late.desk.conds.get 71).param = 785 ∧
      (waveOf0 unloaded).map Prod.fst = some .late := by decide +kernel

/-- PLATES_LOW of a serving cabinet at LOAD, UNLOAD PLATES, WRITE OFF, CONFIGURE CABINET and a warm tick that changes the
ready count (R95). -/
theorem test_each_change_evaluates_plates_low :
    let low (c : Instr) (p : Part) := (after c p).desk.pager.queue.map fun q => (q.source, q.param)
    let cold := onCabinet 2 (fun c => { c with batches := [⟨9, 0, 1199⟩] }) kitchen55
    let few := onCabinet 2 (fun c => { c with batches := [⟨20, 0, 1500⟩] }) kitchen55
    low (.load 1 2 5) cold = [(.cabinet 2, 0)] ∧ low (.unloadPlates 1 2 1) few = [(.cabinet 2, 19)] ∧
      low (.writeOff 1 1 2 1) few = [(.cabinet 2, 19)] ∧ low (.load 1 2 5) few = [] ∧
      low (.configureCabinet 1 2 ⟨1, 120, 500, 800, 650, 1200, 21⟩) few = [(.cabinet 2, 20)] ∧
      low (.configureCabinet 1 2 ⟨1, 120, 500, 800, 650, 1200, 20⟩) few = [] ∧
      low (.warmTick 2) (reads 14 700 cold) = [(.cabinet 2, 9)] ∧ low (.warmTick 2) (reads 14 700 few) = [] ∧
      low (.load 1 2 5) (waving 3 { serving55 with state := .ready } cold) = [] := by decide +kernel

/-- A CLOSE next after the ISSUE that reached the covers is answered OK, by either way of arriving; after another command
between, or for another wave, it is refused (R139). -/
theorem test_a_close_with_its_notice :
    let full := waving 3 { serving55 with covers := 360 } kitchen55
    let closed := after (.issue 1 2 10) full
    let framed := after (.controlFrameComplete 0x55 1 [2, 0, 10]) full
    closed.justClosed = some 3 ∧ framed.justClosed = some 3 ∧ (after (.issue 1 2 9) full).justClosed = none ∧
      answer (.close 2 3 3) closed = some (.ok, []) ∧
      (after (.close 2 3 3) closed).waves.get 3 = closed.waves.get 3 ∧ (after (.close 2 3 3) closed).justClosed = none ∧
      answer (.controlFrameComplete 0x73 2 [3, 3]) framed = some (.ok, []) ∧
      answer (.close 2 3 3) (after .replySent closed) = some (.state, []) ∧
      answer (.close 3 3 3) (after (.close 2 3 3) closed) = some (.state, []) ∧
      (after (.close 2 3 3) full).justClosed = none := by decide +kernel

/-- The racks of a trip go to the ring, which counts what it overwrites; the lowest oven's page is CANCELLED first. -/
theorem test_the_ring_and_the_pages_of_a_trip :
    let hood (p : Part) := after (.filterTimerExpiry .hoodTrip) (rises .hoodTrip p)
    let full := hood (washing (fun d => { d with ring := List.replicate 63 (rack 0), overwrites := 9, rackCounter := 7 })
      (running [rack 2450, rack 850] true))
    let pages := hood (ovensAt .holding .finished (queued
      [{ page120 with source := .oven 1 }, { page120 with id := 121, source := .oven 0 }] .waiting))
    full.dish.overwrites = 10 ∧ full.dish.ring.length = 64 ∧ full.dish.rackCounter = 7 ∧
      (full.dish.ring.drop 62).map Rack.outcome = [some .unverified, some .unverified] ∧
      pages.desk.pager.outcomes.map OutcomeRecord.source = [.oven 0, .oven 1] := by decide +kernel

/-- The trip and the overload raised again page by their routes, on groups and counters that the restart has kept. -/
theorem test_a_restart_pages_what_still_holds :
    let on (p : Part) := lined .conveyorOverload { raw := true, filtered := true, timing := false } (tripped p)
    let p := after (.restart 1) (on (paging (fun g => { g with
      routes := (g.routes.set 11 { enabled := true, group := 2, priority := 1 }).set 12 { enabled := true, group := 2, priority := 2 }
      tagCounter := 8 }) staff))
    let quiet := after (.restart 1) (on staff)
    p.desk.pager.port = .sending 120 9 false ∧ (p.desk.pager.queue.map fun q => (q.id, q.source, q.state)) =
        [(120, .slot 85, .onAir), (121, .slot 86, .queued)] ∧
      (p.desk.pager.groups.get 2).pointer = 17 ∧ (p.desk.pager.groups.get 2).escalation = some 5 ∧
      p.desk.pager.pageCounter = 121 ∧ quiet.desk.pager.groups = staff.desk.pager.groups ∧
      quiet.desk.pager.pageCounter = 119 ∧ quiet.desk.pager.queue = [] := by decide +kernel

end Sys2Proof.Tests
end

section
namespace Sys2Proof.Machine

/-! ## Power-on (O2) -/

/-- The limits of a loop at power-on, by the oven, cabinet, tank and booster loops (section 2.1.1). -/
theorem LoopConfig.powerOn_eq (n : Fin 16) : LoopConfig.powerOn n =
    { tcyc := 20, kc := 100, ti := 0, td := 0, b := 255, c := 0, n := 1, a := 0, w := 16384, satLow := 0,
      satHigh := 1000, hysteresis := 50,
      maxSetpoint := if n.val ≤ 5 then 3000 else if n.val ≤ 13 then 1000 else if n.val = 14 then 800 else 950,
      highLimit := if n.val ≤ 5 then 3200 else if n.val ≤ 13 then 1100 else if n.val = 14 then 900 else 990 } := by
  unfold LoopConfig.powerOn
  simp only [← Nat.lt_succ_iff]
  split
  · rfl
  · split
    · rfl
    · split <;> rfl

/-- A part whose fields all take their defaults stands at its power-on values, whatever raw levels its lines carry. -/
theorem atPowerOn_of_lines (lines : Table LineState 12)
    (fresh : ∀ i, (lines.get i).filtered = false ∧ (lines.get i).timing = true) :
    AtPowerOn { interlock := { lines } } where
  uptime := rfl
  entries ch := Table.get_ofFn _ ch
  firstVisit := rfl
  loops n := (Table.get_ofFn _ n).trans (by rw [LoopConfig.powerOn_eq])
  heaters n := Table.get_ofFn _ n
  budget := ⟨rfl, rfl, rfl, rfl, rfl, rfl, rfl, rfl, rfl, rfl⟩
  programs n := Table.get_ofFn _ n
  ovens n := Table.get_ofFn _ n
  cabinets n := Table.get_ofFn _ n
  stock kind := Table.get_ofFn _ kind
  dish := rfl
  waves w := Table.get_ofFn _ w
  conds i := Table.get_ofFn _ i
  directory e := Table.get_ofFn _ e
  groups g := Table.get_ofFn _ g
  routes r := Table.get_ofFn _ r
  pages := ⟨rfl, rfl⟩
  radio := ⟨rfl, rfl, rfl, rfl, rfl⟩
  lines := fresh
  trip := ⟨rfl, rfl, rfl⟩
  link := rfl
  justClosed := rfl

/-- Supply applied keeps the raw levels and puts everything else at its power-on value (R177; log entries 14 and 15). -/
theorem Part.poweredOn_atPowerOn (p : Part) : AtPowerOn p.poweredOn :=
  atPowerOn_of_lines _ fun i => by simp

@[simp] theorem Part.poweredOn_raw (p : Part) (i : Fin 12) :
    (p.poweredOn.interlock.lines.get i).raw = (p.interlock.lines.get i).raw := by
  simp [Part.poweredOn]

/-- Settles O2: every field takes its default, at POWER_ON over the raw levels found, at reset over deasserted ones. -/
theorem powerOnSetsEveryField : Obligations.PowerOnSetsEveryField := by
  refine ⟨fun s => ⟨{ s with part := s.part.poweredOn }, rfl, rfl, s.part.poweredOn_atPowerOn, ?_⟩, ?_, rfl⟩
  · exact s.part.poweredOn_raw
  · exact atPowerOn_of_lines _ fun i => by simp

end Sys2Proof.Machine
end

section
namespace Sys2Proof.Machine

/-! ## A return (R146) -/

@[simp] theorem Desk.ret_conds (d : Desk) (slot : Fin 87) :
    (d.ret slot).conds = d.conds.set slot (d.conds.get slot).ret := Desk.setSlot_conds d slot _

@[simp] theorem Desk.ret_pager (d : Desk) (slot : Fin 87) : (d.ret slot).pager = d.pager := Desk.setSlot_pager d slot _

/-- A return sends nothing to the pager controller: it writes its slot alone. -/
theorem Part.ret_works_conds (p : Part) (slot : Fin 87) : Works { conds := true } [slot] p (p.ret slot) := by
  have only := Desk.ret_only p.desk slot
  refine ⟨⟨by constructor <;> simp, ?_⟩, only.rest⟩
  rw [Part.ret_desk, Desk.ret, Desk.setSlot_link]
  split
  · exact MarkedWithin.refl _ _
  · exact MarkedWithin.mark _ _ _ rfl

/-- Work takes no mark away. -/
theorem Works.changeSet_subset {f : Footprint} {own : List (Fin 87)} {p q : Part} (h : Works f own p q) :
    p.desk.link.changeSet ⊆ q.desk.link.changeSet := by
  obtain ⟨marks, -, link⟩ := h.moves.marks
  rw [link]
  exact Link.changeSet_subset_withMarks marks _

/-- An answer shows the change set as the request's block left it. -/
@[simp] theorem State.answer_changeSet (s : State) (kind tag : Byte) (taken : Part × Answer) :
    (s.answer kind tag taken).part.desk.link.changeSet = taken.1.desk.link.changeSet := by
  simp [State.answer, Part.settled, Part.reply]

@[simp] theorem State.answer_entry (s : State) (kind tag : Byte) (taken : Part × Answer) (ch : Fin 23) :
    (s.answer kind tag taken).entry ch = taken.1.scan.entries.get ch := rfl

@[simp] theorem State.answer_slot (s : State) (kind tag : Byte) (taken : Part × Answer) (i : Fin 87) :
    (s.answer kind tag taken).slot i = taken.1.desk.conds.get i := rfl

/-- The link of an answer: the reply built behind those that wait, and an idle transmitter started. -/
theorem State.answer_link (s : State) (kind tag : Byte) (taken : Part × Answer) :
    (s.answer kind tag taken).link = (taken.1.desk.link.built kind tag taken.2.status taken.2.pieces).kick := rfl

/-! ## One-byte operands -/

theorem onOff_of_le {b : Byte} (h : b.toNat ≤ 1) : onOff b = some (decide (b.toNat = 1)) := by
  have : b = 0 ∨ b = 1 := by bv_omega
  rcases this with rfl | rfl <;> rfl

theorem onOff_of_ge {b : Byte} (h : 2 ≤ b.toNat) : onOff b = none := by
  have h0 : b ≠ 0 := by bv_omega
  have h1 : b ≠ 1 := by bv_omega
  rw [onOff, if_neg h0, if_neg h1]

/-! ## READ CHANNEL and READ CHANNELS (R10) -/

/-- Clearing the fresh marks of some channels touches their entries alone. -/
theorem foldl_clearFresh_entry (run : List (Fin 23)) (p : Part) (ch : Fin 23) :
    (run.foldl (fun q ch => q.clearFresh ch) p).scan.entries.get ch =
      if ch ∈ run then { p.scan.entries.get ch with fresh := false } else p.scan.entries.get ch := by
  induction run generalizing p with
  | nil => simp
  | cons first rest ih =>
    rw [List.foldl_cons, ih]
    by_cases same : ch = first
    · subst same
      simp [Part.clearFresh]
    · simp [Part.clearFresh, same, Table.get_set_ne _ _ same]

/-- Clearing fresh marks leaves the scan's order and the whole desk as they are. -/
theorem foldl_clearFresh_rest (run : List (Fin 23)) (p : Part) :
    (run.foldl (fun q ch => q.clearFresh ch) p).scan.next = p.scan.next ∧
      (run.foldl (fun q ch => q.clearFresh ch) p).scan.select = p.scan.select ∧
      (run.foldl (fun q ch => q.clearFresh ch) p).desk = p.desk := by
  induction run generalizing p with
  | nil => exact ⟨rfl, rfl, rfl⟩
  | cons first rest ih => exact ih (p.clearFresh first)

theorem foldl_clearFresh_works (own : List (Fin 87)) (run : List (Fin 23)) (p : Part) :
    Works { scan := true } own p (run.foldl (fun q ch => q.clearFresh ch) p) :=
  Works.foldl _ (fun q ch => Part.putEntry_works q own ch _) run p

theorem mem_channelRun (first count : Nat) (ch : Fin 23) :
    ch ∈ channelRun first count ↔ first ≤ ch.val ∧ ch.val < first + count := by
  simp [channelRun]

/-- READ CHANNELS within the table. -/
theorem readChannels_within {first count : Byte} (some_asked : 1 ≤ count.toNat)
    (within : first.toNat + count.toNat ≤ 23) (p : Part) :
    readChannels first count p =
      ((channelRun first.toNat count.toNat).foldl (fun q ch => q.clearFresh ch) p,
        { status := .ok, pieces := listPieces ((channelRun first.toNat count.toNat).map fun ch =>
          (p.scan.entries.get ch).bytes ch) }) := by
  unfold readChannels
  rw [if_neg]
  rintro (rfl | past)
  · simp at some_asked
  · omega

/-- READ CHANNELS of no channel, or past the table. -/
theorem readChannels_outside {first count : Byte} (outside : count.toNat = 0 ∨ 23 < first.toNat + count.toNat)
    (p : Part) : readChannels first count p = (p, { status := .range }) := by
  unfold readChannels
  rw [if_pos (outside.imp_left fun none_asked => by bv_omega)]

/-! ## CONFIGURE CHANNEL (R11 to R14) -/

theorem Entry.inFault_eq (e : Entry) :
    e.inFault = decide (e.status = .openFault ∨ e.status = .shortFault) := by
  unfold Entry.inFault
  cases e.status <;> rfl

/-- A CONFIGURE CHANNEL that is taken: the entry with its mark, and the return where it disables a faulted channel. -/
def Part.configureEntry (ch : Fin 23) (gain : Nat) (offset : Int) (on : Bool) (p : Part) : Part :=
  let e := p.scan.entries.get ch
  let q := (p.setEntry ch (e.configured gain offset on)).mark .channel ch.val
  if e.enabled && !on && e.inFault then q.ret (probeSlot ch) else q

/-- The fields of a CONFIGURE CHANNEL lie in their ranges (R11). -/
structure ChannelFieldsInRange (channel enable : Byte) (gain offset : Half) : Prop where
  channel : channel.toNat < 23
  gain : gain.toNat ≠ 0
  low : -1000 ≤ offset.toInt
  high : offset.toInt ≤ 1000
  enable : enable.toNat ≤ 1

theorem configureChannel_of_inRange {channel enable : Byte} {gain offset : Half}
    (h : ChannelFieldsInRange channel enable gain offset) (p : Part) :
    configureChannel channel gain offset enable p =
      (p.configureEntry ⟨channel.toNat, h.channel⟩ gain.toNat offset.toInt (decide (enable.toNat = 1)),
        { status := .ok }) := by
  have taken : ¬ (gain = 0 ∨ offset.toInt < -1000 ∨ 1000 < offset.toInt) := by
    rintro (rfl | low | high)
    · exact h.gain rfl
    · exact absurd h.low (by omega)
    · exact absurd h.high (by omega)
  simp only [configureChannel, index_of_lt h.channel, onOff_of_le h.enable, if_neg taken]
  rfl

theorem configureChannel_of_outOfRange {channel enable : Byte} {gain offset : Half}
    (h : 23 ≤ channel.toNat ∨ gain.toNat = 0 ∨ offset.toInt < -1000 ∨ 1000 < offset.toInt ∨ 2 ≤ enable.toNat)
    (p : Part) : configureChannel channel gain offset enable p = (p, { status := .range }) := by
  unfold configureChannel
  split
  · next ch on isChannel isOnOff =>
    rw [index_eq_some] at isChannel
    have noChannel : ¬ 23 ≤ channel.toNat := by omega
    have noEnable : ¬ 2 ≤ enable.toNat := fun ge => by simp [onOff_of_ge ge] at isOnOff
    rw [if_pos]
    rcases h with out | zero | low | high | out
    · exact absurd out noChannel
    · exact Or.inl (by bv_omega)
    · exact Or.inr (Or.inl low)
    · exact Or.inr (Or.inr high)
    · exact absurd out noEnable
  · rfl

section Configure

variable (p : Part) (ch : Fin 23) (gain : Nat) (offset : Int) (on : Bool)

theorem Part.configureEntry_works :
    Works { scan := true, conds := true } [probeSlot ch] p (p.configureEntry ch gain offset on) := by
  have stored : Works { scan := true, conds := true } [probeSlot ch] p
      ((p.setEntry ch ((p.scan.entries.get ch).configured gain offset on)).mark .channel ch.val) :=
    (Part.setEntry_works p _ ch _).widen.trans (Works.mark _ _ _ _ rfl)
  unfold Part.configureEntry
  dsimp only
  split
  · exact stored.trans (Part.ret_works_conds _ _).widen
  · exact stored

theorem Part.configureEntry_scan : (p.configureEntry ch gain offset on).scan =
    { p.scan with entries := p.scan.entries.set ch ((p.scan.entries.get ch).configured gain offset on) } := by
  unfold Part.configureEntry
  dsimp only
  split <;> simp

theorem Part.configureEntry_conds : (p.configureEntry ch gain offset on).desk.conds =
    p.desk.conds.set (probeSlot ch)
      (if (p.scan.entries.get ch).enabled && !on && (p.scan.entries.get ch).inFault then
        (p.desk.conds.get (probeSlot ch)).ret else p.desk.conds.get (probeSlot ch)) := by
  unfold Part.configureEntry
  dsimp only
  split <;> simp

/-- A CONFIGURE CHANNEL marks its channel whatever it changes (R14). -/
theorem Part.configureEntry_marks :
    Mark.mk .channel ch.val ∈ (p.configureEntry ch gain offset on).desk.link.changeSet := by
  have stored (q : Part) : Mark.mk .channel ch.val ∈ (q.mark .channel ch.val).desk.link.changeSet :=
    Link.mem_mark_changeSet _ _ _
  unfold Part.configureEntry
  dsimp only
  split
  · exact (Part.ret_works_conds _ _).changeSet_subset (stored _)
  · exact stored _

end Configure

/-- Settles O17: READ CHANNEL, READ CHANNELS and CONFIGURE CHANNEL, each in and out of its range. -/
theorem channelRequestsServeTheTable : Obligations.ChannelRequestsServeTheTable := by
  refine ⟨⟨?one, ?oneOut, ?many, ?manyOut⟩, ?configure, ?configureOut⟩
  case one =>
    intro s tag channel h
    simp only [exec, execReadChannel, readChannel, index_of_lt h]
    rfl
  case oneOut =>
    intro s tag channel h
    simp only [exec, execReadChannel, readChannel, index_of_le h]
  case many =>
    intro s tag first count some_asked within
    obtain ⟨next, select, desk⟩ := foldl_clearFresh_rest (channelRun first.toNat count.toNat) s.part
    have works := foldl_clearFresh_works [] (channelRun first.toNat count.toNat) s.part
    refine ⟨_, rfl, rfl, ?_⟩
    rw [readChannels_within some_asked within]
    refine ⟨(works.answered (taken := (_, _)) 0x11 tag).touches, next, select, fun ch => ?_, ?_⟩
    · simp only [State.answer_entry, foldl_clearFresh_entry, mem_channelRun]
    · rw [State.answer_link, desk]
  case manyOut =>
    intro s tag first count outside
    simp only [exec, execReadChannels, readChannels_outside outside]
  case configure =>
    intro s tag channel enable gain offset inTable gainOk low high enableOk ch e on
    have inRange : ChannelFieldsInRange channel enable gain offset := ⟨inTable, gainOk, low, high, enableOk⟩
    refine ⟨_, rfl, ?_⟩
    rw [configureChannel_of_inRange inRange]
    have works := s.part.configureEntry_works ch gain.toNat offset.toInt on
    have scan := s.part.configureEntry_scan ch gain.toNat offset.toInt on
    have conds := s.part.configureEntry_conds ch gain.toNat offset.toInt on
    refine ⟨works.answered (taken := (_, { status := .ok })) 0x12 tag, ?_, ?_, fun m other => ?_, fun same => ?_,
      fun differs => ?_, fun i other => ?_, ?_, ?_⟩
    · rw [State.answer_scan, scan]
    · rw [State.answer_scan, scan]
    · rw [State.answer_entry, scan, Table.get_set_ne _ _ other]
    · rw [State.answer_entry, scan, Table.get_set_self, Entry.configured, if_pos same.symm, ← same]
    · rw [State.answer_entry, scan, Table.get_set_self, Entry.configured, if_neg (Ne.symm differs)]
    · rw [State.answer_slot, conds, Table.get_set_ne _ _ other]
    · rw [State.answer_slot, conds, Table.get_set_self, Entry.inFault_eq]
    · rw [State.answer_changeSet]
      exact s.part.configureEntry_marks ch gain.toNat offset.toInt on

  case configureOut =>
    intro s tag channel enable gain offset out
    simp only [exec, execConfigureChannel, configureChannel_of_outOfRange out]

end Sys2Proof.Machine
end

section
namespace Sys2Proof.Machine

/-! ## A raise (R145, R147) -/

/-- What a raise makes of its own slot: an event kind returns at once. PAGE_UNANSWERED apart, which the radio arbiter
may raise again in the same step. -/
theorem Desk.raise_slot (d : Desk) (now : Word) (slot : Fin 87) (param : Half) (answered : slot ≠ unansweredSlot) :
    (d.raise now slot param).conds.get slot =
      if isEventKind slot then ((d.conds.get slot).raise now param).ret else (d.conds.get slot).raise now param := by
  have arbiter (e : Desk) : (e.arbiter now).conds.get slot = e.conds.get slot :=
    (Desk.arbiter_only e now []).rest.slots slot (by simp) answered
  have trigger (e : Desk) : (e.triggerCore now (.slot slot) param).conds.get slot = e.conds.get slot :=
    (Desk.triggerCore_only e now [] (.slot slot) param).rest.slots slot (by simp) answered
  rw [Desk.raise, arbiter, Desk.raiseCore]
  split <;> simp [trigger]

/-- What a raise makes of the slots but its own and PAGE_UNANSWERED: nothing. -/
theorem Desk.raise_slot_ne (d : Desk) (now : Word) (slot i : Fin 87) (param : Half) (other : i ≠ slot)
    (answered : i ≠ unansweredSlot) : (d.raise now slot param).conds.get i = d.conds.get i :=
  (Desk.raise_only d now slot param).rest.slots i (by simpa using other) answered

theorem probeSlot_ne_unanswered (ch : Fin 23) : probeSlot ch ≠ unansweredSlot := by
  revert ch
  decide

theorem isEventKind_probeSlot (ch : Fin 23) : isEventKind (probeSlot ch) = false := by
  revert ch
  decide

/-! ## One sample (R2 to R7) -/

theorem Entry.reaches_iff (k : SampleKind) (e : Entry) :
    e.reaches k = true ↔ e.runKind = some k ∧ e.runLen = 2 := by
  simp [Entry.reaches]

/-- When a good sample takes its temperature into the entry (R5, R7). -/
theorem Entry.admits_iff (e : Entry) :
    e.admits = true ↔ e.status = .unscanned ∨ e.status = .ok ∨
      (e.status = .openFault ∨ e.status = .shortFault) ∧ e.runKind = some .good ∧ e.runLen = 2 := by
  unfold Entry.admits
  cases e.status <;> simp [Entry.reaches_iff]

/-- A third OPEN sample in a row faults an entry that is not yet in OPEN (R6). -/
theorem Entry.faults_open {e : Entry} (third : e.reaches .openBad = true)
    (status : (e.status = .unscanned ∨ e.status = .ok) ∨ e.status = .shortFault) :
    e.faults .openBad = some .openFault := by
  unfold Entry.faults
  rw [if_pos third]
  rcases status with (h | h) | h <;> rw [h]

/-- A third SHORT sample in a row faults an entry that is not yet in SHORT (R6). -/
theorem Entry.faults_short {e : Entry} (third : e.reaches .shortBad = true)
    (status : (e.status = .unscanned ∨ e.status = .ok) ∨ e.status = .openFault) :
    e.faults .shortBad = some .shortFault := by
  unfold Entry.faults
  rw [if_pos third]
  rcases status with (h | h) | h <;> rw [h]

theorem Entry.faults_open_none {e : Entry} (h : ¬ e.reaches .openBad = true ∨ e.status = .openFault) :
    e.faults .openBad = none := by
  unfold Entry.faults
  split
  · next third =>
    rw [h.resolve_left (not_not_intro third)]
  · rfl

theorem Entry.faults_short_none {e : Entry} (h : ¬ e.reaches .shortBad = true ∨ e.status = .shortFault) :
    e.faults .shortBad = none := by
  unfold Entry.faults
  split
  · next third =>
    rw [h.resolve_left (not_not_intro third)]
  · rfl

/-- The channel's PROBE_FAULT after a sample: a good one returns it as the fault ends, a bad one raises it as a fault
begins (R5 to R7). -/
def Entry.probeFault (raw : Half) (now : Word) (e : Entry) (c : Slot) : Slot :=
  match classify raw with
  | .good => if e.admits && e.inFault then c.ret else c
  | .openBad => if (e.faults .openBad).isSome then c.raise now raw else c
  | .shortBad => if (e.faults .shortBad).isSome then c.raise now raw else c

/-- The dish after a sample notice of a channel (R9): channel 20 reaches the wash zone while RUNNING, channel 22 the
rinse zone while the valve is open. -/
def Dish.noticed (ch : Fin 23) (value : Int) (d : Dish) : Dish :=
  let wash (r : Rack) := if r.centreIn d.cfg.washStart d.cfg.washEnd then r.washed value else r
  let rinse (r : Rack) := if r.centreIn d.cfg.rinseStart d.cfg.rinseEnd then r.rinsed value else r
  if ch = 20 then (if d.state = .running then { d with queue := d.queue.map wash } else d)
  else if ch = 22 then (if d.valveOpen then { d with queue := d.queue.map rinse } else d)
  else d

/-- A sample notice changes the racks alone. -/
theorem Dish.noticed_eq (ch : Fin 23) (value : Int) (d : Dish) :
    d.noticed ch value = { d with queue := (d.noticed ch value).queue } := by
  unfold Dish.noticed
  dsimp only
  split
  · split <;> rfl
  · split
    · split <;> rfl
    · rfl

section Sample

variable (p : Part) (ch : Fin 23)

theorem Part.sampleNotice_dish (value : Int) : (p.sampleNotice ch value).dish = p.dish.noticed ch value := by
  unfold Part.sampleNotice Dish.noticed Part.washNotice Part.rinseNotice
  dsimp only
  split
  · split <;> simp
  · split
    · split <;> simp
    · rfl

@[simp] theorem Part.sampleNotice_scan (value : Int) : (p.sampleNotice ch value).scan = p.scan :=
  (Part.sampleNotice_works p [] ch value).moves.touches.scan rfl

@[simp] theorem Part.sampleNotice_conds (value : Int) : (p.sampleNotice ch value).desk.conds = p.desk.conds :=
  (Part.sampleNotice_works p [] ch value).moves.touches.conds rfl

/-- A sample writes its entry, by `Entry.sampled`. -/
theorem Part.sampleChannel_scan (raw : Half) : (p.sampleChannel ch raw).scan =
    { p.scan with entries := p.scan.entries.set ch ((p.scan.entries.get ch).sampled raw) } := by
  unfold Part.sampleChannel
  dsimp only
  split
  · split
    · split <;> simp
    · simp
  · split <;> simp
  · split <;> simp

/-- A sample writes its channel's PROBE_FAULT, by `Entry.probeFault`. -/
theorem Part.sampleChannel_slot (raw : Half) : (p.sampleChannel ch raw).desk.conds.get (probeSlot ch) =
    (p.scan.entries.get ch).probeFault raw p.uptime (p.desk.conds.get (probeSlot ch)) := by
  have raised (q : Desk) : (q.raise p.uptime (probeSlot ch) raw).conds.get (probeSlot ch) =
      (q.conds.get (probeSlot ch)).raise p.uptime raw := by
    rw [Desk.raise_slot _ _ _ _ (probeSlot_ne_unanswered ch), isEventKind_probeSlot]
    rfl
  unfold Part.sampleChannel Entry.probeFault
  dsimp only
  cases classify raw with
  | good =>
    by_cases admitted : (p.scan.entries.get ch).admits = true
    · by_cases faulted : (p.scan.entries.get ch).inFault = true <;> simp [admitted, faulted]
    · simp [admitted]
  | openBad => dsimp only; split <;> simp [raised]
  | shortBad => dsimp only; split <;> simp [raised]

/-- The sample notice is sent where a good sample updates the value (R9), and nothing else reaches the dish. -/
theorem Part.sampleChannel_dish (raw : Half) : (p.sampleChannel ch raw).dish =
    if classify raw = .good ∧ (p.scan.entries.get ch).admits then
      p.dish.noticed ch ((p.scan.entries.get ch).sampled raw).value
    else p.dish := by
  unfold Part.sampleChannel
  dsimp only
  cases classify raw with
  | good =>
    by_cases admitted : (p.scan.entries.get ch).admits = true
    · by_cases faulted : (p.scan.entries.get ch).inFault = true <;>
        simp [admitted, faulted, Part.sampleNotice_dish]
    · simp [admitted]
  | openBad => dsimp only; split <;> simp
  | shortBad => dsimp only; split <;> simp

end Sample

/-! ## The visit (R1) -/

/-- The scanner moved on to the next channel, with the channel of this visit selected (R1). -/
def Part.visited (p : Part) : Part :=
  { p with scan := { p.scan with next := nextChannel p.scan.next, select := p.scan.next } }

theorem Part.scanVisit_of_enabled {p : Part} (enabled : (p.scan.entries.get p.scan.next).enabled = true)
    (raw : Half) : p.scanVisit raw = p.visited.sampleChannel p.scan.next raw := by
  simp only [Part.scanVisit, enabled, if_true]
  rfl

theorem Part.scanVisit_of_disabled {p : Part} (disabled : (p.scan.entries.get p.scan.next).enabled = false)
    (raw : Half) : p.scanVisit raw = { p with scan := { p.scan with next := nextChannel p.scan.next } } := by
  simp [Part.scanVisit, disabled]

section Visit

variable {p : Part} (enabled : (p.scan.entries.get p.scan.next).enabled = true) (raw : Half)
include enabled

theorem Part.scanVisit_scan : (p.scanVisit raw).scan =
    { entries := p.scan.entries.set p.scan.next ((p.scan.entries.get p.scan.next).sampled raw)
      next := nextChannel p.scan.next, select := p.scan.next } := by
  rw [Part.scanVisit_of_enabled enabled, Part.sampleChannel_scan]
  rfl

theorem Part.scanVisit_slot : (p.scanVisit raw).desk.conds.get (probeSlot p.scan.next) =
    (p.scan.entries.get p.scan.next).probeFault raw p.uptime (p.desk.conds.get (probeSlot p.scan.next)) := by
  rw [Part.scanVisit_of_enabled enabled, Part.sampleChannel_slot]
  rfl

theorem Part.scanVisit_dish : (p.scanVisit raw).dish =
    if classify raw = .good ∧ (p.scan.entries.get p.scan.next).admits then
      p.dish.noticed p.scan.next ((p.scan.entries.get p.scan.next).sampled raw).value
    else p.dish := by
  rw [Part.scanVisit_of_enabled enabled, Part.sampleChannel_dish]
  rfl

end Visit

/-- A raw reading is good between the two thresholds (R2). -/
theorem classify_eq_good_iff (raw : Half) : classify raw = .good ↔ 256 ≤ raw.toNat ∧ raw.toNat < 65280 := by
  unfold classify
  split
  · simp; omega
  · split
    · simp; omega
    · simp; omega

/-- A good sample that updates the entry makes it OK at the converted temperature (R3, R5, R7). -/
theorem Entry.sampled_of_admits {raw : Half} {e : Entry} (good : classify raw = .good) (admitted : e.admits = true) :
    e.sampled raw = { e.counted .good with status := .ok, value := convert e.gain e.offset raw } := by
  simp [Entry.sampled, good, admitted]

/-- The dose of a sample is what R117 writes with an outer maximum. -/
theorem doseOf_eq (value : Int) : doseOf value = (max 0 (trunc (min value 900 - 710) 4)).toNat := by
  unfold doseOf
  omega

/-- A channel in OK reads its value (R8). -/
theorem Part.reading_of_ok {p : Part} {ch : Fin 23} (ok : (p.scan.entries.get ch).status = .ok) :
    p.reading ch = some (p.scan.entries.get ch).value := by
  simp [Part.reading, ok]

@[simp] theorem State.event_entry (s : State) (after : Part) (ch : Fin 23) :
    (s.event after).entry ch = after.scan.entries.get ch := rfl

@[simp] theorem State.event_slot (s : State) (after : Part) (i : Fin 87) :
    (s.event after).slot i = after.desk.conds.get i := rfl

/-- Settles O16: the entry, the PROBE_FAULT slot and the racks after a visit, each by its own rule of one sample. -/
theorem scanVisitAppliesItsSample : Obligations.ScanVisitAppliesItsSample := by
  refine ⟨⟨?sample, ?skipped⟩, ?racks⟩
  case sample =>
    rintro s raw ch rfl e isEntry kind isKind enabled
    have isEntry : s.part.scan.entries.get s.part.scan.next = e := isEntry
    have isKind : kind = classify raw := isKind
    subst isKind
    have on : (s.part.scan.entries.get s.part.scan.next).enabled = true := isEntry ▸ enabled
    have works := s.part.scanVisit_works raw
    have kept := works.event_kept
    have scan := Part.scanVisit_scan on raw
    have slot := Part.scanVisit_slot on raw
    have dish := Part.scanVisit_dish on raw
    rw [isEntry] at scan slot dish
    have only := Dish.noticed_eq s.part.scan.next (e.sampled raw).value s.dish
    have elsewhere (h20 : s.part.scan.next ≠ 20) (h22 : s.part.scan.next ≠ 22) (value : Int) :
        s.dish.noticed s.part.scan.next value = s.dish := by simp [Dish.noticed, h20, h22]
    refine ⟨_, rfl, works.happened, ?_, ?_, fun m other => ?_, fun i other answered => ?_, ?_, fun h20 h22 => ?_, ?_⟩
    · rw [State.event_scan, scan]; rfl
    · rw [State.event_scan, scan]
    · rw [State.event_entry, scan, Table.get_set_ne _ _ other]
    · exact kept.slots i (by simpa using other) answered
    · change (s.part.scanVisit raw).dish = { s.dish with queue := (s.part.scanVisit raw).dish.queue }
      rw [dish]
      split
      · exact only
      · rfl
    · change (s.part.scanVisit raw).dish = s.dish
      rw [dish]
      split
      · exact elsewhere h20 h22 _
      · rfl
    · intro reaches counted temperature waiting faulted
      rw [State.event_entry, State.event_slot, scan, slot, Table.get_set_self]
      have admits := e.admits_iff
      refine ⟨fun good ok => ?_, fun good bad third => ?_, fun good bad short => ?_, fun bad third other => ?_,
        fun bad third other => ?_, fun bad still => ?_, fun bad still => ?_⟩
      · have admitted : e.admits = true := admits.mpr (by tauto)
        have sound : e.inFault = false := by rcases ok with h | h <;> simp [Entry.inFault, h]
        simp [Entry.sampled, Entry.probeFault, Entry.counted, good, admitted, sound, counted, temperature, convert]
      · have third : e.runKind = some .good ∧ e.runLen = 2 := good ▸ third
        have admitted : e.admits = true := admits.mpr (by tauto)
        have faulted : e.inFault = true := by rcases bad with h | h <;> simp [Entry.inFault, h]
        simp [Entry.sampled, Entry.probeFault, Entry.counted, good, admitted, faulted, counted, temperature, convert]
      · have short : ¬ (e.runKind = some .good ∧ e.runLen = 2) := good ▸ short
        have refused : e.admits = false := by
          rw [Bool.eq_false_iff, Ne, admits]
          rcases bad with h | h <;> simp [h, short]
        simp [Entry.sampled, Entry.probeFault, Entry.counted, good, refused, counted]
      · have faults := Entry.faults_open ((e.reaches_iff _).mpr (bad ▸ third)) other
        simp [Entry.sampled, Entry.probeFault, Entry.counted, bad, faults, counted]
      · have faults := Entry.faults_short ((e.reaches_iff _).mpr (bad ▸ third)) other
        simp [Entry.sampled, Entry.probeFault, Entry.counted, bad, faults, counted]
      · have faults := Entry.faults_open_none (still.imp_left fun h => bad ▸ mt (e.reaches_iff _).mp h)
        simp [Entry.sampled, Entry.probeFault, Entry.counted, bad, faults, counted]
      · have faults := Entry.faults_short_none (still.imp_left fun h => bad ▸ mt (e.reaches_iff _).mp h)
        simp [Entry.sampled, Entry.probeFault, Entry.counted, bad, faults, counted]
  case skipped =>
    intro s raw disabled
    simp only [exec, execScanVisit, Part.scanVisit_of_disabled disabled]
  case racks =>
    intro s raw d e good third updates value inZone lowest wash added rinse enabled
    have scan := Part.scanVisit_scan enabled raw
    have dish : (s.part.scanVisit raw).dish =
        if classify raw = .good ∧ e.admits then d.noticed s.part.scan.next (e.sampled raw).value else d :=
      Part.scanVisit_dish enabled raw
    have updates_iff : updates ↔ classify raw = .good ∧ e.admits = true := by
      rw [classify_eq_good_iff, e.admits_iff]
    refine ⟨_, rfl, fun still => ?_, fun updated => ?_⟩
    · exact dish.trans (if_neg (mt updates_iff.mpr still))
    · obtain ⟨isGood, admitted⟩ := updates_iff.mp updated
      have sampled := Entry.sampled_of_admits isGood admitted
      have notice : (s.part.scanVisit raw).dish = d.noticed s.part.scan.next value := by
        rw [dish, if_pos ⟨isGood, admitted⟩, sampled]
        rfl
      have rinsed : added = doseOf value := (doseOf_eq value).symm
      refine ⟨?_, fun h20 running => ?_, fun h20 stopped => ?_, fun h22 isOpen => ?_, fun h22 closed => ?_⟩
      · have entry : (s.event (s.part.scanVisit raw)).part.scan.entries.get s.part.scan.next = e.sampled raw := by
          rw [State.event_scan, scan, Table.get_set_self]
        have value_eq : (e.sampled raw).value = value := by
          rw [sampled]
          rfl
        rw [← value_eq, ← entry]
        exact Part.reading_of_ok (by rw [entry, sampled])
      · refine notice.trans ?_
        rw [h20, Dish.noticed, if_pos rfl, if_pos running]
        rfl
      · refine notice.trans ?_
        rw [h20, Dish.noticed, if_pos rfl, if_neg stopped]
      · refine notice.trans ?_
        rw [h22, Dish.noticed, if_neg (by decide), if_pos rfl, if_pos isOpen]
        simp only [rinse, rinsed]
        rfl
      · refine notice.trans ?_
        rw [h22, Dish.noticed, if_neg (by decide), if_pos rfl, if_neg (by simp [closed])]

end Sys2Proof.Machine
end

section
/-!
What a command reports: every operation of the blocks leaves a record whose shown fields it changed in the change set,
takes no mark away, and leaves the receive buffers alone. One rule per operation, each read off the operations that it is
made of.
-/

namespace Sys2Proof.Machine

/-! ## Marks of a record replaced -/

/-- A record of a table replaced and marked where its shown fields change: every index whose shown fields differ is
marked. -/
theorem mem_changeSet_of_set {α β : Type} [DecidableEq β] {k : Nat} (t : Table α k) (n : Fin k) (a : α) (shown : α → β)
    (c : MarkClass) {before after : Link}
    (link : after = if shown a = shown (t.get n) then before else before.mark c n.val) (m : Fin k)
    (differs : shown ((t.set n a).get m) ≠ shown (t.get m)) : Mark.mk c m.val ∈ after.changeSet := by
  rw [Table.get_set] at differs
  split at differs
  · next same =>
    subst same
    rw [link, if_neg differs]
    exact before.mem_mark_changeSet c _
  · exact absurd rfl differs

/-- A field changed over two spans was changed, and so marked, in one of them. -/
theorem mem_changeSet_trans {α : Type} {x y z : α} {m : Mark} {early late : List Mark} (first : y ≠ x → m ∈ early)
    (second : z ≠ y → m ∈ late) (kept : early ⊆ late) (differs : z ≠ x) : m ∈ late := by
  by_cases same : z = y
  · exact kept (first (same ▸ differs))
  · exact second same

/-- The same of two fields that one mark reports. -/
theorem mem_changeSet_trans₂ {α β : Type} {x y z : α} {x' y' z' : β} {m : Mark} {early late : List Mark}
    (first : y ≠ x ∨ y' ≠ x' → m ∈ early) (second : z ≠ y ∨ z' ≠ y' → m ∈ late) (kept : early ⊆ late)
    (differs : z ≠ x ∨ z' ≠ x') : m ∈ late :=
  differs.elim
    (mem_changeSet_trans (fun h => first (Or.inl h)) (fun h => second (Or.inl h)) kept)
    (mem_changeSet_trans (fun h => first (Or.inr h)) (fun h => second (Or.inr h)) kept)

/-! ## The desk -/

/-- Work of the desk that reports what it changes (R154, R173). -/
structure DeskReports (c d : Desk) : Prop where
  condition : ∀ i, d.conds.get i ≠ c.conds.get i → ⟨.condition, i.val⟩ ∈ d.link.changeSet
  outcomes : d.pager.outcomes ≠ c.pager.outcomes → ⟨.outcomes, 0⟩ ∈ d.link.changeSet
  kept : c.link.changeSet ⊆ d.link.changeSet
  buffers : d.link.buffers = c.link.buffers

namespace DeskReports

theorem refl (d : Desk) : DeskReports d d :=
  ⟨fun _ h => absurd rfl h, fun h => absurd rfl h, fun _ h => h, rfl⟩

theorem trans {c d e : Desk} (h : DeskReports c d) (k : DeskReports d e) : DeskReports c e :=
  ⟨fun i => mem_changeSet_trans (h.condition i) (k.condition i) k.kept,
    mem_changeSet_trans h.outcomes k.outcomes k.kept, fun _ hm => k.kept (h.kept hm), k.buffers.trans h.buffers⟩

/-- Whichever of two ways is taken, it reports. -/
theorem either {q : Prop} [Decidable q] {c d e : Desk} (hd : DeskReports c d) (he : DeskReports c e) :
    DeskReports c (if q then d else e) := by
  split
  · exact hd
  · exact he

section Operations

variable {c d : Desk} (h : DeskReports c d) {now : Word}
include h

/-- Work on the pager controller that leaves the outcome list alone. -/
theorem onPager {f : Pager → Pager} (same : (f d.pager).outcomes = d.pager.outcomes := by rfl) :
    DeskReports c (d.onPager f) :=
  h.trans ⟨fun _ e => absurd rfl e, fun e => absurd same e, fun _ hm => hm, rfl⟩

theorem mark {k : MarkClass} {i : Nat} : DeskReports c (d.mark k i) :=
  h.trans ⟨fun _ e => absurd rfl e, fun e => absurd rfl e, d.link.changeSet_subset_mark k i, d.link.mark_buffers k i⟩

theorem setSlot {slot : Fin 87} {s : Slot} : DeskReports c (d.setSlot slot s) := by
  refine h.trans ⟨fun i differs => ?_, fun e => absurd (by simp) e, ?_, ?_⟩
  · exact mem_changeSet_of_set d.conds slot s id .condition (d.setSlot_link slot s) i (by simpa using differs)
  · rw [Desk.setSlot_link]
    split
    · exact fun _ hm => hm
    · exact d.link.changeSet_subset_mark _ _
  · rw [Desk.setSlot_link]
    split
    · rfl
    · exact d.link.mark_buffers _ _

/-- A record made is marked (R173). -/
theorem record {r : OutcomeRecord} : DeskReports c (d.record r) :=
  h.trans ⟨fun _ e => absurd rfl e, fun _ => d.link.mem_mark_changeSet _ _, d.link.changeSet_subset_mark _ _,
    d.link.mark_buffers _ _⟩

theorem updatePage {id : Half} {f : Page → Page} : DeskReports c (d.updatePage id f) := h.onPager

theorem setPort {port : Port} : DeskReports c (d.setPort port) := h.onPager

theorem ret {slot : Fin 87} : DeskReports c (d.ret slot) := h.setSlot

theorem createPage {source : Source} {group : Fin 8} {priority : Fin 4} {code : Byte} {param : Half} :
    DeskReports c (d.createPage now source group priority code param) := by
  unfold Desk.createPage
  dsimp only
  split
  · exact h.onPager.onPager
  · split
    · exact either h.onPager.onPager.record h.onPager.record
    · exact h.onPager.record

theorem createRouted {source : Source} {param : Half} : DeskReports c (d.createRouted now source param) := by
  unfold Desk.createRouted
  split
  · exact h
  · exact either h.createPage h

theorem triggerCore {source : Source} {param : Half} : DeskReports c (d.triggerCore now source param) := by
  unfold Desk.triggerCore
  split
  · exact h
  · split
    · split
      · exact h.updatePage
      · exact h.createRouted
    · exact h

theorem raiseCore {slot : Fin 87} {param : Half} : DeskReports c (d.raiseCore now slot param) :=
  either h.setSlot.triggerCore h.setSlot

theorem finish {page : Page} {outcome : PageOutcome} {pager : Option (Fin 64)} :
    DeskReports c (d.finish now page outcome pager) := by
  unfold Desk.finish
  dsimp only
  split
  · exact h.record.onPager
  · exact h.record.onPager.createRouted

theorem releaseTarget {page : Page} : DeskReports c (d.releaseTarget page) := by
  unfold Desk.releaseTarget
  split
  · exact h.onPager
  · exact h

theorem endUnanswered {page : Page} {outcome : PageOutcome} : DeskReports c (d.endUnanswered now page outcome) :=
  either h.finish h.finish.raiseCore

theorem escalateOrEnd {page : Page} {outcome : PageOutcome} : DeskReports c (d.escalateOrEnd now page outcome) := by
  unfold Desk.escalateOrEnd
  split
  · exact h.updatePage
  · exact h.endUnanswered

theorem endAttempt {page : Page} {declined : Bool} : DeskReports c (d.endAttempt now page declined) :=
  either h.releaseTarget.updatePage h.releaseTarget.escalateOrEnd

theorem transmit {page : Page} {address : Nat} {group : Byte} : DeskReports c (d.transmit page address group) := by
  unfold Desk.transmit
  exact h.onPager

theorem send? {page : Page} {sent : Desk} (isSent : d.send? page = some sent) : DeskReports c sent := by
  unfold Desk.send? at isSent
  split at isSent
  · split at isSent
    · cases isSent
    · cases isSent
      exact h.transmit
  · split at isSent
    · cases isSent
    · cases isSent
      exact h.onPager.transmit

omit h in
theorem arbitrate {d : Desk} (h : DeskReports c d) (fuel : Nat) : DeskReports c (Machine.arbitrate now fuel d) := by
  induction fuel generalizing d with
  | zero => exact h
  | succ fuel ih =>
    unfold Machine.arbitrate
    split
    · split
      · exact h
      · split
        · next isSent => exact h.send? isSent
        · exact ih h.escalateOrEnd
    all_goals exact h

theorem arbiter : DeskReports c (d.arbiter now) := h.arbitrate 300

theorem trigger {source : Source} {param : Half} : DeskReports c (d.trigger now source param) := h.triggerCore.arbiter

theorem raise {slot : Fin 87} {param : Half} : DeskReports c (d.raise now slot param) := h.raiseCore.arbiter

theorem cancelPage {page : Page} : DeskReports c (d.cancelPage now page) := by
  unfold Desk.cancelPage
  split
  · exact h.releaseTarget.finish
  · exact h.releaseTarget.finish
  · exact h.updatePage

theorem cancelNotice {source : Source} : DeskReports c (d.cancelNotice now source) := by
  unfold Desk.cancelNotice
  split
  · exact h
  · exact h.updatePage.cancelPage.arbiter

/-! ### The radio port -/

theorem awaitAnswer {page : Page} : DeskReports c (d.awaitAnswer now page) := by
  unfold Desk.awaitAnswer
  dsimp only
  split
  · exact h.updatePage.onPager
  · exact h.updatePage

theorem settleSent {page : Page} : DeskReports c (d.settleSent now page) :=
  either h.finish (either h.endAttempt h.awaitAnswer)

theorem settleUnsent {page : Page} : DeskReports c (d.settleUnsent now page) :=
  either h.finish (either h.endAttempt h.updatePage)

theorem settle {id : Half} {f : Page → Desk → Desk} (each : ∀ page, DeskReports c (f page d)) :
    DeskReports c (d.settle id f) := by
  unfold Desk.settle
  split
  · exact each _
  · exact h

theorem radioUp {frame : Desk → Desk} (each : ∀ e, DeskReports c e → DeskReports c (frame e)) :
    DeskReports c (d.radioUp now frame) := (each _ h.setPort).ret.arbiter

theorem accepted {tag : Byte} {id : Half} : DeskReports c (d.accepted now tag id) := by
  unfold Desk.accepted
  split
  · exact either (h.setPort.settle fun _ => h.setPort.settleSent).arbiter h
  · exact h.radioUp fun _ k => k
  all_goals exact h

theorem backoff {tag : Byte} {id : Half} : DeskReports c (d.backoff now tag id) := by
  unfold Desk.backoff
  split
  · exact either (h.setPort.settle fun _ => h.setPort.settleUnsent) h
  · exact h.radioUp fun _ k => k
  all_goals exact h

theorem backoffEnd : DeskReports c (d.backoffEnd now) := by
  unfold Desk.backoffEnd
  split
  · exact h.setPort.arbiter
  all_goals exact h

theorem firstSilence {id : Half} {tag : Byte} : DeskReports c (d.firstSilence now id tag) := by
  unfold Desk.firstSilence
  split
  · exact h.setPort
  · exact h.setPort.arbiter

theorem secondSilence {id : Half} : DeskReports c (d.secondSilence now id) :=
  h.setPort.raise.settle fun _ => h.setPort.raise.settleUnsent

theorem silence : DeskReports c (d.silence now) := by
  unfold Desk.silence
  split
  · exact h.firstSilence
  · exact h.secondSilence
  all_goals exact h

theorem sendStatus : DeskReports c d.sendStatus := by
  unfold Desk.sendStatus
  split
  · exact h.onPager
  all_goals exact h

theorem statusReply : DeskReports c (d.statusReply now) := by
  unfold Desk.statusReply
  split
  · exact h.radioUp fun _ k => k
  all_goals exact h

theorem acceptPage {page : Page} {e : Fin 64} : DeskReports c (d.acceptPage now page e) := by
  unfold Desk.acceptPage
  split
  · exact h.releaseTarget.finish
  · exact h.releaseTarget.finish
  · exact either h h.finish

theorem takeAccept {address id : Half} : DeskReports c (d.takeAccept now address id) := by
  unfold Desk.takeAccept
  split
  · exact either h.acceptPage h
  · exact h
  · exact h.record

theorem declinePage {page : Page} : DeskReports c (d.declinePage now page) := by
  unfold Desk.declinePage
  split
  · exact h.endAttempt
  · exact h.updatePage
  · exact h

theorem takeDecline {address id : Half} : DeskReports c (d.takeDecline now address id) := by
  unfold Desk.takeDecline
  split
  · exact either h.declinePage h
  · exact h

theorem answerFrame {take : Desk → Desk} (each : ∀ e, DeskReports c e → DeskReports c (take e)) :
    DeskReports c (d.answerFrame now take) := by
  unfold Desk.answerFrame
  split
  · exact h.radioUp each
  all_goals exact (each d h).arbiter

theorem pageDeadline {id : Half} : DeskReports c (d.pageDeadline now id) := by
  unfold Desk.pageDeadline
  split
  · exact h
  · split
    · exact either h.endAttempt.arbiter h
    · exact h

/-- A frame from the base station (R195). -/
theorem stationFrame {f : Frame} : DeskReports c (d.stationFrame now f) := by
  unfold Desk.stationFrame
  split
  · split
    · exact h.accepted
    · exact h
  · split
    · split
      · exact h.backoff
      · exact h
    · split
      · split
        · exact h.statusReply
        · exact h
      · split
        · split
          · exact h.answerFrame fun _ k => either k.takeAccept (either k.takeDecline k)
          · exact h
        · exact h

theorem pagerByte {late : Bool} {byte : Byte} : DeskReports c (d.pagerByte now late byte) := by
  unfold Desk.pagerByte
  dsimp only
  split
  · exact h.onPager.stationFrame
  · exact h.onPager

theorem restartConditions : DeskReports c d.restartConditions := by
  suffices ∀ slots : List (Fin 87), ∀ e, DeskReports c e → DeskReports c (slots.foldl (fun e i => e.setSlot i {}) e) from
    this _ d h
  intro slots
  induction slots with
  | nil => exact fun _ k => k
  | cons i rest ih => exact fun e k => ih _ k.setSlot

end Operations

end DeskReports

end Sys2Proof.Machine
end

section
/-!
Work of the part that reports what it changes: the relation, and the records that every block writes through.
-/

namespace Sys2Proof.Machine

/-! ## The part -/

/-- Work of the part that reports what it changes. -/
structure Reports (b p : Part) : Prop where
  reported : Reported b p
  kept : b.desk.link.changeSet ⊆ p.desk.link.changeSet
  buffers : p.desk.link.buffers = b.desk.link.buffers

/-- Of the records, those not spoken of show what they showed. -/
theorem Reported.of {p q : Part}
    (channel : ∀ ch, (q.scan.entries.get ch).value ≠ (p.scan.entries.get ch).value ∨
      (q.scan.entries.get ch).status ≠ (p.scan.entries.get ch).status →
        ⟨.channel, ch.val⟩ ∈ q.desk.link.changeSet := by simp)
    (loop : ∀ n, (q.loops.get n).shown ≠ (p.loops.get n).shown →
      ⟨.loop, n.val⟩ ∈ q.desk.link.changeSet := by simp)
    (heater : ∀ n, (q.feeder.heaters.get n).shown ≠ (p.feeder.heaters.get n).shown →
      ⟨.heater, n.val⟩ ∈ q.desk.link.changeSet := by simp)
    (oven : ∀ n, (q.ovens.get n).shown ≠ (p.ovens.get n).shown →
      ⟨.oven, n.val⟩ ∈ q.desk.link.changeSet := by simp)
    (program : ∀ n, q.programs.get n ≠ p.programs.get n → ⟨.program, n.val⟩ ∈ q.desk.link.changeSet := by simp)
    (cabinet : ∀ n, (q.cabinets.get n).shown ≠ (p.cabinets.get n).shown →
      ⟨.cabinet, n.val⟩ ∈ q.desk.link.changeSet := by simp)
    (stock : ∀ kind, q.stock.get kind ≠ p.stock.get kind → ⟨.stock, kind.val⟩ ∈ q.desk.link.changeSet := by simp)
    (dish : q.dish.shown ≠ p.dish.shown → ⟨.dish, 0⟩ ∈ q.desk.link.changeSet := by simp)
    (ring : q.dish.ring ≠ p.dish.ring ∨ q.dish.overwrites ≠ p.dish.overwrites →
      ⟨.ring, 0⟩ ∈ q.desk.link.changeSet := by simp)
    (wave : ∀ w, (q.waves.get w).map Wave.shown ≠ (p.waves.get w).map Wave.shown →
      ⟨.wave, w.val⟩ ∈ q.desk.link.changeSet := by simp)
    (condition : ∀ i, q.desk.conds.get i ≠ p.desk.conds.get i →
      ⟨.condition, i.val⟩ ∈ q.desk.link.changeSet := by simp)
    (outcomes : q.desk.pager.outcomes ≠ p.desk.pager.outcomes →
      ⟨.outcomes, 0⟩ ∈ q.desk.link.changeSet := by simp) : Reported p q :=
  ⟨channel, loop, heater, oven, program, cabinet, stock, dish, ring, wave, condition, outcomes⟩

theorem Reported.trans {p q r : Part} (h : Reported p q) (k : Reported q r)
    (kept : q.desk.link.changeSet ⊆ r.desk.link.changeSet) : Reported p r where
  channel ch := mem_changeSet_trans₂ (h.channel ch) (k.channel ch) kept
  loop n := mem_changeSet_trans (h.loop n) (k.loop n) kept
  heater n := mem_changeSet_trans (h.heater n) (k.heater n) kept
  oven n := mem_changeSet_trans (h.oven n) (k.oven n) kept
  program n := mem_changeSet_trans (h.program n) (k.program n) kept
  cabinet n := mem_changeSet_trans (h.cabinet n) (k.cabinet n) kept
  stock kind := mem_changeSet_trans (h.stock kind) (k.stock kind) kept
  dish := mem_changeSet_trans h.dish k.dish kept
  ring := mem_changeSet_trans₂ h.ring k.ring kept
  wave w := mem_changeSet_trans (h.wave w) (k.wave w) kept
  condition i := mem_changeSet_trans (h.condition i) (k.condition i) kept
  outcomes := mem_changeSet_trans h.outcomes k.outcomes kept

/-- Work leaves the receive buffers alone. -/
theorem Works.buffers {f : Footprint} {own : List (Fin 87)} {p q : Part} (h : Works f own p q) :
    q.desk.link.buffers = p.desk.link.buffers := by
  obtain ⟨marks, -, link⟩ := h.moves.marks
  obtain ⟨-, buffers, -⟩ := Link.withMarks_rest marks p.desk.link
  rw [link, buffers]

namespace Reports

theorem refl (p : Part) : Reports p p := ⟨Reported.of, fun _ h => h, rfl⟩

theorem trans {p q r : Part} (h : Reports p q) (k : Reports q r) : Reports p r :=
  ⟨h.reported.trans k.reported k.kept, fun _ hm => k.kept (h.kept hm), k.buffers.trans h.buffers⟩

/-- Work within a footprint that reports what it changes. -/
theorem ofWorks {f : Footprint} {own : List (Fin 87)} {p q : Part} (works : Works f own p q)
    (reported : Reported p q) : Reports p q := ⟨reported, works.changeSet_subset, works.buffers⟩

/-- Whichever of two ways is taken, it reports. -/
theorem either {c : Prop} [Decidable c] {b p q : Part} (hp : Reports b p) (hq : Reports b q) :
    Reports b (if c then p else q) := by
  split
  · exact hp
  · exact hq

section Records

variable {b p : Part} (h : Reports b p)
include h

/-! ### Records replaced -/

/-- Work of the desk. -/
theorem desk {e : Desk} (k : DeskReports p.desk e) : Reports b { p with desk := e } :=
  h.trans ⟨Reported.of (condition := k.condition) (outcomes := k.outcomes), k.kept, k.buffers⟩

theorem mark {c : MarkClass} {i : Nat} : Reports b (p.mark c i) := h.desk (DeskReports.refl _).mark

theorem raise {slot : Fin 87} {param : Half} : Reports b (p.raise slot param) := h.desk (DeskReports.refl _).raise

theorem ret {slot : Fin 87} : Reports b (p.ret slot) := h.desk (DeskReports.refl _).ret

theorem trigger {source : Source} {param : Half} : Reports b (p.trigger source param) :=
  h.desk (DeskReports.refl _).trigger

theorem cancelNotice {source : Source} : Reports b (p.cancelNotice source) :=
  h.desk (DeskReports.refl _).cancelNotice

theorem onDesk {f : Word → Desk → Desk} (each : ∀ now d, DeskReports d (f now d)) : Reports b (p.onDesk f) :=
  h.desk (each _ _)

theorem onPager {f : Pager → Pager} (same : (f p.desk.pager).outcomes = p.desk.pager.outcomes := by rfl) :
    Reports b (p.onPager f) := h.desk ((DeskReports.refl _).onPager same)

/-- The feeder's own record, the heaters apart. -/
theorem feeder {f : Feeder} (same : f.heaters = p.feeder.heaters := by rfl) : Reports b { p with feeder := f } :=
  h.trans ⟨Reported.of (heater := by simp [same]), fun _ hm => hm, rfl⟩

/-- The uptime, the interlock unit's record and the scanner's place show in no record of the change set. -/
theorem uptime {t : Word} : Reports b { p with uptime := t } :=
  h.trans ⟨Reported.of, fun _ hm => hm, rfl⟩

theorem interlock {u : Interlock} : Reports b { p with interlock := u } :=
  h.trans ⟨Reported.of, fun _ hm => hm, rfl⟩

theorem scanPlace {s : Scanner} (same : s.entries = p.scan.entries := by rfl) : Reports b { p with scan := s } :=
  h.trans ⟨Reported.of (channel := by simp [same]), fun _ hm => hm, rfl⟩

/-- An entry replaced by one that shows the same. -/
theorem putEntry {ch : Fin 23} {e : Entry} (value : e.value = (p.scan.entries.get ch).value)
    (status : e.status = (p.scan.entries.get ch).status) : Reports b (p.putEntry ch e) := by
  refine h.trans (ofWorks (Part.putEntry_works p [] ch e) (Reported.of (channel := fun m differs => ?_)))
  rw [Part.putEntry_entries, Table.get_set] at differs
  split at differs
  · next same =>
    subst same
    simp [value, status] at differs
  · simp at differs

/-- An entry replaced and marked. -/
theorem putEntry_mark {ch : Fin 23} {e : Entry} : Reports b ((p.putEntry ch e).mark .channel ch.val) := by
  refine h.trans (ofWorks ((Part.putEntry_works p [] ch e).trans (Works.mark [] _ .channel ch.val rfl))
    (Reported.of (channel := fun m differs => ?_)))
  by_cases same : m = ch
  · subst same
    exact Link.mem_mark_changeSet _ _ _
  · simp [Table.get_set_ne _ _ same] at differs

theorem setEntry {ch : Fin 23} {e : Entry} : Reports b (p.setEntry ch e) := by
  unfold Part.setEntry
  dsimp only
  split
  · next same => exact h.putEntry same.1 same.2
  · exact h.putEntry_mark

theorem setLoop {n : Fin 16} {l : Loop} : Reports b (p.setLoop n l) :=
  h.trans (ofWorks (Part.setLoop_works p [] n l) (Reported.of (loop := fun m differs =>
    mem_changeSet_of_set p.loops n l Loop.shown .loop (p.setLoop_link n l) m (by simpa using differs))))

theorem setHeater {n : Fin 16} {a : Heater} : Reports b (p.setHeater n a) :=
  h.trans (ofWorks (Part.setHeater_works p [] n a) (Reported.of (heater := fun m differs =>
    mem_changeSet_of_set p.feeder.heaters n a Heater.shown .heater (p.setHeater_link n a) m (by simpa using differs))))

theorem setOven {n : Fin 6} {o : Oven} : Reports b (p.setOven n o) :=
  h.trans (ofWorks (Part.setOven_works p [] n o) (Reported.of (oven := fun m differs =>
    mem_changeSet_of_set p.ovens n o Oven.shown .oven (p.setOven_link n o) m (by simpa using differs))))

theorem setCabinet {n : Fin 8} {c : Cabinet} : Reports b (p.setCabinet n c) :=
  h.trans (ofWorks (Part.setCabinet_works p [] n c) (Reported.of (cabinet := fun m differs =>
    mem_changeSet_of_set p.cabinets n c Cabinet.shown .cabinet (p.setCabinet_link n c) m (by simpa using differs))))

theorem setStock {kind : Fin 4} {s : Stock} : Reports b (p.setStock kind s) :=
  h.trans (ofWorks (Part.setStock_works p [] kind s) (Reported.of (stock := fun m differs =>
    mem_changeSet_of_set p.stock kind s id .stock (p.setStock_link kind s) m (by simpa using differs))))

theorem setWave {w : Fin 12} {v : Option Wave} : Reports b (p.setWave w v) :=
  h.trans (ofWorks (Part.setWave_works p [] w v) (Reported.of (wave := fun m differs =>
    mem_changeSet_of_set p.waves w v (Option.map Wave.shown) .wave (p.setWave_link w v) m (by simpa using differs))))

theorem setDish {d : Dish} : Reports b (p.setDish d) := by
  refine h.trans (ofWorks (Part.setDish_works p [] d) (Reported.of (dish := fun differs => ?_)
    (ring := fun differs => ?_)))
  · rw [Part.setDish_dish] at differs
    unfold Part.setDish
    dsimp only
    rw [if_neg differs]
    split
    · exact Link.mem_mark_changeSet _ _ _
    · exact Link.changeSet_subset_mark _ _ _ (Link.mem_mark_changeSet _ _ _)
  · rw [Part.setDish_dish] at differs
    unfold Part.setDish
    dsimp only
    rw [if_neg (fun same => by simp [same] at differs)]
    exact Link.mem_mark_changeSet _ _ _

theorem setLine {line : Line} {l : LineState} : Reports b (p.setLine line l) := h.interlock

/-- A program stored and marked (R78). -/
theorem storeProgram {n : Fin 16} {g : Program} :
    Reports b (({ p with programs := p.programs.set n g } : Part).mark .program n.val) := by
  refine h.trans ⟨Reported.of (program := fun m differs => ?_), Link.changeSet_subset_mark _ _ _,
    Link.mark_buffers _ _ _⟩
  by_cases same : m = n
  · subst same
    exact Link.mem_mark_changeSet _ _ _
  · simp [Table.get_set_ne _ _ same] at differs

/-! ### Work done in turn -/

omit h in
theorem foldl {α : Type} {act : Part → α → Part} {p : Part} (h : Reports b p)
    (each : ∀ q a, Reports b q → Reports b (act q a)) (items : List α) : Reports b (items.foldl act p) := by
  induction items generalizing p with
  | nil => exact h
  | cons a rest ih => exact ih (each p a h)

theorem eachHeater {act : Fin 16 → Part → Part} (each : ∀ n q, Reports b q → Reports b (act n q)) :
    Reports b (p.eachHeater act) := h.foldl (fun q n => each n q) _

theorem eachSlot {act : Fin 12 → Part → Part} (each : ∀ w q, Reports b q → Reports b (act w q)) :
    Reports b (p.eachSlot act) := h.foldl (fun q w => each w q) _

theorem onWave {w : Fin 12} {act : Wave → Part → Part} (each : ∀ v, Reports b (act v p)) :
    Reports b (p.onWave w act) := by
  unfold Part.onWave
  split
  · exact each _
  · exact h

end Records

end Reports

end Sys2Proof.Machine
end

section
/-!
Each block's operations report what they change, one rule per operation, in the order of the chapters.
-/

namespace Sys2Proof.Machine.Reports

section Blocks

variable {b p : Part} (h : Reports b p)
include h

/-! ### Loops -/

theorem loopCycle {n : Fin 16} : Reports b (p.loopCycle n) := by
  unfold Part.loopCycle
  dsimp only
  split
  · split
    · exact h.setLoop.raise
    · exact h.setLoop
  · exact either h.setLoop.ret h.setLoop

theorem requestSetpoint {n : Fin 16} {sp : Int} : Reports b (p.requestSetpoint n sp) := h.setLoop

theorem ownerOff {n : Fin 16} : Reports b (p.ownerOff n) := h.setLoop

theorem ownerAuto {n : Fin 16} : Reports b (p.ownerAuto n) := by
  unfold Part.ownerAuto
  dsimp only
  split
  · exact h
  · exact h
  · split
    · split
      · exact h.setLoop.loopCycle
      · exact h.setLoop.loopCycle
    all_goals exact h.setLoop

theorem inhibitLoop {n : Fin 16} : Reports b (p.inhibitLoop n) := either h h.setLoop

theorem releaseLoop {n : Fin 16} : Reports b (p.releaseLoop n) := by
  unfold Part.releaseLoop
  dsimp only
  split
  · exact h
  · split
    · exact h.setLoop.loopCycle
    all_goals exact h.setLoop

omit h in
/-- Marks of one class set for a list of records. -/
theorem foldl_mark_link (c : MarkClass) (items : List (Fin 16)) (p : Part) :
    (items.foldl (fun q n => q.mark c n.val) p).desk.link =
      p.desk.link.withMarks (items.map fun n => ⟨c, n.val⟩) := by
  induction items generalizing p with
  | nil => rfl
  | cons first rest ih => exact ih (p.mark c first.val)

omit h in
/-- Marks do not look at the loops. -/
theorem foldl_mark_loops (c : MarkClass) (items : List (Fin 16)) (loops : Table Loop 16) (p : Part) :
    items.foldl (fun q n => q.mark c n.val) { p with loops } =
      { items.foldl (fun q n => q.mark c n.val) p with loops } := by
  induction items generalizing p with
  | nil => rfl
  | cons first rest ih => exact ih (p.mark c first.val)

/-- Loops replaced where those whose shown fields change are marked already. -/
theorem loops {t : Table Loop 16}
    (marked : ∀ n, (t.get n).shown ≠ (p.loops.get n).shown → ⟨.loop, n.val⟩ ∈ p.desk.link.changeSet) :
    Reports b { p with loops := t } :=
  h.trans ⟨Reported.of (loop := marked), fun _ hm => hm, rfl⟩

/-- A restart marks every loop (R42). -/
theorem restartLoops : Reports b p.restartLoops := by
  rw [Part.restartLoops, foldl_mark_loops]
  refine (h.foldl (fun _ _ k => k.mark) _).loops fun n _ => ?_
  rw [foldl_mark_link]
  exact Link.mem_withMarks _ _ _ (List.mem_map.mpr ⟨n, List.mem_finRange n, rfl⟩)

/-! ### The feeder allocator -/

theorem classNotice {n : Fin 16} {c : HeaterClass} : Reports b (p.classNotice n c) := h.setHeater

theorem valveNotice {isOpen : Bool} : Reports b (p.valveNotice isOpen) := h.setHeater

theorem judgeReducedAck : Reports b p.judgeReducedAck := h.feeder

theorem reduceChange : Reports b p.reduceChange := (h.feeder (f := { p.feeder with requested := _ })).judgeReducedAck

theorem totals {granted delivered : Nat} :
    Reports b { p with feeder := { p.feeder with grantedTotal := granted, deliveredTotal := delivered } } := h.feeder

theorem windowBegun : Reports b { p with feeder := { p.feeder.withTotals with nextStep := 0 } } := h.feeder

theorem notPending : Reports b { p with feeder := { p.feeder with pending := false } } := h.feeder

theorem cutGrants : Reports b p.cutGrants := by
  have cut : Reports b (p.eachHeater fun n q => q.setHeater n (q.feeder.heaters.get n).cut) :=
    h.eachHeater fun _ _ k => k.setHeater
  exact cut.totals

theorem storeGrants : Reports b p.storeGrants := by
  have stored : Reports b (p.eachHeater fun n q =>
      q.setHeater n ((q.feeder.heaters.get n).granted p.feeder.round (p.roundWatts n))) :=
    h.eachHeater fun _ _ k => k.setHeater
  exact stored.windowBegun

/-- A grant handed to a loop is not among what the loop's mark reports (R40). -/
theorem reportGrants : Reports b p.reportGrants :=
  h.loops fun n differs => absurd (by rw [Table.get_ofFn]; rfl) differs

theorem judgeStarved {n : Fin 16} : Reports b (p.judgeStarved n) :=
  either (either h.setHeater.raise h.setHeater) (either h.setHeater.ret h.setHeater)

theorem applyBudget : Reports b { p with feeder := p.feeder.applyBudget } := by
  refine h.feeder ?_
  unfold Feeder.applyBudget
  dsimp only
  split <;> rfl

theorem allocationRound : Reports b p.allocationRound :=
  h.applyBudget.judgeReducedAck.storeGrants.reportGrants.eachHeater fun _ _ k => k.judgeStarved

/-- A heater's output is not among what its mark reports (R59). -/
theorem burstStep : Reports b { p with feeder := p.feeder.burstStep } := by
  refine h.trans ⟨Reported.of (heater := fun n differs => ?_), fun _ hm => hm, rfl⟩
  unfold Feeder.burstStep at differs
  split at differs <;> simp [Heater.shown] at differs

theorem restartFeeder : Reports b p.restartFeeder := by
  have cleared : Reports b (p.cutGrants.eachHeater fun n q =>
      q.setHeater n { q.feeder.heaters.get n with starve := 0, starved := false }) :=
    h.cutGrants.eachHeater fun _ _ k => k.setHeater
  have judged := cleared.notPending.judgeReducedAck
  unfold Part.restartFeeder
  dsimp only at judged ⊢
  exact judged

/-! ### Cabinets -/

theorem runCabinetLoop {n : Fin 8} {mode : CabinetMode} : Reports b (p.runCabinetLoop n mode) := by
  unfold Part.runCabinetLoop
  split
  · exact h.ownerOff
  · exact h.requestSetpoint.ownerAuto
  · exact h.requestSetpoint.ownerAuto

theorem changeMode {n : Fin 8} {mode : CabinetMode} {waveSet : Bool} : Reports b (p.changeMode n mode waveSet) :=
  either h.setCabinet h.setCabinet.runCabinetLoop.classNotice

theorem evaluateLow {n : Fin 8} : Reports b (p.evaluateLow n) := by
  unfold Part.evaluateLow
  dsimp only
  split
  · exact either h.trigger h
  · exact h

theorem holdNotice {w : Fin 12} {n : Fin 8} : Reports b (p.holdNotice w n) := h.setCabinet

theorem serviceNotice {n : Fin 8} : Reports b (p.serviceNotice n) := by
  unfold Part.serviceNotice
  split
  · exact h.changeMode
  · exact h.changeMode
  · exact h

theorem servingNotice {n : Fin 8} : Reports b (p.servingNotice n) := h.evaluateLow

theorem releaseNotice {n : Fin 8} : Reports b (p.releaseNotice n) :=
  either h.setCabinet.changeMode h.setCabinet.setCabinet

theorem restartCabinets : Reports b p.restartCabinets :=
  h.foldl (fun _ _ k => either k.setCabinet.classNotice k.setCabinet) _

/-! ### Waves -/

theorem plateCheck {w : Fin 12} : Reports b (p.plateCheck w) :=
  h.onWave fun _ => either (either h.setWave.ret h) (either h.setWave.raise h)

theorem ovenClasses {v : Wave} {c : HeaterClass} : Reports b (p.ovenClasses v c) :=
  h.foldl (fun _ _ k => k.classNotice) _

theorem enterPreparing {w : Fin 12} {v : Wave} : Reports b (p.enterPreparing w v) :=
  (h.setWave.foldl (fun _ _ k => k.serviceNotice) v.cabinets).ovenClasses.plateCheck

theorem enterReady {w : Fin 12} {v : Wave} : Reports b (p.enterReady w v) := (either h.setWave.ret h.setWave).trigger

theorem enterLate {w : Fin 12} {v : Wave} : Reports b (p.enterLate w v) := h.setWave.raise

theorem judgePlanned {w : Fin 12} : Reports b (p.judgePlanned w) := h.onWave fun _ => either h.enterPreparing h

theorem judgeReadiness {w : Fin 12} : Reports b (p.judgeReadiness w) := h.onWave fun _ => either h.enterReady h

theorem judgePreparing {w : Fin 12} : Reports b (p.judgePreparing w) := by
  refine h.onWave fun v => ?_
  split
  · exact h.plateCheck.judgeReadiness
  · exact h.plateCheck.judgeReadiness
  all_goals exact h

theorem judgeDue {w : Fin 12} : Reports b (p.judgeDue w) := h.onWave fun _ => either h.enterLate h

theorem judgeStanding {w : Fin 12} : Reports b (p.judgeStanding w) := by
  refine h.onWave fun v => ?_
  split
  · exact h.plateCheck
  · exact h.plateCheck
  all_goals exact h

/-- The judgement of a wave (R130). -/
theorem judgeWave {w : Fin 12} : Reports b (p.judgeWave w) := h.judgePlanned.judgePreparing.judgeDue.judgeStanding

/-- The wave closes (R139). -/
theorem closeWave {w : Fin 12} {v : Wave} : Reports b (p.closeWave w v) := by
  have released := h.setWave (w := w) (v := some { v with state := .closed }) |>.foldl
    (fun _ n k => k.releaseNotice (n := n)) v.cabinets
  have classed := either (c := v.state = .planned) released (released.ovenClasses (v := v) (c := .standby))
  have unshort := either (c := v.short = true)
    (classed.setWave (w := w) (v := some { v with state := .closed, short := false }) |>.ret (slot := platesShortSlot w))
    classed
  exact (either unshort.setWave.ret unshort).cancelNotice

theorem ovenNotice {oven : Fin 6} : Reports b (p.ovenNotice oven) := by
  refine h.eachSlot fun w q k => k.onWave fun v => ?_
  split
  · exact either k.judgeWave k
  · exact either k.judgeWave k
  all_goals exact k

theorem plateNotice {kind : Fin 4} : Reports b (p.plateNotice kind) := by
  refine h.eachSlot fun w q k => k.onWave fun v => ?_
  split
  iterate 4 exact either k.judgeWave k
  all_goals exact k

theorem issueNotice {w : Fin 12} {count : Nat} : Reports b (p.issueNotice w count) := by
  refine h.onWave fun v => either ?_ h
  have judged := h.setWave (w := w) (v := some { v with issued := min 65535 (v.issued + count) }) |>.judgeWave (w := w)
  exact judged.onWave fun _ => either judged.closeWave judged

theorem countdownTick {w : Fin 12} : Reports b (p.countdownTick w) :=
  h.onWave fun _ => either h.setWave.judgeWave h

theorem createWave {w : Fin 12} {v : Wave} : Reports b (p.createWave w v) :=
  (h.setWave.foldl (fun _ _ k => k.holdNotice) v.cabinets).judgeWave

theorem restartWaves : Reports b p.restartWaves := by
  refine h.eachSlot fun w q k => k.onWave fun v => ?_
  dsimp only
  split
  iterate 4 exact k.setWave.ovenClasses
  all_goals exact k.setWave

/-! ### Plates -/

theorem cabinetMoved {n : Fin 8} : Reports b (p.cabinetMoved n) := h.plateNotice.evaluateLow

theorem takeFromCabinet {n : Fin 8} {count : Nat} : Reports b (p.takeFromCabinet n count) := h.setCabinet

theorem writeOffAt {kind : Fin 4} {place : Place} {count : Nat} : Reports b (p.writeOffAt kind place count) := by
  unfold Part.writeOffAt
  dsimp only
  split
  · exact h.takeFromCabinet.setStock.cabinetMoved
  all_goals exact h.setStock.plateNotice

theorem loadCabinet {n : Fin 8} {count : Nat} : Reports b (p.loadCabinet n count) :=
  h.setStock.setCabinet.cabinetMoved

theorem issueFrom {n : Fin 8} {count : Nat} : Reports b (p.issueFrom n count) := by
  unfold Part.issueFrom
  dsimp only
  refine cabinetMoved ?_
  split
  · exact either h.takeFromCabinet.setStock.issueNotice h.takeFromCabinet.setStock
  · exact h.takeFromCabinet.setStock

theorem unloadFrom {n : Fin 8} {count : Nat} : Reports b (p.unloadFrom n count) :=
  h.takeFromCabinet.setStock.cabinetMoved

theorem rackEntryMove {kind : Option (Fin 4)} {count : Nat} : Reports b (p.rackEntryMove kind count) := by
  unfold Part.rackEntryMove
  split
  · exact h
  · exact either h h.setStock.plateNotice

theorem rackExitMove {kind : Option (Fin 4)} {count : Nat} {outcome : RackOutcome} {notice : Bool} :
    Reports b (p.rackExitMove kind count outcome notice) := by
  unfold Part.rackExitMove
  split
  · exact h
  · exact either h (either h.setStock.plateNotice h.setStock)

theorem trimCabinetLoop {n : Fin 8} {before after : Cabinet} : Reports b (p.trimCabinetLoop n before after) := by
  unfold Part.trimCabinetLoop
  split
  · exact h
  · exact either h h.requestSetpoint
  · exact either h h.requestSetpoint

theorem readinessNotice {before after : Cabinet} : Reports b (p.readinessNotice before after) := either h h.plateNotice

theorem warmTick {n : Fin 8} : Reports b (p.warmTick n) :=
  either (either h.setCabinet h.setCabinet.plateNotice.evaluateLow) h

/-! ### The dish tunnel -/

theorem judgeGate : Reports b p.judgeGate := h.setDish

theorem setValve {isOpen : Bool} : Reports b (p.setValve isOpen) := either h h.setDish.valveNotice

theorem judgeValve : Reports b p.judgeValve := h.setValve

/-- A removal (R102). -/
theorem removeOldest {outcome : RackOutcome} {notice : Bool} : Reports b (p.removeOldest outcome notice) := by
  unfold Part.removeOldest
  split
  · exact h
  · exact (either h.setDish.rackExitMove.raise.setDish h.setDish.rackExitMove).judgeGate.judgeValve

omit h in
theorem removeUnverified {p : Part} (h : Reports b p) {notice : Bool} (n : Nat) :
    Reports b (p.removeUnverified notice n) := by
  induction n generalizing p with
  | zero => exact h
  | succ n ih => exact ih h.removeOldest

theorem clearTunnel {notice : Bool} : Reports b (p.clearTunnel notice) := h.removeUnverified _

theorem dishLoopsAuto : Reports b p.dishLoopsAuto := h.requestSetpoint.requestSetpoint.ownerAuto.ownerAuto

theorem dishLoopsOff : Reports b p.dishLoopsOff := h.ownerOff.ownerOff

theorem stopTunnel {state : DishState} {reasons : HoldReasons} : Reports b (p.stopTunnel state reasons) :=
  h.setDish.setValve

theorem holdTunnel {join : HoldReasons → HoldReasons} : Reports b (p.holdTunnel join) := by
  unfold Part.holdTunnel
  split
  · exact h.setDish
  iterate 3 exact h.stopTunnel
  · exact h

theorem lineHold {join : HoldReasons → HoldReasons} : Reports b (p.lineHold join) := by
  unfold Part.lineHold
  split
  · exact h.holdTunnel
  · exact h.holdTunnel
  all_goals exact h

theorem endHold {leave : HoldReasons → HoldReasons} : Reports b (p.endHold leave) := by
  unfold Part.endHold
  split
  · exact either h (either h.setDish.judgeGate.judgeValve h.setDish)
  all_goals exact h

theorem dishDoor {isOpen : Bool} : Reports b (p.dishDoor isOpen) := either h.lineHold h.endHold

theorem dishOverload {asserted : Bool} : Reports b (p.dishOverload asserted) := either h.lineHold h.endHold

theorem ackReport {slot : Fin 87} : Reports b (p.ackReport slot) := either h.setDish.judgeGate (either h.endHold h)

theorem tripTunnel : Reports b p.tripTunnel := either h h.clearTunnel.stopTunnel.dishLoopsOff

theorem tripTunnelExit : Reports b p.tripTunnelExit :=
  either (either h.setDish.dishLoopsAuto.setDish.judgeGate.judgeValve h.setDish.dishLoopsAuto) h

theorem checkLost : Reports b p.checkLost := by
  unfold Part.checkLost
  split
  · exact h
  · exact either h.removeOldest.raise.holdTunnel h

theorem tunnelPulse : Reports b p.tunnelPulse := h.setDish.checkLost.judgeValve

theorem encoderPulse : Reports b p.encoderPulse := h.interlock.tunnelPulse

theorem rackEntryEdge : Reports b p.rackEntryEdge :=
  either h (either h h.setDish.rackEntryMove.setDish.judgeGate)

theorem rackExitEdge : Reports b p.rackExitEdge := by
  unfold Part.rackExitEdge
  split
  · exact h
  · split
    · exact h.raise
    · exact either h.removeOldest h.raise

theorem temperatureCheck : Reports b p.temperatureCheck := h.setDish.judgeGate

theorem judgeWashCold : Reports b p.judgeWashCold :=
  either (either h.setDish.ret h.setDish) (either (either h.setDish.raise h.setDish) h.setDish)

theorem sampleNotice {ch : Fin 23} {value : Int} : Reports b (p.sampleNotice ch value) :=
  either (either h.setDish h) (either (either h.setDish h) h)

theorem restartDish : Reports b p.restartDish := h.clearTunnel.setDish.setValve

theorem trimDishLoops {before after : DishConfig} : Reports b (p.trimDishLoops before after) :=
  either (either (either h h.requestSetpoint) (either h h.requestSetpoint).requestSetpoint) h

theorem switchOff : Reports b p.switchOff :=
  either h.clearTunnel.stopTunnel.dishLoopsOff.setDish.ret h.clearTunnel.stopTunnel.dishLoopsOff.setDish

/-! ### Ovens -/

theorem ovenChanged {n : Fin 6} {before : Oven} : Reports b (p.ovenChanged n before) :=
  (either h.cancelNotice h).ovenNotice

theorem programDone {n : Fin 6} {before o : Oven} : Reports b (p.programDone n before o) :=
  (either h.setOven.requestSetpoint h.setOven.ownerOff).trigger.ovenChanged

theorem stepComplete {n : Fin 6} {before o : Oven} : Reports b (p.stepComplete n before o) := by
  unfold Part.stepComplete
  split
  · exact h.setOven.requestSetpoint
  · exact h.programDone

theorem cookingTick {n : Fin 6} {o : Oven} {step : Step} : Reports b (p.cookingTick n o step) := by
  unfold Part.cookingTick
  dsimp only
  split
  · exact h.setOven
  · exact h.stepComplete

theorem ovenTick {n : Fin 6} : Reports b (p.ovenTick n) := by
  unfold Part.ovenTick
  dsimp only
  split
  · exact h
  · split
    · exact either h.setOven.ovenChanged h
    · exact h.cookingTick
    all_goals exact h

theorem ovenDoor {n : Fin 6} {isOpen : Bool} : Reports b (p.ovenDoor n isOpen) :=
  either h.setOven (either h.setOven.inhibitLoop h.setOven.releaseLoop)

theorem endRun {n : Fin 6} {outcome : OvenOutcome} {askOff : Bool} : Reports b (p.endRun n outcome askOff) := by
  have idle : Reports b (p.setOven n { p.ovens.get n with state := .idle, outcome }) := h.setOven
  have off := either (c := askOff = true) (idle.ownerOff (n := ovenLoop n)) idle
  exact (either off.releaseLoop off).ovenChanged

theorem tripOvens : Reports b p.tripOvens := h.foldl (fun _ _ k => either k k.endRun) _

theorem restartOvens : Reports b p.restartOvens := h.foldl (fun _ _ k => k.setOven) _

theorem startOven {n : Fin 6} {g : Fin 16} {first : Step} : Reports b (p.startOven n g first) :=
  (either h.setOven.requestSetpoint.inhibitLoop h.setOven.requestSetpoint).ownerAuto.setOven.ovenChanged

/-! ### The interlock unit -/

theorem enterTrip : Reports b p.enterTrip := h.interlock.cutGrants.tripOvens.tripTunnel

theorem hoodAsserted : Reports b p.hoodAsserted := either h.raise h.raise.enterTrip

theorem leaveTrip : Reports b p.leaveTrip := h.interlock.ret.tripTunnelExit

theorem overloadChange {asserted : Bool} : Reports b (p.overloadChange asserted) := (either h.raise h.ret).dishOverload

theorem handOn {line : Line} {asserted : Bool} : Reports b (p.handOn line asserted) := by
  cases line with
  | hoodTrip => exact either h.hoodAsserted h
  | ovenDoor oven => exact h.ovenDoor
  | dishDoor => exact h.dishDoor
  | conveyorOverload => exact h.overloadChange
  | feederReduce => exact h.reduceChange
  | rackEntry => exact either h.rackEntryEdge h
  | rackExit => exact either h.rackExitEdge h

theorem filterExpiry {line : Line} : Reports b (p.filterExpiry line) := either (either h.setLine h.setLine.handOn) h

theorem restartInterlock : Reports b p.restartInterlock :=
  either (either h.raise h).raise (either h.raise h)

/-! ### Conditions, pagers, the scanner -/

theorem acknowledgeSlot {slot : Fin 87} : Reports b (p.acknowledgeSlot slot) :=
  (h.desk (DeskReports.refl _).setSlot).cancelNotice.ackReport

theorem restartConditions : Reports b p.restartConditions := h.desk (DeskReports.refl _).restartConditions

/-- The outcome list loses records under its mark (R173). -/
theorem outcomes {f : Pager → Pager} : Reports b ((p.onPager f).mark .outcomes 0) :=
  h.desk ⟨fun _ e => absurd rfl e, fun _ => Link.mem_mark_changeSet _ _ _, Link.changeSet_subset_mark _ _ _,
    Link.mark_buffers _ _ _⟩

theorem restartPager : Reports b p.restartPager := by
  unfold Part.restartPager
  dsimp only
  split
  · next none_held => exact h.onPager none_held.symm
  · exact h.outcomes

theorem sampleChannel {ch : Fin 23} {raw : Half} : Reports b (p.sampleChannel ch raw) := by
  unfold Part.sampleChannel
  dsimp only
  split
  · exact either (either h.setEntry.ret h.setEntry).sampleNotice h.setEntry
  · exact either h.setEntry.raise h.setEntry
  · exact either h.setEntry.raise h.setEntry

theorem scanVisit {raw : Half} : Reports b (p.scanVisit raw) := by
  unfold Part.scanVisit
  dsimp only
  split
  · exact (h.scanPlace (s := { p.scan with next := _, select := _ })).sampleChannel
  · exact h.scanPlace

theorem restartProbe : Reports b p.restartProbe := by
  refine h.foldl (fun q ch k => ?_) _
  dsimp only
  split
  · next same => exact k.putEntry (by rw [same]) (by rw [same])
  · exact k.putEntry_mark

end Blocks

end Sys2Proof.Machine.Reports
end

section
/-!
Requests, events and frames report what they change: a request by its owning rule, a frame by the request it carries, an
event by the operations that it is made of.
-/

namespace Sys2Proof.Machine

/-! ## Reads leave the part as it is -/

@[simp] theorem readLoop_fst (loop : Byte) (p : Part) : (readLoop loop p).1 = p := by
  unfold readLoop
  split <;> rfl

@[simp] theorem readHeater_fst (heater : Byte) (p : Part) : (readHeater heater p).1 = p := by
  unfold readHeater
  split <;> rfl

@[simp] theorem readProgram_fst (program : Byte) (p : Part) : (readProgram program p).1 = p := by
  unfold readProgram
  split <;> rfl

@[simp] theorem readOven_fst (oven : Byte) (p : Part) : (readOven oven p).1 = p := by
  unfold readOven
  split <;> rfl

@[simp] theorem readCabinet_fst (cabinet : Byte) (p : Part) : (readCabinet cabinet p).1 = p := by
  unfold readCabinet
  split <;> rfl

@[simp] theorem readStock_fst (kind : Byte) (p : Part) : (readStock kind p).1 = p := by
  unfold readStock
  split <;> rfl

@[simp] theorem readWave_fst (slot number : Byte) (p : Part) : (readWave slot number p).1 = p := by
  unfold readWave
  split <;> rfl

@[simp] theorem readCondition_fst (slot : Byte) (p : Part) : (readCondition slot p).1 = p := by
  unfold readCondition
  split <;> rfl

@[simp] theorem readConditions_fst (first count : Byte) (p : Part) : (readConditions first count p).1 = p := by
  unfold readConditions
  split <;> rfl

@[simp] theorem readPager_fst (entry : Byte) (p : Part) : (readPager entry p).1 = p := by
  unfold readPager
  split <;> rfl

@[simp] theorem readGroup_fst (group : Byte) (p : Part) : (readGroup group p).1 = p := by
  unfold readGroup
  split <;> rfl

@[simp] theorem readRoute_fst (route : Byte) (p : Part) : (readRoute route p).1 = p := by
  unfold readRoute
  split <;> rfl

namespace Reports

/-! ### Requests -/

/-- Whichever of two ways a request is answered, it reports. -/
theorem eitherAnswer {c : Prop} [Decidable c] {b : Part} {x y : Part × Answer} (hx : Reports b x.1)
    (hy : Reports b y.1) : Reports b (if c then x else y).1 := by
  split
  · exact hx
  · exact hy

/-- The part of an answer. -/
theorem answered {b p : Part} {a : Answer} (h : Reports b p) : Reports b (p, a).1 := h

section Requests

variable {b p : Part} (h : Reports b p)
include h

theorem clearFresh {ch : Fin 23} : Reports b (p.clearFresh ch) := h.putEntry rfl rfl

theorem readChannel {channel : Byte} : Reports b (Machine.readChannel channel p).1 := by
  unfold Machine.readChannel
  split
  · exact h
  · exact h.clearFresh

theorem readChannels {first count : Byte} : Reports b (Machine.readChannels first count p).1 :=
  eitherAnswer h (h.foldl (fun _ _ k => k.clearFresh) _)

theorem configureChannel {channel enable : Byte} {gain offset : Half} :
    Reports b (Machine.configureChannel channel gain offset enable p).1 := by
  unfold Machine.configureChannel
  split
  · exact eitherAnswer h (either h.setEntry.mark.ret h.setEntry.mark)
  · exact h

theorem setLoopMode {loop mode : Byte} : Reports b (Machine.setLoopMode loop mode p).1 := by
  unfold Machine.setLoopMode
  split
  · exact h
  · dsimp only
    split
    · split
      · exact h
      · exact h.setLoop
      all_goals exact h
    · split
      · split
        · exact h
        · exact h.setLoop
        all_goals exact h
      · exact h

theorem setManualOutput {loop : Byte} {output ramp : Half} :
    Reports b (Machine.setManualOutput loop output ramp p).1 := by
  unfold Machine.setManualOutput
  split
  · exact h
  · dsimp only
    split
    · split
      · exact h.setLoop.mark
      all_goals exact h
    · exact h

theorem setLoopSetpoint {loop : Byte} {setpoint : Half} : Reports b (Machine.setLoopSetpoint loop setpoint p).1 := by
  unfold Machine.setLoopSetpoint
  split
  · exact h
  · exact h.requestSetpoint

theorem configureLoop {loop : Byte} {f : LoopFields} : Reports b (Machine.configureLoop loop f p).1 := by
  unfold Machine.configureLoop
  split
  · exact h.setLoop.mark
  · exact h

theorem configureHeater {heater : Byte} {rated : Half} : Reports b (Machine.configureHeater heater rated p).1 := by
  unfold Machine.configureHeater
  split
  · exact h
  · split
    · exact h
    · split
      · exact h
      · exact h
      · exact h.setHeater.totals.mark

theorem configureFeeder {limit reduced : Word} {starveTime : Half} :
    Reports b (Machine.configureFeeder limit reduced starveTime p).1 :=
  eitherAnswer h (h.feeder (f := { p.feeder with limit := _, reduced := _, starveTime := _ })).reduceChange

theorem storeProgramRequest {program stepCount : Byte} {hold band : Half} {steps : List WireStep} :
    Reports b (Machine.storeProgram program stepCount hold band steps p).1 := by
  unfold Machine.storeProgram
  split
  · exact eitherAnswer h h.storeProgram
  · exact h

theorem startProgram {oven program : Byte} : Reports b (Machine.startProgram oven program p).1 := by
  unfold Machine.startProgram
  split
  · split
    iterate 4 exact h
    all_goals
      split
      · exact h
      · exact eitherAnswer h (eitherAnswer h (answered h.startOven))
  · exact h

theorem foodLoaded {oven : Byte} : Reports b (Machine.foodLoaded oven p).1 := by
  unfold Machine.foodLoaded
  split
  · exact h
  · dsimp only
    split
    · exact answered h.setOven.ovenChanged
    all_goals exact h

theorem unload {oven : Byte} : Reports b (Machine.unload oven p).1 := by
  unfold Machine.unload
  split
  · exact h
  · dsimp only
    split
    · exact answered h.endRun
    · exact answered h.endRun
    all_goals exact h

theorem abort {oven : Byte} : Reports b (Machine.abort oven p).1 := by
  unfold Machine.abort
  split
  · exact h
  · split
    · exact h
    all_goals exact answered h.endRun

theorem configureCabinet {cabinet : Byte} {f : CabinetFields} :
    Reports b (Machine.configureCabinet cabinet f p).1 := by
  unfold Machine.configureCabinet
  split
  · exact h
  · dsimp only
    split
    · exact h
    · exact eitherAnswer h (eitherAnswer h (answered h.setCabinet.mark.trimCabinetLoop.readinessNotice.evaluateLow))

theorem setCabinetMode {cabinet mode : Byte} : Reports b (Machine.setCabinetMode cabinet mode p).1 := by
  unfold Machine.setCabinetMode
  split
  · exact h.changeMode
  · exact h

theorem stockAdd {kind : Byte} {count : Half} : Reports b (Machine.stockAdd kind count p).1 := by
  unfold Machine.stockAdd
  split
  · exact h
  · exact eitherAnswer h (answered h.setStock.plateNotice)

theorem writeOff {kind location : Byte} {count : Half} : Reports b (Machine.writeOff kind location count p).1 := by
  unfold Machine.writeOff
  split
  · exact eitherAnswer h (either h h.writeOffAt)
  · exact h

theorem load {cabinet : Byte} {count : Half} : Reports b (Machine.load cabinet count p).1 := by
  unfold Machine.load
  split
  · exact h
  · exact eitherAnswer h (eitherAnswer h (either h h.loadCabinet))

theorem issue {cabinet : Byte} {count : Half} : Reports b (Machine.issue cabinet count p).1 := by
  unfold Machine.issue
  split
  · exact h
  · exact eitherAnswer h (either h h.issueFrom)

theorem unloadPlates {cabinet : Byte} {count : Half} : Reports b (Machine.unloadPlates cabinet count p).1 := by
  unfold Machine.unloadPlates
  split
  · exact h
  · exact eitherAnswer h (either h h.unloadFrom)

theorem returnPlates {kind : Byte} {count : Half} : Reports b (Machine.returnPlates kind count p).1 := by
  unfold Machine.returnPlates
  split
  · exact h
  · exact eitherAnswer h (either h h.setStock.plateNotice)

theorem configureDish {f : DishFields} : Reports b (Machine.configureDish f p).1 := by
  unfold Machine.configureDish
  split
  · exact h
  · exact eitherAnswer h h.setDish.mark.trimDishLoops

theorem dishOn : Reports b (Machine.dishOn p).1 := by
  refine eitherAnswer h ?_
  split
  · exact h.setDish.dishLoopsAuto.judgeGate
  all_goals exact h

theorem runTunnel : Reports b (Machine.runTunnel p).1 :=
  eitherAnswer h (eitherAnswer h.setDish.judgeGate.judgeValve h)

theorem stop : Reports b (Machine.stop p).1 := by
  unfold Machine.stop
  split
  · exact h.stopTunnel
  all_goals exact h

theorem dishOff : Reports b (Machine.dishOff p).1 := by
  unfold Machine.dishOff
  split
  · exact h
  all_goals exact h.switchOff

theorem declareRack {kind count : Byte} : Reports b (Machine.declareRack kind count p).1 := by
  unfold Machine.declareRack
  split
  · exact h
  · exact eitherAnswer h (eitherAnswer h h.setDish)

theorem takeRacks {maximum : Byte} : Reports b (Machine.takeRacks maximum p).1 := eitherAnswer h h.setDish

theorem clearRingCount : Reports b (Machine.clearRingCount p).1 := h.setDish

theorem create {f : CreateFields} : Reports b (Machine.create f p).1 := by
  unfold Machine.create
  split
  · exact h
  · refine eitherAnswer h (eitherAnswer h (eitherAnswer h ?_))
    split
    · exact h
    · exact h.createWave

theorem amend {slot number : Byte} {covers lead : Half} {due : Word} :
    Reports b (Machine.amend slot number covers due lead p).1 := by
  unfold Machine.amend
  split
  · exact h
  · refine eitherAnswer ?_ h
    split
    iterate 3 exact (either h.setWave.mark.ret h.setWave.mark).judgeWave
    all_goals exact h

theorem release {slot number : Byte} : Reports b (Machine.release slot number p).1 := by
  unfold Machine.release
  split
  · exact h
  · split
    iterate 2 exact (h.setWave.foldl (fun _ _ k => k.servingNotice) _).judgeWave
    all_goals exact h

theorem close {slot number : Byte} : Reports b (Machine.close slot number p).1 := by
  unfold Machine.close
  split
  · exact h
  · split
    iterate 5 exact h.closeWave
    · exact h

theorem delete {slot number : Byte} : Reports b (Machine.delete slot number p).1 := by
  unfold Machine.delete
  split
  · exact h
  · split
    · exact (h.foldl (fun _ _ k => k.releaseNotice) _).setWave
    · exact h.setWave
    all_goals exact h

theorem acknowledge {slot count : Byte} : Reports b (Machine.acknowledge slot count p).1 := by
  unfold Machine.acknowledge
  split
  · exact h
  · exact eitherAnswer h (eitherAnswer h h.acknowledgeSlot)

theorem setPager {entry groups duty : Byte} {address : Half} :
    Reports b (Machine.setPager entry address groups duty p).1 := by
  unfold Machine.setPager
  split
  · exact eitherAnswer h (eitherAnswer h h.onPager)
  · exact h

theorem clearPager {entry : Byte} : Reports b (Machine.clearPager entry p).1 := by
  unfold Machine.clearPager
  split
  · exact h
  · exact eitherAnswer h h.onPager

theorem setGroup {group escalation limit : Byte} {timeout : Half} :
    Reports b (Machine.setGroup group escalation limit timeout p).1 := by
  unfold Machine.setGroup
  split
  · exact h
  · split
    · exact h
    · exact eitherAnswer h.onPager h

theorem setRoute {route enabled group priority code : Byte} :
    Reports b (Machine.setRoute route enabled group priority code p).1 := by
  unfold Machine.setRoute
  split
  · exact h.onPager
  · exact h

theorem page {hostTag group priority code : Byte} {param : Half} :
    Reports b (Machine.page hostTag group priority code param p).1 := by
  unfold Machine.page
  split
  · exact eitherAnswer h (h.desk (DeskReports.refl _).createPage.arbiter)
  · exact h

theorem cancelPage {id : Half} : Reports b (Machine.cancelPage id p).1 := by
  unfold Machine.cancelPage
  split
  · exact h
  · exact h.onDesk fun _ _ => (DeskReports.refl _).cancelPage.arbiter

theorem configureRadio {backoff : Half} : Reports b (Machine.configureRadio backoff p).1 :=
  eitherAnswer h.onPager h

theorem takeOutcomes {maximum : Byte} : Reports b (Machine.takeOutcomes maximum p).1 := by
  unfold Machine.takeOutcomes
  split
  · exact h
  · next inRange =>
    dsimp only
    split
    · next none_taken =>
      have asked : maximum.toNat ≠ 0 := by
        intro zero
        simp [within, zero] at inRange
      have none_held : p.desk.pager.outcomes = [] := by simpa [asked] using none_taken
      exact h.onPager (by simp [none_held])
    · exact h.outcomes

theorem clearTrip : Reports b (Machine.clearTrip p).1 := eitherAnswer h h.leaveTrip

end Requests

/-- The requests that leave the change set as it stands but for the marks of their own work. -/
theorem performRequest {b p : Part} (h : Reports b p) {i : Instr} (notPoll : ∀ tag, i ≠ .poll tag)
    (notRestart : ∀ tag, i ≠ .restart tag) : Reports b (Machine.performRequest i p).1 := by
  cases i
  case readChannel => exact h.readChannel
  case readChannels => exact h.readChannels
  case configureChannel => exact h.configureChannel
  case setLoopMode => exact h.setLoopMode
  case setManualOutput => exact h.setManualOutput
  case setLoopSetpoint => exact h.setLoopSetpoint
  case configureLoop => exact h.configureLoop
  case configureHeater => exact h.configureHeater
  case configureFeeder => exact h.configureFeeder
  case storeProgram => exact h.storeProgramRequest
  case startProgram => exact h.startProgram
  case foodLoaded => exact h.foodLoaded
  case unload => exact h.unload
  case abort => exact h.abort
  case configureCabinet => exact h.configureCabinet
  case setCabinetMode => exact h.setCabinetMode
  case stockAdd => exact h.stockAdd
  case writeOff => exact h.writeOff
  case load => exact h.load
  case issue => exact h.issue
  case unloadPlates => exact h.unloadPlates
  case returnPlates => exact h.returnPlates
  case configureDish => exact h.configureDish
  case dishOn => exact h.dishOn
  case run => exact h.runTunnel
  case stop => exact h.stop
  case dishOff => exact h.dishOff
  case declareRack => exact h.declareRack
  case takeRacks => exact h.takeRacks
  case clearRingCount => exact h.clearRingCount
  case create => exact h.create
  case amend => exact h.amend
  case release => exact h.release
  case close => exact h.close
  case delete => exact h.delete
  case acknowledge => exact h.acknowledge
  case setPager => exact h.setPager
  case clearPager => exact h.clearPager
  case setGroup => exact h.setGroup
  case setRoute => exact h.setRoute
  case page => exact h.page
  case cancelPage => exact h.cancelPage
  case configureRadio => exact h.configureRadio
  case takeOutcomes => exact h.takeOutcomes
  case clearTrip => exact h.clearTrip
  case poll tag => exact absurd rfl (notPoll tag)
  case restart tag => exact absurd rfl (notRestart tag)
  -- the reads, and the events, which are no requests
  all_goals simpa [Machine.performRequest, readFeeder, readDish, readTunnel, readWaves, readPending, readPages,
    readRadio, readInterlocks] using h

end Reports

/-! ## POLL, RESTART and the link -/

/-- What the link does on its own shows in no record. -/
theorem Reported.onLink {p q : Part} (h : Reported p q) {f : Link → Link}
    (kept : q.desk.link.changeSet ⊆ (f q.desk.link).changeSet) : Reported p (q.onLink f) :=
  h.trans Reported.of kept

theorem Reported.reply {p q : Part} (h : Reported p q) {kind tag : Byte} {buffered : Bool} {a : Answer} :
    Reported p (q.reply kind tag buffered a) := h.trans Reported.of fun _ hm => hm

/-- Nor does what the link has done before. -/
theorem Reported.afterLink {p q : Part} {f : Link → Link} (h : Reported (p.onLink f) q) : Reported p q :=
  ⟨h.channel, h.loop, h.heater, h.oven, h.program, h.cabinet, h.stock, h.dish, h.ring, h.wave, h.condition, h.outcomes⟩

/-- A RESTART marks what it changes in the change set that it has emptied (R193). -/
theorem Part.restarted_reports (p : Part) : Reports (p.onLink Link.restarted) p.restarted :=
  (Reports.refl _).restartProbe.restartLoops.restartFeeder.restartOvens.restartCabinets.restartDish.restartWaves
    |>.restartConditions.restartPager.restartInterlock

theorem performRequest_restart (tag : Byte) (p : Part) : (performRequest (.restart tag) p).1 = p.restarted := by
  simp only [performRequest, restart]

theorem performRequest_poll (tag : Byte) (p : Part) :
    ∃ f : Link → Link, (performRequest (.poll tag) p).1 = p.onLink f ∧ ∀ k, (f k).buffers = k.buffers :=
  ⟨Link.polled, rfl, fun _ => Link.judgeAttention_buffers _⟩

/-- A request reports what it changes, a POLL too, which takes marks away but changes no record; and none reaches the
receive buffers. -/
theorem performRequest_reported (i : Instr) (p : Part) :
    Reported p (performRequest i p).1 ∧ (performRequest i p).1.desk.link.buffers = p.desk.link.buffers := by
  by_cases poll : ∃ tag, i = .poll tag
  · obtain ⟨tag, rfl⟩ := poll
    obtain ⟨f, polled, buffers⟩ := performRequest_poll tag p
    rw [polled]
    exact ⟨Reported.of, buffers _⟩
  · by_cases restart : ∃ tag, i = .restart tag
    · obtain ⟨tag, rfl⟩ := restart
      rw [performRequest_restart]
      exact ⟨p.restarted_reports.reported.afterLink, p.restarted_reports.buffers⟩
    · have reports := (Reports.refl p).performRequest (not_exists.mp poll) (not_exists.mp restart)
      exact ⟨reports.reported, reports.buffers⟩

/-- A frame taken as a request reports what it changes and leaves the receive buffers alone. -/
theorem performFrame_reported (f : Frame) (p : Part) :
    Reported p (performFrame f p).1 ∧ (performFrame f p).1.desk.link.buffers = p.desk.link.buffers := by
  unfold performFrame
  split
  · exact ⟨Reported.of, rfl⟩
  · exact ⟨Reported.of, rfl⟩
  · exact performRequest_reported _ p

theorem Part.takeBuffer_reported (b : Buffer) (p : Part) :
    Reported p (p.takeBuffer b) ∧
      (p.takeBuffer b).desk.link.buffers = takeOldestFrame p.desk.link.buffers := by
  obtain ⟨reported, buffers⟩ :=
    performFrame_reported b.frame (p.onLink fun k => { k with buffers := takeOldestFrame k.buffers })
  exact ⟨reported.afterLink.reply, buffers⟩

/-- Where frames wait behind a RESTART alone, a complete frame is the only one that is taken: the frames before it are
taken, or none may be (log entry 5). -/
theorem Part.frameComplete_reported {p : Part} (waits : WaitsBehindRestart p.desk.link) (f : Frame) :
    Reported p (p.frameComplete f) := by
  unfold Part.frameComplete
  split
  · let b : Buffer := { frame := f, taken := false }
    have joined : Reported p (p.onLink fun k => { k with buffers := k.buffers ++ [b] }) := Reported.of
    let q := p.onLink fun k => { k with buffers := k.buffers ++ [b] }
    change Reported p (q.takeWaiting 2)
    by_cases restart : ∃ r ∈ p.desk.link.replies, r.ofRestart = true
    · obtain ⟨r, mem, isRestart⟩ := restart
      rwa [takeWaiting_of_none 2 q (nextWaiting_behind_restart _ r mem isRestart)]
    · have free : ∀ r ∈ p.desk.link.replies, r.ofRestart = false := by simpa using restart
      have taken : ∀ x ∈ p.desk.link.buffers, x.taken = true := by
        intro x mem
        by_contra untaken
        obtain ⟨r, reply, isRestart⟩ := waits x mem (by simpa using untaken)
        exact restart ⟨r, reply, (ofRestart_iff r).mpr isRestart⟩
      obtain ⟨reported, buffers⟩ := q.takeBuffer_reported b
      have none_left : (q.takeBuffer b).desk.link.nextWaiting = none := by
        refine nextWaiting_of_taken _ fun x mem => ?_
        rw [buffers] at mem
        change x ∈ takeOldestFrame (p.desk.link.buffers ++ [b]) at mem
        rw [takeOldestFrame_append p.desk.link.buffers b [] taken rfl] at mem
        rcases List.mem_append.mp mem with mem | mem
        · exact taken x mem
        · simp [List.mem_singleton.mp mem]
      rw [takeWaiting_of_some 1 q b (nextWaiting_append _ p.desk.link.buffers b [] free rfl taken rfl),
        takeWaiting_of_none 1 _ none_left]
      exact reported.afterLink
  · exact Reported.of

/-- The receiver's place in a frame decides no waiting. -/
theorem WaitsBehindRestart.onRx {p : Part} (waits : WaitsBehindRestart p.desk.link) (rx : Receiver) :
    WaitsBehindRestart (p.onLink fun k => { k with rx := rx }).desk.link := waits

theorem Part.controlByte_reported {p : Part} (waits : WaitsBehindRestart p.desk.link) (late : Bool) (byte : Byte) :
    Reported p (p.controlByte late byte) := by
  unfold Part.controlByte
  dsimp only
  split
  · exact (Part.frameComplete_reported (waits.onRx _) _).afterLink
  · exact Reported.of

/-- REPLY_SENT takes no frame, since those that wait do so behind a RESTART, which clears them (R193). -/
theorem Part.replySent_reported {p : Part} (waits : WaitsBehindRestart p.desk.link) : Reported p p.replySent := by
  by_cases sent : ∃ r rest, p.desk.link.tx = .reply ∧ p.desk.link.replies = r :: rest
  · obtain ⟨r, rest, tx, replies⟩ := sent
    rw [replySent_of_waits p waits r rest tx replies]
    exact Reported.of
  · unfold Part.replySent
    split
    · next r rest tx replies => exact absurd ⟨r, rest, tx, replies⟩ sent
    · exact Reported.of

/-! ## Commands -/

theorem Reported.answer {s : State} {kind tag : Byte} {taken : Part × Answer} (h : Reported s.part taken.1) :
    Reported s.part (s.answer kind tag taken).part :=
  h.trans Reported.of (by simp)

theorem Reported.event {s : State} {after : Part} (h : Reported s.part after) :
    Reported s.part (s.event after).part :=
  h.trans Reported.of (by simp)

/-- A request row is its owning block's rule, answered under its kind and tag. -/
theorem exec_of_encodeRequest {c : Instr} {f : RequestFrame} (isRequest : encodeRequest c = some f) (s : State) :
    exec c s = .next (s.answer f.kind f.tag (performRequest c s.part)) := by
  cases c <;> cases isRequest <;> rfl

/-- The part as an event leaves it, before what became ready is handed to the transmitter. -/
theorem exec_event_reported {c : Instr} (isEvent : encodeRequest c = none) (notOn : c ≠ .powerOn) (s : State)
    (waits : WaitsBehindRestart s.link) :
    ∃ after, exec c s = .next (s.event after) ∧ Reported s.part after := by
  have start := Reports.refl s.part
  cases c
  case powerOn => exact absurd rfl notOn
  case controlFrameComplete kind tag payload =>
    exact ⟨_, rfl, (Part.frameComplete_reported (waits.onRx _) _).afterLink⟩
  case replySent => exact ⟨_, rfl, Part.replySent_reported waits⟩
  case scanVisit raw => exact ⟨_, rfl, start.scanVisit.reported⟩
  case loopCycle n => exact ⟨_, rfl, start.loopCycle.reported⟩
  case allocationRound => exact ⟨_, rfl, start.allocationRound.reported⟩
  case heaterBurstStep => exact ⟨_, rfl, start.burstStep.reported⟩
  case ovenTimingTick n => exact ⟨_, rfl, start.ovenTick.reported⟩
  case warmTick n => exact ⟨_, rfl, start.warmTick.reported⟩
  case temperatureCheck => exact ⟨_, rfl, start.temperatureCheck.reported⟩
  case washColdJudgement => exact ⟨_, rfl, start.judgeWashCold.reported⟩
  case encoderPulse => exact ⟨_, rfl, start.encoderPulse.reported⟩
  case countdownTick w => exact ⟨_, rfl, start.countdownTick.reported⟩
  case accepted tag id => exact ⟨_, rfl, (start.onDesk fun _ _ => (DeskReports.refl _).accepted).reported⟩
  case backoff tag id => exact ⟨_, rfl, (start.onDesk fun _ _ => (DeskReports.refl _).backoff).reported⟩
  case backoffEnd => exact ⟨_, rfl, (start.onDesk fun _ _ => (DeskReports.refl _).backoffEnd).reported⟩
  case silenceTimeout => exact ⟨_, rfl, (start.onDesk fun _ _ => (DeskReports.refl _).silence).reported⟩
  case statusTimer => exact ⟨_, rfl, (start.onDesk fun _ _ => (DeskReports.refl _).sendStatus).reported⟩
  case statusReply tag => exact ⟨_, rfl, (start.onDesk fun _ _ => (DeskReports.refl _).statusReply).reported⟩
  case answerAccept address id =>
    exact ⟨_, rfl, (start.onDesk fun _ _ => (DeskReports.refl _).answerFrame fun _ k => k.takeAccept).reported⟩
  case answerDecline address id =>
    exact ⟨_, rfl, (start.onDesk fun _ _ => (DeskReports.refl _).answerFrame fun _ k => k.takeDecline).reported⟩
  case pageDeadline id => exact ⟨_, rfl, (start.onDesk fun _ _ => (DeskReports.refl _).pageDeadline).reported⟩
  case rawLineChange line asserted => exact ⟨_, rfl, start.setLine.reported⟩
  case filterTimerExpiry line => exact ⟨_, rfl, start.filterExpiry.reported⟩
  case controlLinkByte late byte => exact ⟨_, rfl, Part.controlByte_reported waits late byte⟩
  case pagerLinkByte late byte => exact ⟨_, rfl, (start.onDesk fun _ _ => (DeskReports.refl _).pagerByte).reported⟩
  case attentionSent => exact ⟨_, rfl, Reported.of⟩
  case uptimeSecond => exact ⟨_, rfl, start.uptime.reported⟩
  -- the requests
  all_goals cases isEvent

/-- Settles O15: a request reports by its owning rule, an event by the operations that it is made of. -/
theorem stepsReportWhatTheyChange : Obligations.StepsReportWhatTheyChange := by
  intro c s notOn waits t isNext
  cases isRequest : encodeRequest c with
  | some f =>
    rw [exec_of_encodeRequest isRequest] at isNext
    cases isNext
    exact (performRequest_reported c s.part).1.answer
  | none =>
    obtain ⟨after, exec_eq, reported⟩ := exec_event_reported isRequest notOn s waits
    rw [exec_eq] at isNext
    cases isNext
    exact reported.event

end Sys2Proof.Machine
end

section
/-!
What a trigger makes of the page queue: the page id, the place in the queue, and the page that leaves a full one, in the
words of R159 to R161.
-/

namespace Sys2Proof.Machine

/-! ## The next page id (R159) -/

/-- The ids passed over are held; the search ends at an id that is free, or with its fuel. -/
theorem nextPageId_search (held : List Half) (fuel : Nat) (counter : Half) :
    ∃ k ≤ fuel, nextPageId held fuel counter = counter + 1 + BitVec.ofNat 16 k ∧
      (∀ j < k, counter + 1 + BitVec.ofNat 16 j ∈ held) ∧ (k < fuel → nextPageId held fuel counter ∉ held) := by
  induction fuel generalizing counter with
  | zero => exact ⟨0, le_rfl, by simp [nextPageId], by simp, by simp⟩
  | succ fuel ih =>
    have next (j : Nat) : counter + 1 + BitVec.ofNat 16 (j + 1) = counter + 1 + 1 + BitVec.ofNat 16 j := by
      rw [Nat.add_comm, BitVec.ofNat_add, ← BitVec.add_assoc]
      rfl
    unfold nextPageId
    split
    · next taken =>
      obtain ⟨k, le, eq, passed, free⟩ := ih (counter + 1)
      refine ⟨k + 1, by omega, by rw [eq, next], fun j less => ?_, fun less => free (by omega)⟩
      cases j with
      | zero => simpa using taken
      | succ j => exact (next j) ▸ passed j (by omega)
    · next free => exact ⟨0, by omega, by simp, by simp, fun _ => free⟩

/-- Different steps from a counter give different ids. -/
theorem nodup_ids (start : Half) {k : Nat} (small : k ≤ 65536) :
    ((List.range k).map fun j => start + BitVec.ofNat 16 j).Nodup := by
  refine List.Nodup.map_on (fun i hi j hj same => ?_) List.nodup_range
  have low := congrArg BitVec.toNat (BitVec.add_right_inj start |>.mp same)
  simp only [BitVec.toNat_ofNat, List.mem_range] at low hi hj
  omega

/-- Fuel beyond the number of pages finds the next free id. -/
theorem nextPageId_nextFree (held : List Half) (few : held.length ≤ 32) (counter : Half) :
    nextFree held counter (nextPageId held 33 counter) := by
  obtain ⟨k, le, eq, passed, free⟩ := nextPageId_search held 33 counter
  have bound : k ≤ held.length := by
    have sub : ((List.range k).map fun j => counter + 1 + BitVec.ofNat 16 j) ⊆ held := by
      intro x mem
      obtain ⟨j, less, rfl⟩ := List.mem_map.mp mem
      exact passed j (List.mem_range.mp less)
    simpa using (List.subperm_of_subset (nodup_ids (counter + 1) (by omega)) sub).length_le
  exact ⟨k, bound, eq, free (by omega), passed⟩

/-! ## A page joins the queue, and the worst page leaves it (R159, R161) -/

theorem joinQueue_joins (page : Page) (queue : List Page) : joins page queue (joinQueue page queue) := by
  induction queue with
  | nil => exact ⟨[], [], rfl, rfl, by simp, by simp⟩
  | cons first rest ih =>
    unfold joinQueue
    split
    · next ahead =>
      obtain ⟨front, behind, before, after, urgent, less⟩ := ih
      refine ⟨first :: front, behind, by simp [before], by simp [after], ?_, less⟩
      simpa [ahead] using urgent
    · next behind => exact ⟨[], first :: rest, rfl, rfl, by simp, by simpa using behind⟩

theorem worstQueued_none {queue : List Page} (none_queued : ∀ q ∈ queue, q.state ≠ .queued) :
    worstQueued queue = none := by
  induction queue with
  | nil => rfl
  | cons first rest ih =>
    simp [worstQueued, ih fun q mem => none_queued q (List.mem_cons_of_mem _ mem), none_queued first List.mem_cons_self]

/-- The worst page is the last one queued. -/
theorem worstQueued_of_last (ahead : List Page) {worst : Page} {rest : List Page} (queued : worst.state = .queued)
    (last : ∀ q ∈ rest, q.state ≠ .queued) : worstQueued (ahead ++ worst :: rest) = some worst := by
  induction ahead with
  | nil => simp [worstQueued, worstQueued_none last, queued]
  | cons first front ih => simp [worstQueued, ih]

/-- Under an id of its own, the page removed is the one meant. -/
theorem removePage_of_nodup (ahead : List Page) (worst : Page) (rest : List Page)
    (ids : ((ahead ++ worst :: rest).map Page.id).Nodup) :
    removePage worst.id (ahead ++ worst :: rest) = ahead ++ rest := by
  simp only [List.map_append, List.map_cons, List.nodup_append, List.nodup_cons, List.mem_map, List.mem_cons] at ids
  obtain ⟨-, ⟨own, -⟩, apart⟩ := ids
  have front : removePage worst.id ahead = ahead := List.filter_eq_self.mpr fun q mem => by
    simpa using apart q.id ⟨q, mem, rfl⟩ worst.id (Or.inl rfl)
  have back : removePage worst.id rest = rest := List.filter_eq_self.mpr fun q mem => by
    simpa using fun same => own ⟨q, mem, same⟩
  have gone : removePage worst.id (worst :: rest) = removePage worst.id rest := by simp [removePage]
  calc removePage worst.id (ahead ++ worst :: rest)
      = removePage worst.id ahead ++ removePage worst.id (worst :: rest) := List.filter_append ..
    _ = ahead ++ rest := by rw [front, gone, back]

/-- In a queue in order of priority no page queued behind the worst one is as urgent. -/
theorem PagesKept.none_queued_behind {g : Pager} (kept : PagesKept g) {ahead rest : List Page} {worst : Page}
    (queue : g.queue = ahead ++ worst :: rest)
    (less : ∀ q ∈ rest, q.state = .queued → q.priority < worst.priority) : ∀ q ∈ rest, q.state ≠ .queued := by
  have order := kept.order
  rw [queue, List.pairwise_append] at order
  obtain ⟨-, back, -⟩ := order
  intro q mem queued
  exact absurd (less q mem queued) (not_lt.mpr ((List.pairwise_cons.mp back).1 q mem))

/-! ## A page created (R160, R161) -/

/-- The id that the next page takes. -/
def Pager.nextId (g : Pager) : Half := nextPageId (g.queue.map Page.id) 33 g.pageCounter

section Creation

variable (d : Desk) (now : Word) (source : Source) (route : Route) (param : Half)

/-- A queue with room takes the page. -/
theorem Desk.createPage_room (group : Fin 8) (priority : Fin 4) (code : Byte) (room : d.pager.queue.length < 32) :
    (d.createPage now source group priority code param).pager = { d.pager with
      pageCounter := d.pager.nextId
      queue := joinQueue (newPage d.pager.nextId source group priority code param) d.pager.queue } := by
  unfold Desk.createPage
  dsimp only
  rw [if_pos room]
  rfl

/-- A full queue drops the new page where its worst page is no less urgent, or none is queued. -/
theorem Desk.createPage_refused (group : Fin 8) (priority : Fin 4) (code : Byte) (full : ¬ d.pager.queue.length < 32)
    (noWorse : ∀ worst, worstQueued d.pager.queue = some worst → ¬ priority < worst.priority) :
    (d.createPage now source group priority code param).pager = { d.pager with
      pageCounter := d.pager.nextId
      outcomes := appendOutcome
        { id := d.pager.nextId, source, outcome := .dropped, pager := none, uptime := now } d.pager.outcomes } := by
  unfold Desk.createPage
  dsimp only
  rw [if_neg full]
  split
  · next worst found =>
    rw [if_neg (noWorse worst found)]
    rfl
  · rfl

/-- A full queue drops its worst page for a more urgent one. -/
theorem Desk.createPage_drops (group : Fin 8) (priority : Fin 4) (code : Byte) (full : ¬ d.pager.queue.length < 32)
    {worst : Page} (found : worstQueued d.pager.queue = some worst) (worse : priority < worst.priority) :
    (d.createPage now source group priority code param).pager = { d.pager with
      pageCounter := d.pager.nextId
      queue := joinQueue (newPage d.pager.nextId source group priority code param)
        (removePage worst.id d.pager.queue)
      outcomes := appendOutcome
        { id := worst.id, source := worst.source, outcome := .dropped, pager := none, uptime := now }
        d.pager.outcomes } := by
  unfold Desk.createPage
  dsimp only
  rw [if_neg full, found]
  dsimp only
  rw [if_pos worse]
  rfl

/-- What a route makes of a source's occurrence. -/
theorem Desk.createPage_created :
    created now source route param d.pager
      (d.createPage now source route.group route.priority route.code param).pager := by
  intro few
  refine ⟨d.pager.nextId, nextPageId_nextFree _ (by simpa using few) _, fun room => ?_, fun full noWorse => ?_,
    fun full kept ahead behind split_at worst rest behind_eq queued worse _ less => ?_⟩
  · rw [d.createPage_room now source param _ _ _ room]
    exact ⟨rfl, joinQueue_joins _ _⟩
  · refine d.createPage_refused now source param _ _ _ (by omega) fun worst found => ?_
    obtain ⟨mem, queued⟩ := worstQueued_some _ _ found
    exact not_lt.mpr (noWorse worst mem queued)
  · rw [behind_eq] at split_at
    have found : worstQueued d.pager.queue = some worst := by
      rw [split_at]
      exact worstQueued_of_last ahead queued (kept.none_queued_behind split_at less)
    have left : removePage worst.id d.pager.queue = ahead ++ rest := by
      rw [split_at]
      exact removePage_of_nodup ahead worst rest (split_at ▸ kept.ids)
    have urgent : route.priority < worst.priority := worse
    rw [d.createPage_drops now source param _ _ _ (by omega) found urgent, left]
    exact ⟨rfl, joinQueue_joins _ _⟩

variable {kind : Fin 16} (routed : routeOf source = some kind)
include routed

/-- A trigger makes nothing where the route of its kind is disabled. -/
theorem Desk.triggerCore_of_disabled (off : (d.pager.routes.get kind).enabled = false) :
    d.triggerCore now source param = d := by
  simp [Desk.triggerCore, routed, off]

/-- A trigger of a source that has a page sets its latch. -/
theorem Desk.triggerCore_of_held (on : (d.pager.routes.get kind).enabled = true) {page : Page}
    (held : findSource source d.pager.queue = some page) :
    d.triggerCore now source param = d.updatePage page.id fun q => { q with latch := some param } := by
  simp [Desk.triggerCore, routed, on, held]

/-- A trigger of a source that has no page makes one. -/
theorem Desk.triggerCore_of_new (on : (d.pager.routes.get kind).enabled = true)
    (new : findSource source d.pager.queue = none) :
    d.triggerCore now source param =
      d.createPage now source (d.pager.routes.get kind).group (d.pager.routes.get kind).priority
        (d.pager.routes.get kind).code param := by
  simp [Desk.triggerCore, Desk.createRouted, routed, on, new]

/-- What a trigger makes of the page queue, before the arbiter is judged. -/
theorem Desk.triggerCore_triggered :
    triggered now source kind param d.pager (d.triggerCore now source param).pager := by
  refine ⟨fun off => ?_, fun on page held => ?_, fun on none_held => ?_⟩
  · rw [d.triggerCore_of_disabled now source param routed off]
  · rw [d.triggerCore_of_held now source param routed on held]
    rfl
  · have new : findSource source d.pager.queue = none := by simpa [findSource] using none_held
    rw [d.triggerCore_of_new now source param routed on new]
    exact d.createPage_created now source _ param

end Creation

end Sys2Proof.Machine
end

section
/-!
The radio arbiter judges by the pager controller alone, and of the condition table by whether PAGE_UNANSWERED may occur,
which a slot of an event kind always may. So a raise on an idle port does what its trigger does while the port is busy,
and then what the end of a back-off wait does (R164, R165, R167).
-/

namespace Sys2Proof.Machine

/-! ## What triggers and terminal outcomes leave alone -/

section Kept

variable (d : Desk) (now : Word)

@[simp] theorem Desk.createPage_conds (source : Source) (group : Fin 8) (priority : Fin 4) (code : Byte) (param : Half) :
    (d.createPage now source group priority code param).conds = d.conds := by
  unfold Desk.createPage
  dsimp only
  split
  · rfl
  · split
    · split <;> rfl
    · rfl

/-- A page created changes the queue, the outcomes and the page counter of the pager controller. -/
theorem Desk.createPage_pager (source : Source) (group : Fin 8) (priority : Fin 4) (code : Byte) (param : Half) :
    ∃ queue outcomes counter, (d.createPage now source group priority code param).pager =
      { d.pager with queue, outcomes, pageCounter := counter } := by
  unfold Desk.createPage
  dsimp only
  split
  · exact ⟨_, _, _, rfl⟩
  · split
    · split <;> exact ⟨_, _, _, rfl⟩
    · exact ⟨_, _, _, rfl⟩

@[simp] theorem Desk.createRouted_conds (source : Source) (param : Half) :
    (d.createRouted now source param).conds = d.conds := by
  unfold Desk.createRouted
  split
  · rfl
  · dsimp only
    split
    · exact d.createPage_conds now _ _ _ _ _
    · rfl

theorem Desk.createRouted_pager (source : Source) (param : Half) :
    ∃ queue outcomes counter, (d.createRouted now source param).pager =
      { d.pager with queue, outcomes, pageCounter := counter } := by
  unfold Desk.createRouted
  split
  · exact ⟨_, _, _, rfl⟩
  · dsimp only
    split
    · exact d.createPage_pager now _ _ _ _ _
    · exact ⟨_, _, _, rfl⟩

@[simp] theorem Desk.triggerCore_conds (source : Source) (param : Half) :
    (d.triggerCore now source param).conds = d.conds := by
  unfold Desk.triggerCore
  split
  · rfl
  · split
    · split
      · rfl
      · exact d.createRouted_conds now _ _
    · rfl

theorem Desk.triggerCore_pager (source : Source) (param : Half) :
    ∃ queue outcomes counter, (d.triggerCore now source param).pager =
      { d.pager with queue, outcomes, pageCounter := counter } := by
  unfold Desk.triggerCore
  split
  · exact ⟨_, _, _, rfl⟩
  · split
    · split
      · exact ⟨_, _, _, rfl⟩
      · exact d.createRouted_pager now _ _
    · exact ⟨_, _, _, rfl⟩

@[simp] theorem Desk.finish_conds (page : Page) (outcome : PageOutcome) (answerer : Option (Fin 64)) :
    (d.finish now page outcome answerer).conds = d.conds := by
  unfold Desk.finish
  dsimp only
  split
  · rfl
  · exact Desk.createRouted_conds _ now _ _

end Kept

/-! ## The pager controller judges by itself -/

section Congruence

variable {d e : Desk} (now : Word) (same : e.pager = d.pager)
include same

theorem Desk.createPage_congr (source : Source) (group : Fin 8) (priority : Fin 4) (code : Byte) (param : Half) :
    (e.createPage now source group priority code param).pager =
      (d.createPage now source group priority code param).pager := by
  by_cases room : d.pager.queue.length < 32
  · rw [d.createPage_room now source param _ _ _ room, e.createPage_room now source param _ _ _ (same ▸ room), same]
  · by_cases worse : ∃ worst, worstQueued d.pager.queue = some worst ∧ priority < worst.priority
    · obtain ⟨worst, found, less⟩ := worse
      rw [d.createPage_drops now source param _ _ _ room found less,
        e.createPage_drops now source param _ _ _ (same ▸ room) (same ▸ found) less, same]
    · have noWorse (worst : Page) (found : worstQueued d.pager.queue = some worst) : ¬ priority < worst.priority :=
        fun less => worse ⟨worst, found, less⟩
      rw [d.createPage_refused now source param _ _ _ room noWorse,
        e.createPage_refused now source param _ _ _ (same ▸ room) (same ▸ noWorse), same]

theorem Desk.createRouted_congr (source : Source) (param : Half) :
    (e.createRouted now source param).pager = (d.createRouted now source param).pager := by
  unfold Desk.createRouted
  split
  · exact same
  · dsimp only
    rw [same]
    split
    · exact Desk.createPage_congr now same _ _ _ _ _
    · exact same

theorem Desk.updatePage_congr (id : Half) (f : Page → Page) : (e.updatePage id f).pager = (d.updatePage id f).pager :=
  congrArg (fun g : Pager => { g with queue := Machine.updatePage id f g.queue }) same

theorem Desk.triggerCore_congr (source : Source) (param : Half) :
    (e.triggerCore now source param).pager = (d.triggerCore now source param).pager := by
  unfold Desk.triggerCore
  split
  · exact same
  · rw [same]
    split
    · split
      · exact Desk.updatePage_congr same _ _
      · exact Desk.createRouted_congr now same _ _
    · exact same

theorem Desk.finish_congr (page : Page) (outcome : PageOutcome) (answerer : Option (Fin 64)) :
    (e.finish now page outcome answerer).pager = (d.finish now page outcome answerer).pager := by
  have gone (r : OutcomeRecord) :
      ((e.record r).onPager fun g => { g with queue := removePage page.id g.queue }).pager =
        ((d.record r).onPager fun g => { g with queue := removePage page.id g.queue }).pager := by
    simp [Desk.record, same]
  unfold Desk.finish
  dsimp only
  split
  · exact gone _
  · exact Desk.createRouted_congr now (gone _) _ _

theorem Desk.send?_congr (page : Page) : (e.send? page).map Desk.pager = (d.send? page).map Desk.pager := by
  unfold Desk.send?
  rw [same]
  split
  · split
    · rfl
    · simp [Desk.transmitAll, Desk.transmit, same]
  · split
    · rfl
    · simp [Desk.transmitTo, Desk.transmit, same]

end Congruence

/-! ## The arbiter -/

/-- Two desks with the same pager controller, on both of which PAGE_UNANSWERED may occur. -/
structure PagesAlike (d e : Desk) : Prop where
  pager : e.pager = d.pager
  left : (d.conds.get unansweredSlot).occurs = true
  right : (e.conds.get unansweredSlot).occurs = true

/-- A slot that is raised and returned may occur again. -/
theorem Slot.occurs_ret (c : Slot) : c.ret.occurs = true := by
  obtain ⟨state, count, first, last, param⟩ := c
  cases state <;> rfl

namespace PagesAlike

variable {d e : Desk} (now : Word)

section Operations

variable (h : PagesAlike d e)
include h

theorem finish (page : Page) (outcome : PageOutcome) (answerer : Option (Fin 64)) :
    PagesAlike (d.finish now page outcome answerer) (e.finish now page outcome answerer) :=
  ⟨Desk.finish_congr now h.pager _ _ _, by simpa using h.left, by simpa using h.right⟩

theorem raiseUnanswered (param : Half) :
    PagesAlike (d.raiseCore now unansweredSlot param) (e.raiseCore now unansweredSlot param) := by
  have isEvent : isEventKind unansweredSlot = true := by decide
  unfold Desk.raiseCore
  simp only [h.left, h.right, isEvent, if_true]
  refine ⟨Desk.triggerCore_congr now (by simpa using h.pager) _ _, ?_, ?_⟩ <;> simp [Slot.occurs_ret]

theorem endUnanswered (page : Page) (outcome : PageOutcome) :
    PagesAlike (d.endUnanswered now page outcome) (e.endUnanswered now page outcome) := by
  unfold Desk.endUnanswered
  dsimp only
  split
  · exact h.finish now _ _ _
  · exact (h.finish now _ _ _).raiseUnanswered now _

theorem escalateOrEnd (page : Page) (outcome : PageOutcome) :
    PagesAlike (d.escalateOrEnd now page outcome) (e.escalateOrEnd now page outcome) := by
  unfold Desk.escalateOrEnd
  rw [h.pager]
  split
  · exact ⟨Desk.updatePage_congr h.pager _ _, h.left, h.right⟩
  · exact h.endUnanswered now _ _

end Operations

/-- The pages that are sent, moved and ended are the same. -/
theorem arbitrate {d e : Desk} (h : PagesAlike d e) (fuel : Nat) :
    (Machine.arbitrate now fuel e).pager = (Machine.arbitrate now fuel d).pager := by
  induction fuel generalizing d e with
  | zero => exact h.pager
  | succ fuel ih =>
    unfold Machine.arbitrate
    rw [h.pager]
    split
    · split
      · exact h.pager
      · next page _ =>
        have sends := Desk.send?_congr h.pager page
        cases left : d.send? page with
        | none =>
          have right : e.send? page = none := by simpa [left] using sends
          rw [right]
          exact ih (h.escalateOrEnd now _ _)
        | some sent =>
          rw [left] at sends
          obtain ⟨other, right, same⟩ := Option.map_eq_some_iff.mp sends
          rw [right]
          exact same
    all_goals exact h.pager

theorem arbiter (h : PagesAlike d e) : (e.arbiter now).pager = (d.arbiter now).pager := h.arbitrate now 300

end PagesAlike

end Sys2Proof.Machine
end

section
/-!
A raise, as the pager controller takes it: a trigger, and on an idle port the arbiter behind it.
-/

namespace Sys2Proof.Machine

/-! ## The port -/

section Port

variable (d : Desk) (now : Word)

@[simp] theorem Desk.setPort_pager (port : Port) : (d.setPort port).pager = { d.pager with port } := rfl

/-- Pages are made whatever the port does. -/
theorem Desk.createPage_setPort (port : Port) (source : Source) (group : Fin 8) (priority : Fin 4) (code : Byte)
    (param : Half) :
    ((d.setPort port).createPage now source group priority code param).pager =
      { (d.createPage now source group priority code param).pager with port } := by
  by_cases room : d.pager.queue.length < 32
  · rw [d.createPage_room now source param _ _ _ room, (d.setPort port).createPage_room now source param _ _ _ room]
    rfl
  · by_cases worse : ∃ worst, worstQueued d.pager.queue = some worst ∧ priority < worst.priority
    · obtain ⟨worst, found, less⟩ := worse
      rw [d.createPage_drops now source param _ _ _ room found less,
        (d.setPort port).createPage_drops now source param _ _ _ room found less]
      rfl
    · have noWorse (worst : Page) (found : worstQueued d.pager.queue = some worst) : ¬ priority < worst.priority :=
        fun less => worse ⟨worst, found, less⟩
      rw [d.createPage_refused now source param _ _ _ room noWorse,
        (d.setPort port).createPage_refused now source param _ _ _ room noWorse]
      rfl

theorem Desk.triggerCore_setPort (port : Port) (source : Source) (param : Half) {kind : Fin 16}
    (routed : routeOf source = some kind) :
    ((d.setPort port).triggerCore now source param).pager = { (d.triggerCore now source param).pager with port } := by
  cases on : (d.pager.routes.get kind).enabled with
  | false =>
    rw [d.triggerCore_of_disabled now source param routed on,
      (d.setPort port).triggerCore_of_disabled now source param routed on]
    rfl
  | true =>
    cases held : findSource source d.pager.queue with
    | some page =>
      rw [d.triggerCore_of_held now source param routed on held,
        (d.setPort port).triggerCore_of_held now source param routed on held]
      rfl
    | none =>
      rw [d.triggerCore_of_new now source param routed on held,
        (d.setPort port).triggerCore_of_new now source param routed on held]
      exact d.createPage_setPort now port _ _ _ _ _

theorem Desk.triggerCore_port (source : Source) (param : Half) :
    (d.triggerCore now source param).pager.port = d.pager.port := by
  obtain ⟨queue, outcomes, counter, pager⟩ := d.triggerCore_pager now source param
  rw [pager]

/-- The arbiter waits for the port (R164). -/
theorem arbitrate_of_busy (fuel : Nat) (busy : d.pager.port ≠ .idle) : arbitrate now fuel d = d := by
  cases fuel with
  | zero => rfl
  | succ fuel =>
    unfold arbitrate
    split
    · next idle => exact absurd idle busy
    all_goals rfl

end Port

/-! ## What the arbiter leaves alone -/

section Arbiter

variable {d : Desk} (now : Word)

/-- A desk whose directory is that given, and on which PAGE_UNANSWERED may occur. -/
structure Desk.Sends (directory : Table PagerEntry 64) (d : Desk) : Prop where
  directory : d.pager.directory = directory
  occurs : (d.conds.get unansweredSlot).occurs = true

namespace Desk.Sends

variable {directory : Table PagerEntry 64} {d : Desk} (h : d.Sends directory)
include h

theorem createRouted (source : Source) (param : Half) : (d.createRouted now source param).Sends directory := by
  obtain ⟨queue, outcomes, counter, pager⟩ := d.createRouted_pager now source param
  exact ⟨by simpa [pager] using h.directory, by simpa using h.occurs⟩

theorem triggerCore (source : Source) (param : Half) : (d.triggerCore now source param).Sends directory := by
  obtain ⟨queue, outcomes, counter, pager⟩ := d.triggerCore_pager now source param
  exact ⟨by simpa [pager] using h.directory, by simpa using h.occurs⟩

theorem raiseCore (slot : Fin 87) (param : Half) :
    (d.raiseCore now slot param).Sends directory := by
  have raised : (d.setSlot slot (if isEventKind slot then ((d.conds.get slot).raise now param).ret
      else (d.conds.get slot).raise now param)).Sends directory := by
    refine ⟨by simpa using h.directory, ?_⟩
    rw [Desk.setSlot_conds]
    by_cases same : slot = unansweredSlot
    · have isEvent : isEventKind unansweredSlot = true := by decide
      simp [same, isEvent, Slot.occurs_ret]
    · rw [Table.get_set_ne _ _ (Ne.symm same)]
      exact h.occurs
  unfold Desk.raiseCore
  dsimp only
  split
  · exact raised.triggerCore now _ _
  · exact raised

theorem finish (page : Page) (outcome : PageOutcome) (answerer : Option (Fin 64)) :
    (d.finish now page outcome answerer).Sends directory := by
  have gone (r : OutcomeRecord) :
      ((d.record r).onPager fun g => { g with queue := removePage page.id g.queue }).Sends directory :=
    ⟨h.directory, h.occurs⟩
  unfold Desk.finish
  dsimp only
  split
  · exact gone _
  · exact (gone _).createRouted now _ _

theorem escalateOrEnd (page : Page) (outcome : PageOutcome) : (d.escalateOrEnd now page outcome).Sends directory := by
  unfold Desk.escalateOrEnd
  split
  · exact ⟨h.directory, h.occurs⟩
  · unfold Desk.endUnanswered
    dsimp only
    split
    · exact h.finish now _ _ _
    · exact (h.finish now _ _ _).raiseCore now _ _

theorem send? (page : Page) {sent : Desk} (sends : d.send? page = some sent) : sent.Sends directory := by
  unfold Desk.send? at sends
  split at sends
  · split at sends
    · cases sends
    · cases sends
      exact ⟨h.directory, h.occurs⟩
  · split at sends
    · cases sends
    · cases sends
      exact ⟨h.directory, h.occurs⟩

omit h in
theorem arbitrate {d : Desk} (h : d.Sends directory) (fuel : Nat) : (Machine.arbitrate now fuel d).Sends directory := by
  induction fuel generalizing d with
  | zero => exact h
  | succ fuel ih =>
    unfold Machine.arbitrate
    split
    · split
      · exact h
      · next page _ =>
        split
        · next sent sends => exact h.send? page sends
        · exact ih (h.escalateOrEnd now _ _)
    all_goals exact h

theorem raise (slot : Fin 87) (param : Half) : (d.raise now slot param).Sends directory :=
  arbitrate now (h.raiseCore now slot param) 300

end Desk.Sends

end Arbiter

/-! ## A raise at the end of a warm restart -/

/-- The trigger of a raise that is an occurrence (R147). -/
theorem Desk.raiseCore_pager (d : Desk) (now : Word) (slot : Fin 87) (param : Half)
    (occurs : (d.conds.get slot).occurs = true) :
    (d.raiseCore now slot param).pager = (d.triggerCore now (.slot slot) param).pager := by
  unfold Desk.raiseCore
  simp only [occurs, if_true]
  exact Desk.triggerCore_congr now (by simp) _ _

/-- At the end of a back-off wait the arbiter is judged on the queue that stands (R167). -/
theorem exec_backoffEnd_waiting (t : State) (g : Pager) (idle : g.port = .idle) {d : Desk} (same : d.pager = g)
    (left : (d.conds.get unansweredSlot).occurs = true) (right : (t.part.desk.conds.get unansweredSlot).occurs = true) :
    ∃ u, exec .backoffEnd { t with part := withPager t { g with port := .waiting } } = .next u ∧
      (d.arbiter t.part.uptime).pager = u.pager := by
  refine ⟨_, rfl, ?_⟩
  have ready : ({ g with port := .idle } : Pager) = d.pager := by rw [same, ← idle]
  have alike : PagesAlike d { t.part.desk with pager := { g with port := .idle } } := ⟨ready, left, right⟩
  exact (alike.arbiter t.part.uptime).symm

/-- A raise of a slot that is an occurrence does what its trigger does, and on an idle port what the end of a back-off
wait then does (R160, R164). -/
theorem Desk.raise_raisedAgain (d : Desk) (t : State) (slot : Fin 87) {kind : Fin 16} (routed : slotKind slot = kind)
    (occurs : (d.conds.get slot).occurs = true)
    (left : (d.conds.get unansweredSlot).occurs = true) (right : (t.part.desk.conds.get unansweredSlot).occurs = true) :
    raisedAgain true slot kind t d.pager (d.raise t.part.uptime slot 0).pager := by
  have route : routeOf (.slot slot) = some kind := by rw [← routed]; rfl
  have trigger := d.raiseCore_pager t.part.uptime slot 0 occurs
  refine ⟨fun h => absurd h (by simp), fun _ busy => ?_, fun _ idle => ?_⟩
  · have stays : (d.raiseCore t.part.uptime slot 0).pager.port ≠ .idle := by
      rw [trigger, Desk.triggerCore_port]
      exact busy
    rw [Desk.raise, Desk.arbiter, arbitrate_of_busy _ _ _ stays, trigger]
    exact d.triggerCore_triggered _ _ _ route
  · have idleStill : (d.triggerCore t.part.uptime (.slot slot) 0).pager.port = .idle := by
      rw [Desk.triggerCore_port]
      exact idle
    refine ⟨{ (d.triggerCore t.part.uptime (.slot slot) 0).pager with port := .waiting }, ?_, ?_⟩
    · have waiting := (d.setPort .waiting).triggerCore_triggered t.part.uptime (.slot slot) 0 route
      rwa [d.triggerCore_setPort t.part.uptime .waiting (.slot slot) 0 route] at waiting
    · have sends := Desk.Sends.raiseCore t.part.uptime ⟨rfl, left⟩ slot 0
      exact exec_backoffEnd_waiting t _ idleStill trigger sends.occurs right

theorem raisedAgain_false (slot : Fin 87) (kind : Fin 16) (t : State) (g : Pager) :
    raisedAgain false slot kind t g g :=
  ⟨fun _ => rfl, fun h => absurd h (by simp), fun h => absurd h (by simp)⟩

end Sys2Proof.Machine
end

section
/-!
A warm restart, block by block: the measurement table, the loops and the feeder allocator (R16, R42, R61).
-/

namespace Sys2Proof.Machine

/-! ## Work done at each index in turn -/

/-- A value that no turn changes. -/
theorem foldl_kept {α β γ : Type} (get : β → γ) (act : β → α → β) (kept : ∀ q a, get (act q a) = get q) (items : List α)
    (p : β) : get (items.foldl act p) = get p := by
  induction items generalizing p with
  | nil => rfl
  | cons a rest ih => exact (ih _).trans (kept p a)

/-- Where each turn changes the record at its own index alone, every record is changed once. -/
theorem foldl_finRange_get {β γ : Type} {k : Nat} (get : β → Fin k → γ) (act : β → Fin k → β) (f : Fin k → γ → γ)
    (own : ∀ q n, get (act q n) n = f n (get q n)) (others : ∀ q n m, m ≠ n → get (act q n) m = get q m) (p : β)
    (m : Fin k) : get ((List.finRange k).foldl act p) m = f m (get p m) := by
  have each (items : List (Fin k)) (once : items.Nodup) (p : β) :
      get (items.foldl act p) m = if m ∈ items then f m (get p m) else get p m := by
    induction items generalizing p with
    | nil => rfl
    | cons n rest ih =>
      obtain ⟨new, once⟩ := List.nodup_cons.mp once
      rw [List.foldl_cons, ih once]
      by_cases same : m = n
      · subst same
        simp [new, own]
      · simp [same, others p n m same]
  simpa using each _ (List.nodup_finRange k) p

/-! ## The measurement table (R16) -/

section Blocks

variable (p : Part)

@[simp] theorem Part.restartProbe_entries (ch : Fin 23) :
    p.restartProbe.scan.entries.get ch = (p.scan.entries.get ch).restarted := by
  refine foldl_finRange_get (fun q ch => q.scan.entries.get ch) _ (fun _ e => e.restarted) (fun q n => ?_)
    (fun q n m other => ?_) p ch
  · dsimp only
    split <;> simp
  · dsimp only
    split <;> simp [Table.get_set_ne _ _ other]

@[simp] theorem Part.restartProbe_next : p.restartProbe.scan.next = p.scan.next := by
  unfold Part.restartProbe
  exact foldl_kept (fun q : Part => q.scan.next) _ (fun q n => by dsimp only; split <;> simp) _ p

@[simp] theorem Part.restartProbe_select : p.restartProbe.scan.select = p.scan.select := by
  unfold Part.restartProbe
  exact foldl_kept (fun q : Part => q.scan.select) _ (fun q n => by dsimp only; split <;> simp) _ p

/-! ## The loops (R42) -/

@[simp] theorem Part.restartLoops_loops (n : Fin 16) :
    p.restartLoops.loops.get n = (p.loops.get n).restarted := by
  rw [Part.restartLoops, Reports.foldl_mark_loops]
  exact Table.get_map _ _ _

/-! ## The feeder allocator (R61) -/

/-- Heaters replaced one by one by a function of each. -/
theorem Part.eachHeater_heaters (f : Heater → Heater) (n : Fin 16) :
    (p.eachHeater fun n q => q.setHeater n (f (q.feeder.heaters.get n))).feeder.heaters.get n =
      f (p.feeder.heaters.get n) :=
  foldl_finRange_get (fun q n => q.feeder.heaters.get n) _ (fun _ => f) (fun q n => by simp)
    (fun q n m other => by simp [Table.get_set_ne _ _ other]) p n

/-- Nothing else of the allocator changes with them. -/
theorem Part.eachHeater_feeder (f : Heater → Heater) :
    ∃ heaters, (p.eachHeater fun n q => q.setHeater n (f (q.feeder.heaters.get n))).feeder =
      { p.feeder with heaters } := by
  have kept := foldl_kept (fun q : Part => { q.feeder with heaters := p.feeder.heaters })
    (fun q n => q.setHeater n (f (q.feeder.heaters.get n))) (fun q n => by simp) (List.finRange 16) p
  exact ⟨_, congrArg (fun g : Feeder => { g with
    heaters := (p.eachHeater fun n q => q.setHeater n (f (q.feeder.heaters.get n))).feeder.heaters }) kept⟩

@[simp] theorem Part.eachHeater_interlock (f : Heater → Heater) :
    (p.eachHeater fun n q => q.setHeater n (f (q.feeder.heaters.get n))).interlock = p.interlock :=
  foldl_kept Part.interlock (fun q n => q.setHeater n (f (q.feeder.heaters.get n))) (fun q n => by simp) _ p

theorem Part.cutGrants_heaters (n : Fin 16) : p.cutGrants.feeder.heaters.get n = (p.feeder.heaters.get n).cut := by
  dsimp only [Part.cutGrants]
  exact p.eachHeater_heaters Heater.cut n

theorem Part.cutGrants_feeder :
    ∃ heaters, p.cutGrants.feeder = { p.feeder with heaters, grantedTotal := 0, deliveredTotal := 0 } := by
  obtain ⟨heaters, feeder⟩ := p.eachHeater_feeder Heater.cut
  dsimp only [Part.cutGrants]
  rw [feeder]
  exact ⟨heaters, rfl⟩

/-- The starvation of a heater cleared. -/
def Heater.fed (a : Heater) : Heater := { a with starve := 0, starved := false }

theorem Part.restartFeeder_eq :
    p.restartFeeder =
      let cleared := p.cutGrants.eachHeater fun n q => q.setHeater n (q.feeder.heaters.get n).fed
      { cleared with feeder := { cleared.feeder with pending := false } }.judgeReducedAck := by
  simp only [Part.restartFeeder, Heater.fed]

@[simp] theorem Part.restartFeeder_heaters (n : Fin 16) :
    p.restartFeeder.feeder.heaters.get n = (p.feeder.heaters.get n).cut.fed := by
  rw [p.restartFeeder_eq]
  dsimp only [Part.judgeReducedAck]
  exact (p.cutGrants.eachHeater_heaters Heater.fed n).trans (congrArg Heater.fed (p.cutGrants_heaters n))

theorem Part.restartFeeder_feeder :
    ∃ heaters, p.restartFeeder.feeder = { p.feeder with
      heaters, grantedTotal := 0, deliveredTotal := 0, pending := false
      reducedAck := p.asserted .feederReduce && decide (p.feeder.applied = p.feeder.reduced) } := by
  obtain ⟨late, cut⟩ := p.cutGrants_feeder
  obtain ⟨heaters, cleared⟩ := p.cutGrants.eachHeater_feeder Heater.fed
  have line : p.cutGrants.interlock = p.interlock := (p.cutGrants_works []).moves.touches.interlock rfl
  rw [p.restartFeeder_eq]
  simp only [Part.judgeReducedAck, Part.asserted, Part.eachHeater_interlock, line, cleared, cut]
  exact ⟨heaters, rfl⟩

end Blocks

end Sys2Proof.Machine
end

section
/-!
A warm restart, block by block: the ovens, the cabinets and the waves, with the class notices that cabinets and waves
send (R80, R99, R143, R44).
-/

namespace Sys2Proof.Machine

/-! ## Class and valve notices at the allocator (R44, R49) -/

/-- Of the allocator only classes and locks of heaters have changed. -/
structure NoticesOnly (p q : Part) : Prop where
  feeder : q.feeder = { p.feeder with heaters := q.feeder.heaters }
  heater : ∀ n, q.feeder.heaters.get n = { p.feeder.heaters.get n with
    cls := (q.feeder.heaters.get n).cls, locked := (q.feeder.heaters.get n).locked }

namespace NoticesOnly

variable {p q r : Part}

/-- What leaves the allocator alone. -/
theorem ofSame (same : q.feeder = p.feeder) : NoticesOnly p q := ⟨by rw [same], fun n => by rw [same]⟩

theorem trans (h : NoticesOnly p q) (k : NoticesOnly q r) : NoticesOnly p r :=
  ⟨by rw [k.feeder, h.feeder], fun n => by rw [k.heater n, h.heater n]⟩

theorem setHeater (p : Part) (n : Fin 16) (c : HeaterClass) (l : Bool) :
    NoticesOnly p (p.setHeater n { p.feeder.heaters.get n with cls := c, locked := l }) := by
  refine ⟨by simp, fun m => ?_⟩
  by_cases same : m = n
  · subst same
    simp
  · simp [Table.get_set_ne _ _ same]

theorem foldl {α : Type} {act : Part → α → Part} (each : ∀ q a, NoticesOnly q (act q a)) (items : List α) (p : Part) :
    NoticesOnly p (items.foldl act p) := by
  induction items generalizing p with
  | nil => exact ofSame rfl
  | cons a rest ih => exact (each p a).trans (ih _)

end NoticesOnly

section Notices

variable (p : Part)

theorem Part.classNotice_notices (n : Fin 16) (c : HeaterClass) : NoticesOnly p (p.classNotice n c) :=
  NoticesOnly.setHeater p n c _

theorem Part.classNotice_cls (n m : Fin 16) (c : HeaterClass) :
    ((p.classNotice n c).feeder.heaters.get m).cls = if m = n then c else (p.feeder.heaters.get m).cls := by
  simp only [Part.classNotice, Part.setHeater_feeder, Table.get_set]
  split <;> rfl

theorem Part.classNotice_locked (n m : Fin 16) (c : HeaterClass) :
    ((p.classNotice n c).feeder.heaters.get m).locked = (p.feeder.heaters.get m).locked := by
  simp only [Part.classNotice, Part.setHeater_feeder, Table.get_set]
  split
  · next same => rw [same]
  · rfl

/-- The ovens listed take the class. -/
theorem Part.ovenClasses_cls (v : Wave) (c : HeaterClass) (n : Fin 6) :
    ((p.ovenClasses v c).feeder.heaters.get (ovenLoop n)).cls =
      if n ∈ v.ovens then c else (p.feeder.heaters.get (ovenLoop n)).cls := by
  unfold Part.ovenClasses
  induction v.ovens generalizing p with
  | nil => rfl
  | cons first rest ih =>
    have apart : ovenLoop n = ovenLoop first ↔ n = first := by simp [ovenLoop, Fin.ext_iff]
    rw [List.foldl_cons, ih, Part.classNotice_cls]
    simp only [apart, List.mem_cons]
    split
    · next mem => simp [mem]
    · next absent => simp [absent]

/-- Heaters of no oven keep their class. -/
theorem Part.ovenClasses_cls_other (v : Wave) (c : HeaterClass) (m : Fin 16) (other : ∀ n, m ≠ ovenLoop n) :
    ((p.ovenClasses v c).feeder.heaters.get m).cls = (p.feeder.heaters.get m).cls :=
  foldl_kept (fun q : Part => (q.feeder.heaters.get m).cls) _
    (fun q n => by rw [Part.classNotice_cls, if_neg (other n)]) _ p

theorem Part.ovenClasses_locked (v : Wave) (c : HeaterClass) (m : Fin 16) :
    ((p.ovenClasses v c).feeder.heaters.get m).locked = (p.feeder.heaters.get m).locked :=
  foldl_kept (fun q : Part => (q.feeder.heaters.get m).locked) _ (fun q _ => q.classNotice_locked _ _ _) _ p

theorem Part.ovenClasses_notices (v : Wave) (c : HeaterClass) : NoticesOnly p (p.ovenClasses v c) :=
  NoticesOnly.foldl (fun q _ => q.classNotice_notices _ _) _ p

end Notices

/-! ## The ovens (R80) -/

section Blocks

variable (p : Part)

@[simp] theorem Part.restartOvens_ovens (n : Fin 6) : p.restartOvens.ovens.get n = (p.ovens.get n).restarted := by
  unfold Part.restartOvens
  exact foldl_finRange_get (fun q n => q.ovens.get n)
    (fun q n => q.setOven n (q.ovens.get n).restarted) (fun _ o => o.restarted) (fun q n => by simp)
    (fun q n m other => by simp [Table.get_set_ne _ _ other]) p n

theorem Oven.restarted_eq (o : Oven) : o.restarted = { o with
    state := .idle, outcome := if o.state = .idle ∨ o.state = .finished then o.outcome else .aborted } := by
  unfold Oven.restarted
  cases o.state <;> simp

/-! ## The cabinets (R99) -/

theorem Part.restartCabinet_cabinets (n : Fin 8) :
    (p.restartCabinet n).cabinets =
      p.cabinets.set n { p.cabinets.get n with mode := .off, waveSlot := none, waveSet := false } := by
  unfold Part.restartCabinet
  dsimp only
  split <;> simp [Part.classNotice]

theorem Part.restartCabinet_notices (n : Fin 8) : NoticesOnly p (p.restartCabinet n) := by
  have set := NoticesOnly.ofSame (p.setCabinet_feeder n
    { p.cabinets.get n with mode := .off, waveSlot := none, waveSet := false })
  unfold Part.restartCabinet
  dsimp only
  split
  · exact set.trans (Part.classNotice_notices _ _ _)
  · exact set

theorem Part.restartCabinet_cls (n : Fin 8) (m : Fin 16) :
    ((p.restartCabinet n).feeder.heaters.get m).cls =
      if m = cabinetLoop n ∧ (p.cabinets.get n).mode = .service then .standby else (p.feeder.heaters.get m).cls := by
  unfold Part.restartCabinet
  dsimp only
  split
  · next service => simp [Part.classNotice_cls, service]
  · next other => simp [other]

theorem Part.restartCabinet_locked (n : Fin 8) (m : Fin 16) :
    ((p.restartCabinet n).feeder.heaters.get m).locked = (p.feeder.heaters.get m).locked := by
  unfold Part.restartCabinet
  dsimp only
  split
  · simp [Part.classNotice_locked]
  · simp

theorem cabinetLoop_inj (n m : Fin 8) : cabinetLoop n = cabinetLoop m ↔ n = m := by simp [cabinetLoop, Fin.ext_iff]

@[simp] theorem Part.restartCabinets_cabinets (n : Fin 8) :
    p.restartCabinets.cabinets.get n =
      { p.cabinets.get n with mode := .off, waveSlot := none, waveSet := false } := by
  unfold Part.restartCabinets
  exact foldl_finRange_get (fun q n => q.cabinets.get n) (fun q n => q.restartCabinet n)
    (fun _ c => { c with mode := .off, waveSlot := none, waveSet := false })
    (fun q n => by simp [Part.restartCabinet_cabinets])
    (fun q n m other => by simp [Part.restartCabinet_cabinets, Table.get_set_ne _ _ other]) p n

/-- A cabinet that was in SERVICE leaves its heater in STANDBY. -/
theorem Part.restartCabinets_cls (n : Fin 8) :
    (p.restartCabinets.feeder.heaters.get (cabinetLoop n)).cls =
      if (p.cabinets.get n).mode = .service then .standby else (p.feeder.heaters.get (cabinetLoop n)).cls := by
  unfold Part.restartCabinets
  have each := foldl_finRange_get
    (fun (q : Part) (n : Fin 8) => ((q.cabinets.get n).mode, (q.feeder.heaters.get (cabinetLoop n)).cls))
    (fun q n => q.restartCabinet n) (fun _ x => (.off, if x.1 = .service then .standby else x.2))
    (fun q n => by simp [Part.restartCabinet_cabinets, Part.restartCabinet_cls])
    (fun q n m other => by
      simp [Part.restartCabinet_cabinets, Part.restartCabinet_cls, Table.get_set_ne _ _ other, cabinetLoop_inj, other])
    p n
  obtain ⟨-, cls⟩ := Prod.mk.inj each
  exact cls

theorem Part.restartCabinets_cls_other (m : Fin 16) (other : ∀ n, m ≠ cabinetLoop n) :
    (p.restartCabinets.feeder.heaters.get m).cls = (p.feeder.heaters.get m).cls := by
  unfold Part.restartCabinets
  exact foldl_kept (fun q : Part => (q.feeder.heaters.get m).cls) _
    (fun q n => by simp [Part.restartCabinet_cls, other n]) _ p

theorem Part.restartCabinets_locked (m : Fin 16) :
    (p.restartCabinets.feeder.heaters.get m).locked = (p.feeder.heaters.get m).locked := by
  unfold Part.restartCabinets
  exact foldl_kept (fun q : Part => (q.feeder.heaters.get m).locked) _ (fun q n => q.restartCabinet_locked n m) _ p

theorem Part.restartCabinets_notices : NoticesOnly p p.restartCabinets := by
  unfold Part.restartCabinets
  exact NoticesOnly.foldl (fun q n => q.restartCabinet_notices n) _ p

/-! ## The waves (R143) -/

/-- A wave that gave its ovens the class SERVICE has not taken it back. -/
def Wave.classed (v : Wave) : Prop := v.state ≠ .planned ∧ v.state ≠ .closed

theorem Part.restartWave_waves (w : Fin 12) : (p.restartWave w).waves = p.waves.set w none := by
  unfold Part.restartWave Part.onWave
  split
  · dsimp only
    split <;> simp [Part.ovenClasses_waves]
  · next empty => rw [← empty, Table.set_get_self]

theorem Part.restartWave_notices (w : Fin 12) : NoticesOnly p (p.restartWave w) := by
  unfold Part.restartWave Part.onWave
  split
  · have set := NoticesOnly.ofSame (p.setWave_feeder w none)
    dsimp only
    split
    iterate 4 exact set.trans (Part.ovenClasses_notices _ _ _)
    all_goals exact set
  · exact .ofSame rfl

theorem Part.restartWave_locked (w : Fin 12) (m : Fin 16) :
    ((p.restartWave w).feeder.heaters.get m).locked = (p.feeder.heaters.get m).locked := by
  unfold Part.restartWave Part.onWave
  split
  · dsimp only
    split <;> simp [Part.ovenClasses_locked]
  · rfl

theorem Part.restartWave_cls_other (w : Fin 12) (m : Fin 16) (other : ∀ n, m ≠ ovenLoop n) :
    ((p.restartWave w).feeder.heaters.get m).cls = (p.feeder.heaters.get m).cls := by
  unfold Part.restartWave Part.onWave
  split
  · dsimp only
    split
    iterate 4 rw [Part.ovenClasses_cls_other _ _ _ _ other, Part.setWave_feeder]
    all_goals rw [Part.setWave_feeder]
  · rfl

/-- An oven's heater in STANDBY stays there. -/
theorem Part.restartWave_standby (w : Fin 12) (n : Fin 6)
    (standby : (p.feeder.heaters.get (ovenLoop n)).cls = .standby) :
    ((p.restartWave w).feeder.heaters.get (ovenLoop n)).cls = .standby := by
  unfold Part.restartWave Part.onWave
  split
  · dsimp only
    split <;> simp [Part.ovenClasses_cls, standby]
  · exact standby

/-- A wave that holds its class leaves its ovens in STANDBY. -/
theorem Part.restartWave_listed {w : Fin 12} {v : Wave} (wave : p.waves.get w = some v) (classed : v.classed)
    {n : Fin 6} (listed : n ∈ v.ovens) : ((p.restartWave w).feeder.heaters.get (ovenLoop n)).cls = .standby := by
  obtain ⟨begun, standing⟩ := classed
  unfold Part.restartWave Part.onWave
  rw [wave]
  dsimp only
  split
  iterate 4 simp [Part.ovenClasses_cls, listed]
  · next planned => exact absurd planned begun
  · next closed => exact absurd closed standing

@[simp] theorem Part.restartWaves_waves (w : Fin 12) : p.restartWaves.waves.get w = none := by
  unfold Part.restartWaves Part.eachSlot
  exact foldl_finRange_get (fun q w => q.waves.get w) (fun q w => q.restartWave w) (fun _ _ => none)
    (fun q w => by simp [Part.restartWave_waves])
    (fun q w x other => by simp [Part.restartWave_waves, Table.get_set_ne _ _ other]) p w

theorem Part.restartWaves_notices : NoticesOnly p p.restartWaves := by
  unfold Part.restartWaves Part.eachSlot
  exact NoticesOnly.foldl (fun q w => q.restartWave_notices w) _ p

theorem Part.restartWaves_locked (m : Fin 16) :
    (p.restartWaves.feeder.heaters.get m).locked = (p.feeder.heaters.get m).locked := by
  unfold Part.restartWaves Part.eachSlot
  exact foldl_kept (fun q : Part => (q.feeder.heaters.get m).locked) _ (fun q w => q.restartWave_locked w m) _ p

theorem Part.restartWaves_cls_other (m : Fin 16) (other : ∀ n, m ≠ ovenLoop n) :
    (p.restartWaves.feeder.heaters.get m).cls = (p.feeder.heaters.get m).cls := by
  unfold Part.restartWaves Part.eachSlot
  exact foldl_kept (fun q : Part => (q.feeder.heaters.get m).cls) _ (fun q w => q.restartWave_cls_other w m other) _ p

theorem foldl_restartWave_standby (items : List (Fin 12)) (n : Fin 6)
    (standby : (p.feeder.heaters.get (ovenLoop n)).cls = .standby) :
    ((items.foldl (fun q w => q.restartWave w) p).feeder.heaters.get (ovenLoop n)).cls = .standby := by
  induction items generalizing p with
  | nil => exact standby
  | cons w rest ih => exact ih _ (p.restartWave_standby w n standby)

theorem foldl_restartWave_listed (items : List (Fin 12)) {w : Fin 12} (mem : w ∈ items) {v : Wave}
    (wave : p.waves.get w = some v) (classed : v.classed) {n : Fin 6} (listed : n ∈ v.ovens) :
    ((items.foldl (fun q w => q.restartWave w) p).feeder.heaters.get (ovenLoop n)).cls = .standby := by
  induction items generalizing p with
  | nil => cases mem
  | cons x rest ih =>
    by_cases same : w = x
    · subst same
      exact foldl_restartWave_standby _ rest n (p.restartWave_listed wave classed listed)
    · refine ih _ ((List.mem_cons.mp mem).resolve_left same) ?_
      rw [Part.restartWave_waves, Table.get_set_ne _ _ same]
      exact wave

/-- An oven's heater is left in STANDBY where it was there, or where a wave that holds its class lists the oven. -/
theorem Part.restartWaves_standby (n : Fin 6) (held : (p.feeder.heaters.get (ovenLoop n)).cls = .standby ∨
    ∃ w v, p.waves.get w = some v ∧ v.classed ∧ n ∈ v.ovens) :
    (p.restartWaves.feeder.heaters.get (ovenLoop n)).cls = .standby := by
  unfold Part.restartWaves Part.eachSlot
  rcases held with standby | ⟨w, v, wave, classed, listed⟩
  · exact foldl_restartWave_standby p _ n standby
  · exact foldl_restartWave_listed p _ (List.mem_finRange w) wave classed listed

end Blocks

end Sys2Proof.Machine
end

section
/-!
A warm restart, block by block: the dish tunnel. Its racks leave one by one, each into the ring and with its plates into
soiled, and the lock of heater 15 follows the valve (R126, R102, R103, R93, R116).
-/

namespace Sys2Proof.Machine

/-! ## The ring (R103) -/

section Ring

theorem Dish.appendRing_of_room (r : Rack) (d : Dish) (room : d.ring.length < 64) :
    d.appendRing r = { d with ring := d.ring ++ [r] } := by
  simp [Dish.appendRing, room]

theorem Dish.appendRing_of_full (r : Rack) (d : Dish) (full : ¬ d.ring.length < 64) :
    d.appendRing r = { d with ring := d.ring.drop 1 ++ [r], overwrites := min 65535 (d.overwrites + 1) } := by
  simp [Dish.appendRing, full]

/-- The rest of the tunnel's record does not look at the ring. -/
theorem Dish.appendRing_rest (r : Rack) (d : Dish) (ring : List Rack) (overwrites : Nat) :
    { d.appendRing r with ring, overwrites } = { d with ring, overwrites } := by
  unfold Dish.appendRing
  split <;> rfl

/-- The ring keeps the last 64 of the records that join it. -/
theorem foldl_appendRing_ring (racks : List Rack) (d : Dish) (held : d.ring.length ≤ 64) :
    (racks.foldl (fun d r => d.appendRing r) d).ring =
      (d.ring ++ racks).drop ((d.ring ++ racks).length - 64) := by
  induction racks generalizing d with
  | nil => simp [show d.ring.length - 64 = 0 by omega]
  | cons r rest ih =>
    rw [List.foldl_cons, ih _ (d.length_appendRing r held)]
    by_cases room : d.ring.length < 64
    · rw [d.appendRing_of_room r room]
      simp
    · rw [d.appendRing_of_full r room]
      cases ring : d.ring with
      | nil => simp [ring] at room
      | cons oldest others =>
        have length : others.length = 63 := by
          simp only [ring, List.length_cons] at room held
          omega
        simp [length]
        omega

/-- Each record beyond the 64 counts as an overwrite. -/
theorem foldl_appendRing_overwrites (racks : List Rack) (d : Dish) (held : d.ring.length ≤ 64)
    (counted : d.overwrites ≤ 65535) :
    (racks.foldl (fun d r => d.appendRing r) d).overwrites =
      min 65535 (d.overwrites + ((d.ring ++ racks).length - 64)) := by
  induction racks generalizing d with
  | nil => simp; omega
  | cons r rest ih =>
    by_cases room : d.ring.length < 64
    · rw [List.foldl_cons, ih _ (d.length_appendRing r held) (by simpa [d.appendRing_of_room r room] using counted),
        d.appendRing_of_room r room]
      simp
    · have length : d.ring.length = 64 := by omega
      rw [List.foldl_cons, ih _ (d.length_appendRing r held) (by simp [d.appendRing_of_full r room]),
        d.appendRing_of_full r room]
      simp only [List.length_append, List.length_drop, List.length_cons, List.length_nil, length]
      omega

end Ring

/-! ## One rack removed (R102) -/

/-- The tunnel's record without its two outputs that follow from the others. -/
def Dish.body (d : Dish) : Dish := { d with gateOpen := false, valveOpen := false }

/-- The record of a rack that a warm restart removes. -/
def Rack.unverified (now : Word) (r : Rack) : Rack := { r with outcome := some .unverified, removal := some now }

/-- Plates that go from the tunnel into soiled. -/
def Stock.soil (n : Nat) (s : Stock) : Stock := { s with tunnel := s.tunnel - n, soiled := s.soiled + n }

/-- The plates of a kind on a rack. -/
def Rack.plates (kind : Fin 4) (r : Rack) : Nat := if r.kind = some kind then r.count else 0

/-- Work that turns the rinse valve alone: of the allocator only the lock of heater 15 moves, and it follows the valve
(R116, R49). -/
structure ValveMoves (p q : Part) : Prop where
  notices : NoticesOnly p q
  cls : ∀ n, (q.feeder.heaters.get n).cls = (p.feeder.heaters.get n).cls
  locked : ∀ n, n ≠ 15 → (q.feeder.heaters.get n).locked = (p.feeder.heaters.get n).locked
  follows : (p.feeder.heaters.get 15).locked = p.dish.valveOpen → (q.feeder.heaters.get 15).locked = q.dish.valveOpen

namespace ValveMoves

variable {p q r : Part}

theorem ofSame (feeder : q.feeder = p.feeder) (valve : q.dish.valveOpen = p.dish.valveOpen) : ValveMoves p q :=
  ⟨.ofSame feeder, fun _ => by rw [feeder], fun _ _ => by rw [feeder], fun h => by rw [feeder, valve, h]⟩

theorem trans (h : ValveMoves p q) (k : ValveMoves q r) : ValveMoves p r :=
  ⟨h.notices.trans k.notices, fun n => (k.cls n).trans (h.cls n), fun n other => (k.locked n other).trans (h.locked n other),
    fun same => k.follows (h.follows same)⟩

theorem setDish (p : Part) (d : Dish) (valve : d.valveOpen = p.dish.valveOpen) : ValveMoves p (p.setDish d) :=
  .ofSame (by simp) (by simpa using valve)

theorem setValve (p : Part) (isOpen : Bool) : ValveMoves p (p.setValve isOpen) := by
  unfold Part.setValve
  split
  · exact .ofSame rfl rfl
  · have set := NoticesOnly.ofSame (p.setDish_feeder { p.dish with valveOpen := isOpen })
    refine ⟨set.trans (NoticesOnly.setHeater _ 15 _ isOpen), fun n => ?_, fun n other => ?_, fun _ => ?_⟩
    · simp only [Part.valveNotice, Part.setHeater_feeder, Part.setDish_feeder, Table.get_set]
      split
      · next same => rw [same]
      · rfl
    · simp [Part.valveNotice, Table.get_set_ne _ _ other]
    · simp [Part.valveNotice]

theorem judgeGate (p : Part) : ValveMoves p p.judgeGate := .setDish p _ rfl

theorem judgeValve (p : Part) : ValveMoves p p.judgeValve := .setValve p _

end ValveMoves

section Removal

variable (p : Part)

@[simp] theorem Part.setValve_dish (isOpen : Bool) :
    (p.setValve isOpen).dish = { p.dish with valveOpen := isOpen } := by
  unfold Part.setValve
  split
  · next same => rw [same]
  · simp [Part.valveNotice]

@[simp] theorem Part.setValve_stock (isOpen : Bool) : (p.setValve isOpen).stock = p.stock := by
  unfold Part.setValve
  split
  · rfl
  · simp [Part.valveNotice]

@[simp] theorem Part.rackExitMove_dish (kind : Option (Fin 4)) (count : Nat) (outcome : RackOutcome) :
    (p.rackExitMove kind count outcome false).dish = p.dish := by
  unfold Part.rackExitMove
  split
  · rfl
  · split <;> simp

@[simp] theorem Part.rackExitMove_feeder (kind : Option (Fin 4)) (count : Nat) (outcome : RackOutcome) :
    (p.rackExitMove kind count outcome false).feeder = p.feeder := by
  unfold Part.rackExitMove
  split
  · rfl
  · split <;> simp

/-- Unverified plates go into soiled, whatever their number. -/
theorem Part.rackExitMove_stock (r : Rack) (kind : Fin 4) :
    (p.rackExitMove r.kind r.count .unverified false).stock.get kind =
      (p.stock.get kind).soil (r.plates kind) := by
  unfold Part.rackExitMove Rack.plates
  cases r.kind with
  | none => simp [Stock.soil]
  | some k =>
    by_cases same : k = kind
    · subst same
      dsimp only
      split
      · next none_held => simp [Stock.soil, none_held]
      · simp [Stock.soil, Stock.afterExit]
    · have other : kind ≠ k := fun h => same h.symm
      dsimp only
      split <;> simp [same, Stock.soil, Table.get_set_ne _ _ other]

theorem Part.rackExitMove_unnoticed_works (kind : Option (Fin 4)) (count : Nat) (outcome : RackOutcome) (own : List (Fin 87)) :
    Works { stock := true } own p (p.rackExitMove kind count outcome false) := by
  unfold Part.rackExitMove
  split
  · exact Works.refl _ _ _
  · split
    · exact Works.refl _ _ _
    · exact Part.setStock_works _ _ _ _

/-- A rack removed at a warm restart. -/
theorem Part.removeOldest_unverified {r : Rack} {rest : List Rack} (queue : p.dish.queue = r :: rest) :
    p.removeOldest .unverified false =
      (((p.setDish (({ p.dish with queue := rest } : Dish).appendRing (r.unverified p.uptime))).rackExitMove r.kind r.count
        .unverified false).judgeGate.judgeValve) := by
  unfold Part.removeOldest
  rw [queue]
  rfl

theorem Dish.appendRing_body (r : Rack) (d : Dish) : (d.appendRing r).body = d.body.appendRing r := by
  unfold Dish.appendRing
  by_cases room : d.ring.length < 64 <;> simp [Dish.body, room]

theorem Dish.appendRing_withQueue (r : Rack) (d : Dish) (queue : List Rack) :
    { d.appendRing r with queue } = ({ d with queue } : Dish).appendRing r := by
  unfold Dish.appendRing
  by_cases room : d.ring.length < 64 <;> simp [room]

@[simp] theorem Dish.appendRing_valveOpen (r : Rack) (d : Dish) : (d.appendRing r).valveOpen = d.valveOpen := by
  unfold Dish.appendRing
  split <;> rfl

section Removed

variable {r : Rack} {rest : List Rack} (queue : p.dish.queue = r :: rest)
include queue

theorem Part.removeOldest_body :
    (p.removeOldest .unverified false).dish.body =
      ({ p.dish.body with queue := rest } : Dish).appendRing (r.unverified p.uptime) := by
  rw [p.removeOldest_unverified queue]
  have outputs (q : Part) : q.judgeGate.judgeValve.dish.body = q.dish.body := by
    simp [Part.judgeValve, Part.judgeGate, Dish.body]
  rw [outputs, Part.rackExitMove_dish, Part.setDish_dish, Dish.appendRing_body]
  rfl

theorem Part.removeOldest_stock (kind : Fin 4) :
    (p.removeOldest .unverified false).stock.get kind = (p.stock.get kind).soil (r.plates kind) := by
  rw [p.removeOldest_unverified queue]
  simp [Part.judgeValve, Part.judgeGate, Part.rackExitMove_stock]

theorem Part.removeOldest_valve : ValveMoves p (p.removeOldest .unverified false) := by
  rw [p.removeOldest_unverified queue]
  have left := ValveMoves.setDish p (({ p.dish with queue := rest } : Dish).appendRing (r.unverified p.uptime)) (by simp)
  have moved := left.trans (.ofSame (Part.rackExitMove_feeder _ r.kind r.count .unverified)
    (congrArg Dish.valveOpen (Part.rackExitMove_dish _ r.kind r.count .unverified)))
  exact (moved.trans (ValveMoves.judgeGate _)).trans (ValveMoves.judgeValve _)

theorem Part.removeOldest_moves (own : List (Fin 87)) :
    Works { dish := true, stock := true, feeder := true } own p (p.removeOldest .unverified false) := by
  rw [p.removeOldest_unverified queue]
  exact (((Part.setDish_works p own _).widen.trans (Part.rackExitMove_unnoticed_works _ _ _ _ own).widen).trans
    (Part.judgeGate_works _ own).widen).trans (Part.judgeValve_works _ own).widen

end Removed

/-! ## Every rack removed -/

/-- What the removal of every rack leaves. -/
structure Cleared (own : List (Fin 87)) (p q : Part) : Prop where
  body : q.dish.body =
    (p.dish.queue.map (Rack.unverified p.uptime)).foldl (fun d r => d.appendRing r) { p.dish.body with queue := [] }
  stock : ∀ kind, q.stock.get kind = (p.stock.get kind).soil (p.dish.plates kind)
  valve : ValveMoves p q
  moves : Works { dish := true, stock := true, feeder := true } own p q

theorem Stock.soil_soil (m n : Nat) (s : Stock) : (s.soil m).soil n = s.soil (m + n) := by
  simp [Stock.soil, Nat.sub_sub, Nat.add_assoc]

theorem Part.clearTunnel_cleared (own : List (Fin 87)) : Cleared own p (p.clearTunnel false) := by
  unfold Part.clearTunnel
  generalize held : p.dish.queue = queue
  induction queue generalizing p with
  | nil =>
    refine ⟨?_, fun kind => ?_, .ofSame rfl rfl, Works.refl _ _ _⟩
    · rw [held]
      change p.dish.body = { p.dish.body with queue := [] }
      rw [← held]
      rfl
    · simp [Part.removeUnverified, Dish.plates, held, Stock.soil]
  | cons r rest ih =>
    have body := p.removeOldest_body held
    have queue : (p.removeOldest .unverified false).dish.queue = rest :=
      (congrArg Dish.queue body).trans (Dish.appendRing_queue _ _)
    have uptime := (p.removeOldest_moves held own).moves.touches.uptime rfl
    obtain ⟨bodyRest, stockRest, valveRest, movesRest⟩ := ih _ queue
    refine ⟨?_, fun kind => ?_, (p.removeOldest_valve held).trans valveRest,
      (p.removeOldest_moves held own).trans movesRest⟩
    · rw [List.length_cons, Part.removeUnverified, bodyRest, queue, uptime, body, Dish.appendRing_withQueue, held]
      rfl
    · rw [List.length_cons, Part.removeUnverified, stockRest, p.removeOldest_stock held, Stock.soil_soil]
      simp [Dish.plates, queue, held, Rack.plates]

end Removal

end Sys2Proof.Machine
end

section
/-!
A warm restart, block by block: the tunnel's record once its racks are gone, the desk, and what is raised again (R126,
R155, R176, R179, R183).
-/

namespace Sys2Proof.Machine

/-! ## The tunnel (R126) -/

/-- The tunnel's record after a warm restart, with the ring that its racks leave. -/
def Dish.restarted (ring : List Rack) (overwrites : Nat) (d : Dish) : Dish :=
  { d with
    state := .off, reasons := {}, conveyor := false, gateOpen := false, valveOpen := false, declared := []
    lastEntry := none, coldTimer := 0, washCold := false, rinseFail := false, queue := [], ring, overwrites }

section Dish

variable (p : Part)

/-- The racks that a warm restart puts into the ring. -/
def Part.unverifiedRacks : List Rack := p.dish.queue.map (Rack.unverified p.uptime)

theorem foldl_appendRing_rest (racks : List Rack) (d : Dish) :
    ∃ ring overwrites, racks.foldl (fun d r => d.appendRing r) d = { d with ring, overwrites } := by
  have kept := foldl_kept (fun d' : Dish => { d' with ring := d.ring, overwrites := d.overwrites })
    (fun (d : Dish) (r : Rack) => d.appendRing r) (fun d' r => d'.appendRing_rest r _ _) racks d
  exact ⟨_, _, congrArg (fun d' : Dish => { d' with
    ring := (racks.foldl (fun (d : Dish) r => d.appendRing r) d).ring
    overwrites := (racks.foldl (fun (d : Dish) r => d.appendRing r) d).overwrites }) kept⟩

/-- The tunnel is off, and its racks stand in the ring, behind those already there (R103, R126). -/
theorem Part.restartDish_dish :
    ∃ ring overwrites, p.restartDish.dish = p.dish.restarted ring overwrites ∧
      (p.dish.ring.length ≤ 64 →
        ring = (p.dish.ring ++ p.unverifiedRacks).drop ((p.dish.ring ++ p.unverifiedRacks).length - 64) ∧
        (p.dish.overwrites ≤ 65535 →
          overwrites = min 65535 (p.dish.overwrites + ((p.dish.ring ++ p.unverifiedRacks).length - 64)))) := by
  have body := (p.clearTunnel_cleared []).body
  obtain ⟨ring, overwrites, joined⟩ := foldl_appendRing_rest p.unverifiedRacks { p.dish.body with queue := [] }
  refine ⟨ring, overwrites, ?_, fun held => ⟨?_, fun counted => ?_⟩⟩
  · have dish : p.restartDish.dish =
        (p.clearTunnel false).dish.body.restarted (p.clearTunnel false).dish.body.ring
          (p.clearTunnel false).dish.body.overwrites := by
      have empty : (p.clearTunnel false).dish.queue = [] := (congrArg Dish.queue (body.trans joined)).trans rfl
      simp [Part.restartDish, Dish.restarted, Dish.body, empty]
    rw [dish, body.trans joined]
    rfl
  · have last := foldl_appendRing_ring p.unverifiedRacks { p.dish.body with queue := [] } held
    rwa [joined] at last
  · have count := foldl_appendRing_overwrites p.unverifiedRacks { p.dish.body with queue := [] } held counted
    rwa [joined] at count

@[simp] theorem Part.restartDish_stock (kind : Fin 4) :
    p.restartDish.stock.get kind = (p.stock.get kind).soil (p.dish.plates kind) := by
  rw [← (p.clearTunnel_cleared []).stock kind]
  simp [Part.restartDish]

theorem Part.restartDish_valve : ValveMoves p p.restartDish := by
  unfold Part.restartDish
  refine ((p.clearTunnel_cleared []).valve.trans ?_).trans (ValveMoves.setValve _ _)
  exact .setDish _ _ rfl

/-- The lock of heater 15 follows the valve as it closes (R116). -/
theorem Part.restartDish_unlocked (follows : (p.feeder.heaters.get 15).locked = p.dish.valveOpen) :
    (p.restartDish.feeder.heaters.get 15).locked = false := by
  rw [p.restartDish_valve.follows follows]
  simp [Part.restartDish]

theorem Part.restartDish_moves (own : List (Fin 87)) :
    Works { dish := true, stock := true, feeder := true } own p p.restartDish :=
  ((p.clearTunnel_cleared own).moves.trans (Part.setDish_works _ own _).widen).trans (Part.setValve_works _ own _).widen

end Dish

/-! ## The desk (R155, R176) -/

section Desk

variable (p : Part)

/-- Every slot of the condition table. -/
def everySlot : List (Fin 87) := List.finRange 87

@[simp] theorem Part.restartConditions_conds (i : Fin 87) : p.restartConditions.desk.conds.get i = {} := by
  unfold Part.restartConditions Desk.restartConditions
  exact foldl_finRange_get (fun d i => d.conds.get i) (fun d i => d.setSlot i {}) (fun _ _ => {}) (fun d i => by simp)
    (fun d i j other => by simp [Table.get_set_ne _ _ other]) p.desk i

@[simp] theorem Part.restartConditions_pager : p.restartConditions.desk.pager = p.desk.pager := by
  unfold Part.restartConditions Desk.restartConditions
  exact foldl_kept Desk.pager _ (fun d i => by simp) _ p.desk

theorem Part.restartConditions_works : Works deskFoot everySlot p p.restartConditions := by
  have each (items : List (Fin 87)) (d : Desk) :
      DeskOnly everySlot d (items.foldl (fun e i => e.setSlot i {}) d) := by
    induction items generalizing d with
    | nil => exact DeskOnly.refl _ _
    | cons i rest ih => exact ((d.setSlot_only i {}).mono fun x _ => List.mem_finRange x).trans (ih _)
  exact Works.ofDesk p (each _ _)

@[simp] theorem Part.restartPager_conds : p.restartPager.desk.conds = p.desk.conds := by
  unfold Part.restartPager
  dsimp only
  split <;> rfl

@[simp] theorem Part.restartPager_pager : p.restartPager.desk.pager = p.desk.pager.restarted := by
  unfold Part.restartPager
  dsimp only
  split <;> rfl

theorem Part.restartPager_works : Works deskFoot everySlot p p.restartPager := by
  have restarted : DeskOnly everySlot p.desk (p.desk.onPager Pager.restarted) :=
    ⟨⟨fun _ _ _ => rfl, fun x => by simp [Pager.restarted], fun _ => rfl, rfl, rfl, rfl⟩, [], by simp, rfl⟩
  have work : Works deskFoot everySlot p (p.onPager Pager.restarted) := Works.ofDesk p restarted
  unfold Part.restartPager
  dsimp only
  split
  · exact work
  · exact work.trans (Works.mark _ _ _ _ rfl)

end Desk

/-! ## What the interlock unit raises again (R179, R183) -/

/-- A condition raised again where it still holds. -/
def Part.raiseIf (again : Bool) (slot : Fin 87) (p : Part) : Part := if again then p.raise slot 0 else p

theorem Part.restartInterlock_eq (p : Part) :
    p.restartInterlock =
      (p.raiseIf p.interlock.trip hoodTripSlot).raiseIf (p.asserted .conveyorOverload) overloadSlot := by
  have line : (p.raiseIf p.interlock.trip hoodTripSlot).asserted .conveyorOverload = p.asserted .conveyorOverload := by
    unfold Part.raiseIf
    split <;> rfl
  rw [← line]
  rfl

section RaiseIf

variable (again : Bool) (slot : Fin 87) (p : Part)

@[simp] theorem Part.raiseIf_uptime : (p.raiseIf again slot).uptime = p.uptime := by
  unfold Part.raiseIf
  split <;> rfl

theorem Part.raiseIf_works : Works deskFoot everySlot p (p.raiseIf again slot) := by
  unfold Part.raiseIf
  split
  · exact (Part.raise_works p slot 0).mono rfl fun x _ => List.mem_finRange x
  · exact Works.refl _ _ _

theorem Part.raiseIf_sends {directory : Table PagerEntry 64} (sends : p.desk.Sends directory) :
    (p.raiseIf again slot).desk.Sends directory := by
  unfold Part.raiseIf
  split
  · exact sends.raise p.uptime slot 0
  · exact sends

theorem Part.raiseIf_slot_ne {i : Fin 87} (other : i ≠ slot) (answered : i ≠ unansweredSlot) :
    (p.raiseIf again slot).desk.conds.get i = p.desk.conds.get i := by
  unfold Part.raiseIf
  split
  · exact p.desk.raise_slot_ne p.uptime slot i 0 other answered
  · rfl

/-- A slot that was NORMAL, of a condition that lasts, stands in ACTIVE where it is raised. -/
theorem Part.raiseIf_slot (answered : slot ≠ unansweredSlot) (lasts : isEventKind slot = false)
    (normal : p.desk.conds.get slot = {}) :
    (p.raiseIf again slot).desk.conds.get slot =
      if again then { state := .active, count := 1, first := p.uptime, last := p.uptime, param := 0 }
      else { state := .normal, count := 0, first := 0, last := 0, param := 0 } := by
  unfold Part.raiseIf
  split
  · rw [Part.raise_desk, p.desk.raise_slot p.uptime slot 0 answered, lasts, normal]
    rfl
  · exact normal

/-- A raise pages by its route (R160, R183). -/
theorem Part.raiseIf_raisedAgain (t : State) {kind : Fin 16} (routed : slotKind slot = kind)
    (uptime : t.part.uptime = p.uptime) (occurs : (p.desk.conds.get slot).occurs = true)
    (left : (p.desk.conds.get unansweredSlot).occurs = true)
    (right : (t.part.desk.conds.get unansweredSlot).occurs = true) :
    raisedAgain again slot kind t p.desk.pager (p.raiseIf again slot).desk.pager := by
  cases again with
  | false => exact raisedAgain_false slot kind t _
  | true =>
    have raised := p.desk.raise_raisedAgain t slot routed occurs left right
    rwa [uptime] at raised

end RaiseIf

end Sys2Proof.Machine
end

section
/-!
A warm restart as a whole (R193): the blocks that heat, the blocks that serve, and the desk, each from what the one before
it left; then the change set that it makes and its reply.
-/

namespace Sys2Proof.Machine

/-! ## The link (R189, R190, R193) -/

/-- With attention outstanding, marks join the change set and nothing else. -/
theorem Link.withMarks_of_attention (marks : List Mark) (k : Link) (outstanding : k.attention = true) :
    ∃ more, k.withMarks marks = { k with changeSet := k.changeSet ++ more } := by
  induction marks generalizing k with
  | nil => exact ⟨[], by simp [Link.withMarks]⟩
  | cons m rest ih =>
    have first : ∃ held, k.mark m.cls m.index = { k with changeSet := k.changeSet ++ held } := by
      unfold Link.mark
      split
      · exact ⟨[], by simp⟩
      · exact ⟨[m], by simp [Link.judgeAttention, outstanding]⟩
    obtain ⟨held, marked⟩ := first
    obtain ⟨more, rest⟩ := ih (k.mark m.cls m.index) (by rw [marked]; exact outstanding)
    refine ⟨held ++ more, ?_⟩
    change (k.mark m.cls m.index).withMarks _ = _
    rw [rest, marked]
    simp

/-- Marks that join an emptied change set call attention once, at the first of them. -/
theorem Link.withMarks_restarted (marks : List Mark) (k : Link) :
    ∃ held, k.restarted.withMarks marks = { k with
      changeSet := held, attention := !held.isEmpty
      attentions := k.attentions ++ if held.isEmpty then [] else [1] } := by
  cases marks with
  | nil => exact ⟨[], by simp [Link.withMarks, Link.restarted]⟩
  | cons m rest =>
    have first : k.restarted.mark m.cls m.index =
        { k with changeSet := [m], attention := true, attentions := k.attentions ++ [1] } := by
      simp [Link.mark, Link.restarted, Link.judgeAttention]
    obtain ⟨more, later⟩ := Link.withMarks_of_attention rest (k.restarted.mark m.cls m.index) (by rw [first])
    refine ⟨m :: more, ?_⟩
    change (k.restarted.mark m.cls m.index).withMarks rest = _
    rw [later, first]
    simp

/-! ## The blocks in their order -/

section Stages

variable (p : Part)

/-- The measurement table, the loops and the allocator. -/
def Part.restartHeat : Part := p.restartProbe.restartLoops.restartFeeder

/-- The ovens, the cabinets, the tunnel and the waves. -/
def Part.restartService : Part := p.restartOvens.restartCabinets.restartDish.restartWaves

/-- The conditions, the pager controller, and what is raised again. -/
def Part.restartDesk : Part := p.restartConditions.restartPager.restartInterlock

theorem Part.restarted_eq : p.restarted = (p.onLink Link.restarted).restartHeat.restartService.restartDesk := rfl

/-! ### The blocks that heat -/

theorem Part.restartHeat_works (own : List (Fin 87)) :
    Works { scan := true, loops := true, feeder := true } own p p.restartHeat :=
  ((p.restartProbe_works own).widen.trans (Part.restartLoops_works _ own).widen).trans
    (Part.restartFeeder_works _ own).widen

theorem Part.restartHeat_scan : p.restartHeat.scan = p.restartProbe.scan :=
  ((Part.restartFeeder_works _ []).moves.touches.scan rfl).trans ((Part.restartLoops_works _ []).moves.touches.scan rfl)

theorem Part.restartHeat_loops (n : Fin 16) : p.restartHeat.loops.get n = (p.loops.get n).restarted := by
  rw [Part.restartHeat, (Part.restartFeeder_works _ []).moves.touches.loops rfl, Part.restartLoops_loops,
    (p.restartProbe_works []).moves.touches.loops rfl]

/-- What the allocator restarts from. -/
theorem Part.restartLoops_feeder : p.restartProbe.restartLoops.feeder = p.feeder :=
  ((Part.restartLoops_works _ []).moves.touches.feeder rfl).trans ((p.restartProbe_works []).moves.touches.feeder rfl)

theorem Part.restartHeat_heaters (n : Fin 16) :
    p.restartHeat.feeder.heaters.get n = (p.feeder.heaters.get n).cut.fed := by
  rw [Part.restartHeat, Part.restartFeeder_heaters, p.restartLoops_feeder]

theorem Part.restartHeat_feeder :
    ∃ heaters, p.restartHeat.feeder = { p.feeder with
      heaters, grantedTotal := 0, deliveredTotal := 0, pending := false
      reducedAck := p.asserted .feederReduce && decide (p.feeder.applied = p.feeder.reduced) } := by
  obtain ⟨heaters, feeder⟩ := p.restartProbe.restartLoops.restartFeeder_feeder
  have interlock : p.restartProbe.restartLoops.interlock = p.interlock :=
    ((Part.restartLoops_works _ []).moves.touches.interlock rfl).trans
      ((p.restartProbe_works []).moves.touches.interlock rfl)
  rw [p.restartLoops_feeder, Part.asserted, interlock] at feeder
  exact ⟨heaters, feeder⟩

/-! ### The blocks that serve -/

theorem Part.restartService_works (own : List (Fin 87)) :
    Works { ovens := true, cabinets := true, dish := true, stock := true, feeder := true, waves := true } own p
      p.restartService :=
  (((p.restartOvens_works own).widen.trans (Part.restartCabinets_works _ own).widen).trans
    (Part.restartDish_moves _ own).widen).trans (Part.restartWaves_works _ own).widen

theorem Part.restartService_ovens (n : Fin 6) : p.restartService.ovens.get n = (p.ovens.get n).restarted := by
  rw [Part.restartService, (Part.restartWaves_works _ []).moves.touches.ovens rfl,
    (Part.restartDish_moves _ []).moves.touches.ovens rfl, (Part.restartCabinets_works _ []).moves.touches.ovens rfl,
    Part.restartOvens_ovens]

theorem Part.restartService_cabinets (n : Fin 8) :
    p.restartService.cabinets.get n = { p.cabinets.get n with mode := .off, waveSlot := none, waveSet := false } := by
  rw [Part.restartService, (Part.restartWaves_works _ []).moves.touches.cabinets rfl,
    (Part.restartDish_moves _ []).moves.touches.cabinets rfl, Part.restartCabinets_cabinets,
    (p.restartOvens_works []).moves.touches.cabinets rfl]

theorem Part.restartService_waves (w : Fin 12) : p.restartService.waves.get w = none := by
  simp [Part.restartService]

/-- What the tunnel and the waves restart from. -/
theorem Part.restartCabinets_rest :
    p.restartOvens.restartCabinets.dish = p.dish ∧ p.restartOvens.restartCabinets.stock = p.stock ∧
      p.restartOvens.restartCabinets.uptime = p.uptime ∧ p.restartOvens.restartCabinets.waves = p.waves := by
  have work := ((p.restartOvens_works []).widen.trans (Part.restartCabinets_works _ []).widen :
    Works { ovens := true, cabinets := true, feeder := true } [] p p.restartOvens.restartCabinets)
  exact ⟨work.moves.touches.dish rfl, work.moves.touches.stock rfl, work.moves.touches.uptime rfl,
    work.moves.touches.waves rfl⟩

theorem Part.restartService_stock (kind : Fin 4) :
    p.restartService.stock.get kind = (p.stock.get kind).soil (p.dish.plates kind) := by
  obtain ⟨dish, stock, -, -⟩ := p.restartCabinets_rest
  rw [Part.restartService, (Part.restartWaves_works _ []).moves.touches.stock rfl, Part.restartDish_stock, dish, stock]

theorem Part.restartService_dish :
    ∃ ring overwrites, p.restartService.dish = p.dish.restarted ring overwrites ∧
      (p.dish.ring.length ≤ 64 →
        ring = (p.dish.ring ++ p.unverifiedRacks).drop ((p.dish.ring ++ p.unverifiedRacks).length - 64) ∧
        (p.dish.overwrites ≤ 65535 →
          overwrites = min 65535 (p.dish.overwrites + ((p.dish.ring ++ p.unverifiedRacks).length - 64)))) := by
  obtain ⟨dish, -, uptime, -⟩ := p.restartCabinets_rest
  have tunnel := p.restartOvens.restartCabinets.restartDish_dish
  rw [Part.unverifiedRacks, dish, uptime] at tunnel
  rw [Part.restartService, (Part.restartWaves_works _ []).moves.touches.dish rfl]
  exact tunnel

/-! ### Classes and locks -/

/-- The ovens leave the allocator alone. -/
theorem Part.restartOvens_feeder : p.restartOvens.feeder = p.feeder :=
  (p.restartOvens_works []).moves.touches.feeder rfl

theorem Part.restartService_notices : NoticesOnly p p.restartService := by
  have ovens : NoticesOnly p p.restartOvens := .ofSame p.restartOvens_feeder
  have cabinets := ovens.trans p.restartOvens.restartCabinets_notices
  have dish := cabinets.trans p.restartOvens.restartCabinets.restartDish_valve.notices
  exact dish.trans p.restartOvens.restartCabinets.restartDish.restartWaves_notices

theorem Part.restartService_locked (n : Fin 16) (other : n ≠ 15) :
    (p.restartService.feeder.heaters.get n).locked = (p.feeder.heaters.get n).locked := by
  rw [Part.restartService, Part.restartWaves_locked, (Part.restartDish_valve _).locked n other,
    Part.restartCabinets_locked, p.restartOvens_feeder]

theorem Part.restartService_unlocked (follows : (p.feeder.heaters.get 15).locked = p.dish.valveOpen) :
    (p.restartService.feeder.heaters.get 15).locked = false := by
  obtain ⟨dish, -, -, -⟩ := p.restartCabinets_rest
  rw [Part.restartService, Part.restartWaves_locked]
  refine Part.restartDish_unlocked _ ?_
  rw [dish, Part.restartCabinets_locked, p.restartOvens_feeder, follows]

theorem ovenLoop_ne_cabinetLoop (n : Fin 6) (m : Fin 8) : ovenLoop n ≠ cabinetLoop m := by
  simp only [ovenLoop, cabinetLoop, ne_eq, Fin.mk.injEq]
  omega

theorem Part.restartService_cls_cabinet (n : Fin 8) :
    (p.restartService.feeder.heaters.get (cabinetLoop n)).cls =
      if (p.cabinets.get n).mode = .service then .standby else (p.feeder.heaters.get (cabinetLoop n)).cls := by
  rw [Part.restartService, Part.restartWaves_cls_other _ _ fun m => (ovenLoop_ne_cabinetLoop m n).symm,
    (Part.restartDish_valve _).cls, Part.restartCabinets_cls, p.restartOvens_feeder,
    (p.restartOvens_works []).moves.touches.cabinets rfl]

theorem Part.restartService_cls_tunnel (n : Fin 16) (tunnel : 14 ≤ n.val) :
    (p.restartService.feeder.heaters.get n).cls = (p.feeder.heaters.get n).cls := by
  have noOven (m : Fin 6) : n ≠ ovenLoop m := by
    simp only [ovenLoop, ne_eq, Fin.ext_iff]
    omega
  have noCabinet (m : Fin 8) : n ≠ cabinetLoop m := by
    simp only [cabinetLoop, ne_eq, Fin.ext_iff]
    omega
  rw [Part.restartService, Part.restartWaves_cls_other _ _ noOven, (Part.restartDish_valve _).cls,
    Part.restartCabinets_cls_other _ _ noCabinet, p.restartOvens_feeder]

theorem Part.restartService_cls_oven (n : Fin 6) (held : (p.feeder.heaters.get (ovenLoop n)).cls = .standby ∨
    ∃ w v, p.waves.get w = some v ∧ v.classed ∧ n ∈ v.ovens) :
    (p.restartService.feeder.heaters.get (ovenLoop n)).cls = .standby := by
  obtain ⟨-, -, -, waves⟩ := p.restartCabinets_rest
  rw [Part.restartService]
  refine Part.restartWaves_standby _ n ?_
  rwa [(Part.restartDish_valve _).cls, Part.restartCabinets_cls_other _ _ (ovenLoop_ne_cabinetLoop n),
    p.restartOvens_feeder, (Part.restartDish_moves _ []).moves.touches.waves rfl, waves]

/-! ### The desk -/

theorem Part.restartInterlock_works : Works deskFoot everySlot p p.restartInterlock := by
  rw [Part.restartInterlock_eq]
  exact (Part.raiseIf_works _ _ _).trans (Part.raiseIf_works _ _ _)

theorem Part.restartDesk_works : Works deskFoot everySlot p p.restartDesk :=
  (p.restartConditions_works.trans (Part.restartPager_works _)).trans (Part.restartInterlock_works _)

end Stages

end Sys2Proof.Machine
end

section
/-!
What a warm restart leaves, record by record, and that it is what R193 asks for.
-/

namespace Sys2Proof.Machine

section Restarted

variable (p : Part)

/-! ## The blocks -/

theorem Part.restarted_uptime : p.restarted.uptime = p.uptime := by
  rw [p.restarted_eq, (Part.restartDesk_works _).moves.touches.uptime rfl,
    (Part.restartService_works _ []).moves.touches.uptime rfl, (Part.restartHeat_works _ []).moves.touches.uptime rfl,
    Part.onLink_uptime]

theorem Part.restarted_interlock : p.restarted.interlock = p.interlock := by
  rw [p.restarted_eq, (Part.restartDesk_works _).moves.touches.interlock rfl,
    (Part.restartService_works _ []).moves.touches.interlock rfl,
    (Part.restartHeat_works _ []).moves.touches.interlock rfl, Part.onLink_interlock]

theorem Part.restarted_programs : p.restarted.programs = p.programs := by
  rw [p.restarted_eq, (Part.restartDesk_works _).moves.touches.programs rfl,
    (Part.restartService_works _ []).moves.touches.programs rfl,
    (Part.restartHeat_works _ []).moves.touches.programs rfl, Part.onLink_programs]

theorem Part.restarted_scan : p.restarted.scan = (p.onLink Link.restarted).restartProbe.scan := by
  rw [p.restarted_eq, (Part.restartDesk_works _).moves.touches.scan rfl,
    (Part.restartService_works _ []).moves.touches.scan rfl, Part.restartHeat_scan]

theorem Part.restarted_loop (n : Fin 16) : p.restarted.loops.get n = (p.loops.get n).restarted := by
  rw [p.restarted_eq, (Part.restartDesk_works _).moves.touches.loops rfl,
    (Part.restartService_works _ []).moves.touches.loops rfl, Part.restartHeat_loops, Part.onLink_loops]

theorem Part.restarted_oven (n : Fin 6) : p.restarted.ovens.get n = (p.ovens.get n).restarted := by
  rw [p.restarted_eq, (Part.restartDesk_works _).moves.touches.ovens rfl, Part.restartService_ovens,
    (Part.restartHeat_works _ []).moves.touches.ovens rfl, Part.onLink_ovens]

theorem Part.restartHeat_cabinets : (p.onLink Link.restarted).restartHeat.cabinets = p.cabinets :=
  (Part.restartHeat_works _ []).moves.touches.cabinets rfl

theorem Part.restarted_cabinet (n : Fin 8) :
    p.restarted.cabinets.get n = { p.cabinets.get n with mode := .off, waveSlot := none, waveSet := false } := by
  rw [p.restarted_eq, (Part.restartDesk_works _).moves.touches.cabinets rfl, Part.restartService_cabinets,
    p.restartHeat_cabinets]

theorem Part.restarted_wave (w : Fin 12) : p.restarted.waves.get w = none := by
  rw [p.restarted_eq, (Part.restartDesk_works _).moves.touches.waves rfl, Part.restartService_waves]

theorem Part.restartHeat_dish : (p.onLink Link.restarted).restartHeat.dish = p.dish :=
  (Part.restartHeat_works _ []).moves.touches.dish rfl

theorem Part.restarted_stock (kind : Fin 4) :
    p.restarted.stock.get kind = (p.stock.get kind).soil (p.dish.plates kind) := by
  rw [p.restarted_eq, (Part.restartDesk_works _).moves.touches.stock rfl, Part.restartService_stock,
    p.restartHeat_dish, (Part.restartHeat_works _ []).moves.touches.stock rfl, Part.onLink_stock]

theorem Part.restarted_dish :
    ∃ ring overwrites, p.restarted.dish = p.dish.restarted ring overwrites ∧
      (p.dish.ring.length ≤ 64 →
        ring = (p.dish.ring ++ p.unverifiedRacks).drop ((p.dish.ring ++ p.unverifiedRacks).length - 64) ∧
        (p.dish.overwrites ≤ 65535 →
          overwrites = min 65535 (p.dish.overwrites + ((p.dish.ring ++ p.unverifiedRacks).length - 64)))) := by
  have uptime : (p.onLink Link.restarted).restartHeat.uptime = p.uptime :=
    (Part.restartHeat_works _ []).moves.touches.uptime rfl
  have tunnel := (p.onLink Link.restarted).restartHeat.restartService_dish
  rw [Part.unverifiedRacks, p.restartHeat_dish, uptime] at tunnel
  rw [p.restarted_eq, (Part.restartDesk_works _).moves.touches.dish rfl]
  exact tunnel

/-! ### The allocator -/

/-- The allocator as the service blocks leave it. -/
theorem Part.restarted_feeder_eq :
    p.restarted.feeder = (p.onLink Link.restarted).restartHeat.restartService.feeder := by
  rw [p.restarted_eq, (Part.restartDesk_works _).moves.touches.feeder rfl]

theorem Part.restarted_heater (n : Fin 16) :
    p.restarted.feeder.heaters.get n = { p.feeder.heaters.get n with
      cls := (p.restarted.feeder.heaters.get n).cls, locked := (p.restarted.feeder.heaters.get n).locked
      grant := 0, assigned := 0, delivered := 0, starve := 0, starved := false, output := false } := by
  have notices := (Part.restartService_notices (p.onLink Link.restarted).restartHeat).heater n
  rw [Part.restartHeat_heaters] at notices
  rw [p.restarted_feeder_eq]
  exact notices

theorem Part.restarted_feeder :
    p.restarted.feeder = { p.feeder with
      heaters := p.restarted.feeder.heaters, grantedTotal := 0, deliveredTotal := 0, pending := false
      reducedAck := p.asserted .feederReduce && decide (p.feeder.applied = p.feeder.reduced) } := by
  obtain ⟨heaters, feeder⟩ := (p.onLink Link.restarted).restartHeat_feeder
  have notices := (Part.restartService_notices (p.onLink Link.restarted).restartHeat).feeder
  rw [feeder] at notices
  rw [p.restarted_feeder_eq]
  exact notices

theorem Part.restarted_locked (n : Fin 16) (other : n ≠ 15) :
    (p.restarted.feeder.heaters.get n).locked = (p.feeder.heaters.get n).locked := by
  rw [p.restarted_feeder_eq, Part.restartService_locked _ n other, Part.restartHeat_heaters]
  rfl

theorem Part.restarted_unlocked (follows : (p.feeder.heaters.get 15).locked = p.dish.valveOpen) :
    (p.restarted.feeder.heaters.get 15).locked = false := by
  rw [p.restarted_feeder_eq]
  refine Part.restartService_unlocked _ ?_
  rw [Part.restartHeat_heaters, p.restartHeat_dish]
  exact follows

theorem Part.restarted_cls_cabinet (n : Fin 8) :
    (p.restarted.feeder.heaters.get (cabinetLoop n)).cls =
      if (p.cabinets.get n).mode = .service then .standby else (p.feeder.heaters.get (cabinetLoop n)).cls := by
  rw [p.restarted_feeder_eq, Part.restartService_cls_cabinet, Part.restartHeat_heaters, p.restartHeat_cabinets]
  rfl

theorem Part.restarted_cls_tunnel (n : Fin 16) (tunnel : 14 ≤ n.val) :
    (p.restarted.feeder.heaters.get n).cls = (p.feeder.heaters.get n).cls := by
  rw [p.restarted_feeder_eq, Part.restartService_cls_tunnel _ n tunnel, Part.restartHeat_heaters]
  rfl

/-- The ovens that waves hold in SERVICE stand in STANDBY again (R143). -/
theorem Part.restarted_cls_oven (n : Fin 6)
    (held : (p.feeder.heaters.get (ovenLoop n)).cls = .service →
      ∃ w v, p.waves.get w = some v ∧ v.state ≠ .planned ∧ v.state ≠ .closed ∧ n ∈ v.ovens)
    (noSanitise : (p.feeder.heaters.get (ovenLoop n)).cls ≠ .sanitise) :
    (p.restarted.feeder.heaters.get (ovenLoop n)).cls = .standby := by
  have waves : (p.onLink Link.restarted).restartHeat.waves = p.waves :=
    (Part.restartHeat_works _ []).moves.touches.waves rfl
  rw [p.restarted_feeder_eq]
  refine Part.restartService_cls_oven _ n ?_
  rw [Part.restartHeat_heaters, waves]
  cases cls : (p.feeder.heaters.get (ovenLoop n)).cls with
  | standby => exact Or.inl cls
  | sanitise => exact absurd cls noSanitise
  | service =>
    obtain ⟨w, v, wave, begun, standing, listed⟩ := held cls
    exact Or.inr ⟨w, v, wave, ⟨begun, standing⟩, listed⟩

/-! ## The desk -/

/-- The part as it stands before the interlock unit raises again what still holds. -/
def Part.restartBlank : Part := (p.onLink Link.restarted).restartHeat.restartService.restartConditions.restartPager

theorem Part.restartBlank_conds (i : Fin 87) : p.restartBlank.desk.conds.get i = {} := by
  rw [Part.restartBlank, Part.restartPager_conds, Part.restartConditions_conds]

theorem Part.restartBlank_pager : p.restartBlank.desk.pager = p.desk.pager.restarted := by
  rw [Part.restartBlank, Part.restartPager_pager, Part.restartConditions_pager,
    (Part.restartService_works _ []).moves.touches.pager rfl, (Part.restartHeat_works _ []).moves.touches.pager rfl]
  rfl

theorem Part.restartBlank_works :
    Works deskFoot everySlot (p.onLink Link.restarted).restartHeat.restartService p.restartBlank :=
  (Part.restartConditions_works _).trans (Part.restartPager_works _)

theorem Part.restartBlank_uptime : p.restartBlank.uptime = p.uptime := by
  rw [p.restartBlank_works.moves.touches.uptime rfl, (Part.restartService_works _ []).moves.touches.uptime rfl,
    (Part.restartHeat_works _ []).moves.touches.uptime rfl, Part.onLink_uptime]

theorem Part.restartBlank_interlock : p.restartBlank.interlock = p.interlock := by
  rw [p.restartBlank_works.moves.touches.interlock rfl, (Part.restartService_works _ []).moves.touches.interlock rfl,
    (Part.restartHeat_works _ []).moves.touches.interlock rfl, Part.onLink_interlock]

/-- What is raised again, in its order (log entry 11). -/
theorem Part.restarted_raises :
    p.restarted =
      (p.restartBlank.raiseIf p.interlock.trip hoodTripSlot).raiseIf (p.asserted .conveyorOverload) overloadSlot := by
  have raises := p.restartBlank.restartInterlock_eq
  rw [Part.asserted, p.restartBlank_interlock] at raises
  exact raises

theorem Part.restartBlank_sends : p.restartBlank.desk.Sends p.desk.pager.restarted.directory :=
  ⟨by rw [p.restartBlank_pager], by rw [p.restartBlank_conds]; rfl⟩

theorem Part.restarted_sends : p.restarted.desk.Sends p.desk.pager.restarted.directory := by
  rw [p.restarted_raises]
  exact Part.raiseIf_sends _ _ _ (Part.raiseIf_sends _ _ _ p.restartBlank_sends)

theorem Part.restarted_rest : DeskRest everySlot p.restartBlank.desk p.restarted.desk := by
  rw [p.restarted_raises]
  exact ((Part.raiseIf_works _ _ _).trans (Part.raiseIf_works _ _ _)).desk

theorem Part.restarted_slot {i : Fin 87} (noTrip : i ≠ hoodTripSlot) (noOverload : i ≠ overloadSlot)
    (answered : i ≠ unansweredSlot) : p.restarted.desk.conds.get i = {} := by
  rw [p.restarted_raises, Part.raiseIf_slot_ne _ _ _ noOverload answered, Part.raiseIf_slot_ne _ _ _ noTrip answered,
    p.restartBlank_conds]

theorem Part.restarted_hoodTrip :
    p.restarted.desk.conds.get hoodTripSlot =
      if p.interlock.trip then { state := .active, count := 1, first := p.uptime, last := p.uptime, param := 0 }
      else { state := .normal, count := 0, first := 0, last := 0, param := 0 } := by
  rw [p.restarted_raises, Part.raiseIf_slot_ne _ _ _ (by decide) (by decide),
    Part.raiseIf_slot _ _ _ (by decide) (by decide) (p.restartBlank_conds _), p.restartBlank_uptime]

theorem Part.restarted_overload :
    p.restarted.desk.conds.get overloadSlot =
      if p.asserted .conveyorOverload then
        { state := .active, count := 1, first := p.uptime, last := p.uptime, param := 0 }
      else { state := .normal, count := 0, first := 0, last := 0, param := 0 } := by
  have normal : (p.restartBlank.raiseIf p.interlock.trip hoodTripSlot).desk.conds.get overloadSlot = {} := by
    rw [Part.raiseIf_slot_ne _ _ _ (by decide) (by decide), p.restartBlank_conds]
  rw [p.restarted_raises, Part.raiseIf_slot _ _ _ (by decide) (by decide) normal, Part.raiseIf_uptime,
    p.restartBlank_uptime]

/-- Each raise pages by its route (R160, R183). -/
theorem Part.restarted_pages (t : State) (uptime : t.part.uptime = p.uptime)
    (conds : t.part.desk.conds = p.restarted.desk.conds) :
    ∃ g, raisedAgain p.interlock.trip hoodTripSlot 11 t p.desk.pager.restarted g ∧
      raisedAgain (p.asserted .conveyorOverload) overloadSlot 12 t g p.restarted.desk.pager := by
  have right : (t.part.desk.conds.get unansweredSlot).occurs = true := by
    rw [conds]
    exact p.restarted_sends.occurs
  have normal (i : Fin 87) : (p.restartBlank.desk.conds.get i).occurs = true := by
    rw [p.restartBlank_conds]
    rfl
  have hood := Part.raiseIf_raisedAgain p.interlock.trip hoodTripSlot p.restartBlank t (kind := 11) (by decide)
    (uptime.trans p.restartBlank_uptime.symm) (normal _) (normal _) right
  have ready : ((p.restartBlank.raiseIf p.interlock.trip hoodTripSlot).desk.conds.get overloadSlot).occurs = true := by
    rw [Part.raiseIf_slot_ne _ _ _ (by decide) (by decide)]
    exact normal _
  have overload := Part.raiseIf_raisedAgain (p.asserted .conveyorOverload) overloadSlot
    (p.restartBlank.raiseIf p.interlock.trip hoodTripSlot) t (kind := 12) (by decide)
    (by rw [uptime, Part.raiseIf_uptime, p.restartBlank_uptime]) ready
    (Part.raiseIf_sends _ _ _ p.restartBlank_sends).occurs right
  rw [p.restartBlank_pager] at hood
  rw [← p.restarted_raises] at overload
  exact ⟨_, hood, overload⟩

/-- With no trip and no overload the desk stays blank. -/
theorem Part.restarted_of_quiet (noTrip : p.interlock.trip = false) (noOverload : p.asserted .conveyorOverload = false) :
    p.restarted = p.restartBlank := by
  rw [p.restarted_raises, noTrip, noOverload]
  simp [Part.raiseIf]

/-! ## The change set and attention -/

/-- What the restart marks stands in the emptied change set, and called attention at the first mark. -/
theorem Part.restarted_link :
    ∃ held, p.restarted.desk.link = { p.desk.link with
      changeSet := held, attention := !held.isEmpty
      attentions := p.desk.link.attentions ++ if held.isEmpty then [] else [1] } := by
  obtain ⟨first, -, heat⟩ := ((p.onLink Link.restarted).restartHeat_works []).moves.marks
  obtain ⟨second, -, service⟩ := ((p.onLink Link.restarted).restartHeat.restartService_works []).moves.marks
  obtain ⟨third, -, desk⟩ := (p.onLink Link.restarted).restartHeat.restartService.restartDesk_works.moves.marks
  obtain ⟨held, marked⟩ := Link.withMarks_restarted (first ++ second ++ third) p.desk.link
  refine ⟨held, ?_⟩
  rw [← marked, Link.withMarks_append, Link.withMarks_append, p.restarted_eq, desk, service, heat]
  rfl

/-- Whatever the change set held and whatever attention was, the restart leaves the same. -/
theorem Part.restarted_onLink (f : Link → Link) (same : (f p.desk.link).restarted = p.desk.link.restarted) :
    (p.onLink f).restarted = p.restarted := by
  have start : (p.onLink f).onLink Link.restarted = p.onLink Link.restarted :=
    congrArg (fun link => { p with desk := { p.desk with link } }) same
  rw [Part.restarted_eq, start, ← Part.restarted_eq]

end Restarted

/-! ## The restart values -/

theorem exec_restart (tag : Byte) (s : State) :
    exec (.restart tag) s = .next (s.answer 0xF1 tag (s.part.restarted, { status := .ok })) := by
  simp only [exec, execRestart, restart]

end Sys2Proof.Machine
end

section
/-!
That what a warm restart leaves is what R193 asks for, clause by clause.
-/

namespace Sys2Proof.Machine

/-- What a warm restart leaves of the blocks. -/
structure RestartedBlocks (p q : Part) : Prop where
  uptime : q.uptime = p.uptime
  interlock : q.interlock = p.interlock
  programs : q.programs = p.programs
  next : q.scan.next = p.scan.next
  select : q.scan.select = p.scan.select
  entry : ∀ ch, q.scan.entries.get ch = (p.scan.entries.get ch).restarted
  loop : ∀ n, q.loops.get n = (p.loops.get n).restarted
  heater : ∀ n, q.feeder.heaters.get n = { p.feeder.heaters.get n with
    cls := (q.feeder.heaters.get n).cls, locked := (q.feeder.heaters.get n).locked
    grant := 0, assigned := 0, delivered := 0, starve := 0, starved := false, output := false }
  locked : ∀ n, n ≠ 15 → (q.feeder.heaters.get n).locked = (p.feeder.heaters.get n).locked
  unlocked : (p.feeder.heaters.get 15).locked = p.dish.valveOpen → (q.feeder.heaters.get 15).locked = false
  ovenClass : ∀ n, ((p.feeder.heaters.get (ovenLoop n)).cls = .service →
      ∃ w v, p.waves.get w = some v ∧ v.state ≠ .planned ∧ v.state ≠ .closed ∧ n ∈ v.ovens) →
    (p.feeder.heaters.get (ovenLoop n)).cls ≠ .sanitise → (q.feeder.heaters.get (ovenLoop n)).cls = .standby
  cabinetClass : ∀ n, (q.feeder.heaters.get (cabinetLoop n)).cls =
    if (p.cabinets.get n).mode = .service then .standby else (p.feeder.heaters.get (cabinetLoop n)).cls
  tunnelClass : ∀ n : Fin 16, 14 ≤ n.val → (q.feeder.heaters.get n).cls = (p.feeder.heaters.get n).cls
  feeder : q.feeder = { p.feeder with
    heaters := q.feeder.heaters, grantedTotal := 0, deliveredTotal := 0, pending := false
    reducedAck := p.asserted .feederReduce && decide (p.feeder.applied = p.feeder.reduced) }
  oven : ∀ n, q.ovens.get n = (p.ovens.get n).restarted
  cabinet : ∀ n, q.cabinets.get n = { p.cabinets.get n with mode := .off, waveSlot := none, waveSet := false }
  stock : ∀ kind, q.stock.get kind = (p.stock.get kind).soil (p.dish.plates kind)
  dish : q.dish = p.dish.restarted q.dish.ring q.dish.overwrites
  ring : p.dish.ring.length ≤ 64 →
    q.dish.ring = (p.dish.ring ++ p.unverifiedRacks).drop ((p.dish.ring ++ p.unverifiedRacks).length - 64) ∧
    (p.dish.overwrites ≤ 65535 →
      q.dish.overwrites = min 65535 (p.dish.overwrites + ((p.dish.ring ++ p.unverifiedRacks).length - 64)))
  wave : ∀ w, q.waves.get w = none

/-- What a warm restart leaves of the desk. -/
structure RestartedDesk (p q : Part) : Prop where
  slot : ∀ i, i ≠ hoodTripSlot → i ≠ overloadSlot → i ≠ unansweredSlot → q.desk.conds.get i = {}
  hoodTrip : q.desk.conds.get hoodTripSlot =
    if p.interlock.trip then { state := .active, count := 1, first := p.uptime, last := p.uptime, param := 0 }
    else { state := .normal, count := 0, first := 0, last := 0, param := 0 }
  overload : q.desk.conds.get overloadSlot =
    if p.asserted .conveyorOverload then
      { state := .active, count := 1, first := p.uptime, last := p.uptime, param := 0 }
    else { state := .normal, count := 0, first := 0, last := 0, param := 0 }
  routes : q.desk.pager.routes = p.desk.pager.routes
  backoff : q.desk.pager.backoff = p.desk.pager.backoff
  rx : q.desk.pager.rx = p.desk.pager.rx
  directory : q.desk.pager.directory = p.desk.pager.restarted.directory
  groups : ∀ g, q.desk.pager.groups.get g =
    { p.desk.pager.groups.get g with pointer := (q.desk.pager.groups.get g).pointer }
  pages : ∀ t : State, t.part.uptime = p.uptime → t.part.desk.conds = q.desk.conds →
    ∃ g, raisedAgain p.interlock.trip hoodTripSlot 11 t p.desk.pager.restarted g ∧
      raisedAgain (p.asserted .conveyorOverload) overloadSlot 12 t g q.desk.pager
  quiet : p.interlock.trip = false → p.asserted .conveyorOverload = false →
    q.desk.pager = p.desk.pager.restarted ∧ q.desk.conds.get unansweredSlot = {}
  link : ∃ held, q.desk.link = { p.desk.link with
    changeSet := held, attention := !held.isEmpty
    attentions := p.desk.link.attentions ++ if held.isEmpty then [] else [1] }

section Restart

variable (p : Part)

theorem Part.restarted_blocks : RestartedBlocks p p.restarted where
  uptime := p.restarted_uptime
  interlock := p.restarted_interlock
  programs := p.restarted_programs
  next := by rw [p.restarted_scan, Part.restartProbe_next, Part.onLink_scan]
  select := by rw [p.restarted_scan, Part.restartProbe_select, Part.onLink_scan]
  entry ch := by rw [p.restarted_scan, Part.restartProbe_entries, Part.onLink_scan]
  loop := p.restarted_loop
  heater := p.restarted_heater
  locked := p.restarted_locked
  unlocked := p.restarted_unlocked
  ovenClass := p.restarted_cls_oven
  cabinetClass := p.restarted_cls_cabinet
  tunnelClass := p.restarted_cls_tunnel
  feeder := p.restarted_feeder
  oven := p.restarted_oven
  cabinet := p.restarted_cabinet
  stock := p.restarted_stock
  dish := by
    obtain ⟨ring, overwrites, dish, -⟩ := p.restarted_dish
    rw [dish]
    rfl
  ring := by
    obtain ⟨ring, overwrites, dish, racks⟩ := p.restarted_dish
    rw [dish]
    exact racks
  wave := p.restarted_wave

theorem Part.restarted_desk : RestartedDesk p p.restarted where
  slot _ := p.restarted_slot
  hoodTrip := p.restarted_hoodTrip
  overload := p.restarted_overload
  routes := by rw [p.restarted_rest.routes, p.restartBlank_pager]; rfl
  backoff := by rw [p.restarted_rest.backoff, p.restartBlank_pager]; rfl
  rx := by rw [p.restarted_rest.rx, p.restartBlank_pager]; rfl
  directory := p.restarted_sends.directory
  groups g := by
    have kept := p.restarted_rest.groups g
    rwa [p.restartBlank_pager] at kept
  pages := p.restarted_pages
  quiet noTrip noOverload := by
    rw [p.restarted_of_quiet noTrip noOverload]
    exact ⟨p.restartBlank_pager, p.restartBlank_conds _⟩
  link := p.restarted_link

end Restart

section Answer

variable {s : State} {q : Part} {tag : Byte}

/-- The link once the restart is answered: its reply stands last, and an idle transmitter has taken up what waits. -/
theorem RestartedDesk.answer_link (h : RestartedDesk s.part q) :
    (s.answer 0xF1 tag (q, { status := .ok })).link = Link.kick { s.link with
      changeSet := (s.answer 0xF1 tag (q, { status := .ok })).link.changeSet
      attention := !(s.answer 0xF1 tag (q, { status := .ok })).link.changeSet.isEmpty
      attentions := s.link.attentions ++
        (if (s.answer 0xF1 tag (q, { status := .ok })).link.changeSet.isEmpty then [] else [1])
      replies := (s.answer 0xF1 tag (q, { status := .ok })).link.replies } := by
  obtain ⟨held, link⟩ := h.link
  have changeSet : (s.answer 0xF1 tag (q, { status := .ok })).link.changeSet = held := by
    rw [State.answer_changeSet, link]
  have replies : (s.answer 0xF1 tag (q, { status := .ok })).link.replies =
      s.link.replies ++ [{ kind := 0xF1, tag, status := .ok, pieces := [], buffered := false }] := by
    rw [State.answer_link, Link.kick_replies, link]
    rfl
  rw [changeSet, replies, State.answer_link, link]
  rfl

/-- A restart changes neither the receive buffers nor the receiver, and builds one reply. -/
theorem RestartedDesk.answer_rest (h : RestartedDesk s.part q) :
    (s.answer 0xF1 tag (q, { status := .ok })).link.replies =
        s.link.replies ++ [{ kind := 0xF1, tag, status := .ok, pieces := [], buffered := false }] ∧
      (s.answer 0xF1 tag (q, { status := .ok })).link.buffers = s.link.buffers ∧
      (s.answer 0xF1 tag (q, { status := .ok })).link.rx = s.link.rx := by
  obtain ⟨held, link⟩ := h.link
  rw [State.answer_link, Link.kick_replies, Link.kick_buffers, Link.kick_rx, link]
  exact ⟨rfl, rfl, rfl⟩

end Answer

/-- The restart looks at neither the change set nor attention. -/
theorem exec_restart_changeSet (tag : Byte) (s : State) (changeSet : List Mark) (attention : Bool) :
    exec (.restart tag) { s with part := { s.part with desk := { s.part.desk with
      link := { s.link with changeSet, attention } } } } =
        .next (s.answer 0xF1 tag (s.part.restarted, { status := .ok })) := by
  have same := s.part.restarted_onLink (fun k => { k with changeSet, attention }) rfl
  rw [exec_restart, ← same]
  rfl

/-- Settles O59: each clause is what the restart of its block, of the desk or of the link leaves. -/
theorem restartTakesTheRestartValues : Obligations.RestartTakesTheRestartValues := by
  intro s tag
  have blocks := s.part.restarted_blocks
  have desk := s.part.restarted_desk
  have taken := exec_restart tag s
  have again := exec_restart_changeSet tag s
  generalize s.part.restarted = q at blocks desk taken again
  obtain ⟨replies, buffers, rx⟩ := desk.answer_rest (tag := tag)
  have pager : s.part.desk.pager.restarted = { s.part.desk.pager with
      directory := q.desk.pager.directory, queue := [], outcomes := [], port := .idle } := by
    rw [desk.directory]
    rfl
  refine ⟨s.answer 0xF1 tag (q, { status := .ok }), taken, rfl, again, desk.answer_link, blocks.uptime,
    blocks.interlock, blocks.programs, replies, buffers, rx, blocks.next, blocks.select, blocks.entry, blocks.loop,
    blocks.heater, blocks.locked, blocks.unlocked, fun _ classed n => blocks.ovenClass n (classed n),
    blocks.cabinetClass, blocks.tunnelClass, blocks.feeder, fun n => (blocks.oven n).trans (Oven.restarted_eq _),
    blocks.cabinet, blocks.stock, blocks.dish, blocks.ring, blocks.wave, desk.slot, desk.hoodTrip, desk.overload,
    desk.routes, desk.backoff, desk.rx, fun e => ?_, desk.groups, ?_, fun noTrip noOverload => ?_⟩
  · rw [State.pager, State.answer_pager, desk.directory]
    exact Table.get_map _ _ _
  · have pages := desk.pages (s.answer 0xF1 tag (q, { status := .ok })) blocks.uptime rfl
    rw [pager] at pages
    exact pages
  · have quiet := desk.quiet noTrip noOverload
    rw [pager] at quiet
    exact quiet

end Sys2Proof.Machine
end

section
/-!
What each operation of a heat loop makes of its record (R17 to R38): an equation for each case of the cycle, the fields
that the operations leave, and the ranges that they keep.
-/

namespace Sys2Proof.Machine

/-! ## The cycle by the reading and the mode (R18 to R20) -/

section Cycle

variable (l : Loop) (pv : Int)

/-- The record on which a cycle's stages work: R19 has cleared the channel fault flag, R20 has judged the latch. -/
def Loop.judged : Loop := ({ l with timer := l.cfg.tcyc, chFault := false } : Loop).judgeLatch pv

theorem Loop.cycle_none :
    l.cycle none = { l with timer := l.cfg.tcyc, chFault := true, usedRound := l.grantRound, demand := 0 } := rfl

theorem Loop.cycle_auto (auto : ({ l with chFault := false } : Loop).mode = .auto) :
    l.cycle (some pv) =
      (if l.chFault then { l.judged pv with usedRound := l.grantRound } else l.judged pv).autoCycle pv l.chFault := by
  unfold Loop.cycle
  dsimp only
  split
  · rfl
  all_goals next mode => exact absurd (mode.symm.trans auto) (by simp)

theorem Loop.cycle_manual (manual : ({ l with chFault := false } : Loop).mode = .manual) :
    l.cycle (some pv) = (l.judged pv).manualCycle pv := by
  unfold Loop.cycle
  dsimp only
  split
  · next mode => exact absurd (mode.symm.trans manual) (by simp)
  · rfl
  all_goals next mode => exact absurd (mode.symm.trans manual) (by simp)

theorem Loop.cycle_off (off : ({ l with chFault := false } : Loop).mode = .off) :
    l.cycle (some pv) = (l.judged pv).offCycle pv := by
  unfold Loop.cycle
  dsimp only
  split
  iterate 2 next mode => exact absurd (mode.symm.trans off) (by simp)
  · rfl
  all_goals next mode => exact absurd (mode.symm.trans off) (by simp)

theorem Loop.cycle_inhibited (inhibited : ({ l with chFault := false } : Loop).mode = .inhibited) :
    l.cycle (some pv) = (l.judged pv).inhibitedCycle pv := by
  unfold Loop.cycle
  dsimp only
  split
  iterate 3 next mode => exact absurd (mode.symm.trans inhibited) (by simp)
  · rfl
  · next mode => exact absurd (mode.symm.trans inhibited) (by simp)

/-- A loop whose channel fault flag is clear reports no FAULT (R17). -/
theorem Loop.mode_ne_fault (clear : l.chFault = false) : l.mode ≠ .fault := by
  unfold Loop.mode
  rw [clear]
  cases l.inhibit <;> cases l.base <;> simp

end Cycle

/-! ## The fields that a cycle leaves -/

@[simp] theorem Loop.correct_cfg (l : Loop) : l.correct.cfg = l.cfg := by
  unfold Loop.correct
  split <;> rfl

@[simp] theorem Loop.correct_base (l : Loop) : l.correct.base = l.base := by
  unfold Loop.correct
  split <;> rfl

@[simp] theorem Loop.correct_inhibit (l : Loop) : l.correct.inhibit = l.inhibit := by
  unfold Loop.correct
  split <;> rfl

@[simp] theorem Loop.correct_sp (l : Loop) : l.correct.sp = l.sp := by
  unfold Loop.correct
  split <;> rfl

@[simp] theorem Loop.correct_ramp (l : Loop) : l.correct.ramp = l.ramp := by
  unfold Loop.correct
  split <;> rfl

@[simp] theorem Loop.correct_manOut (l : Loop) : l.correct.manOut = l.manOut := by
  unfold Loop.correct
  split <;> rfl

@[simp] theorem Loop.correct_latch (l : Loop) : l.correct.latch = l.latch := by
  unfold Loop.correct
  split <;> rfl

@[simp] theorem Loop.correct_chFault (l : Loop) : l.correct.chFault = l.chFault := by
  unfold Loop.correct
  split <;> rfl

@[simp] theorem Loop.correct_grantRound (l : Loop) : l.correct.grantRound = l.grantRound := by
  unfold Loop.correct
  split <;> rfl

/-- What a cycle is, for whatever holds of each of its cases (R18 to R20, R25 to R28). -/
theorem Loop.cycle_cases {motive : Loop → Prop} (l : Loop) (reading : Option Int)
    (fault : motive ({ l with timer := l.cfg.tcyc } : Loop).faultCycle)
    (auto : ∀ pv j, j = l.judged pv ∨ j = { l.judged pv with usedRound := l.grantRound } → j.mode = .auto →
      motive (j.autoCycle pv l.chFault))
    (manual : ∀ pv, (l.judged pv).mode = .manual → motive ((l.judged pv).manualCycle pv))
    (off : ∀ pv, (l.judged pv).mode = .off → motive ((l.judged pv).offCycle pv))
    (inhibited : ∀ pv, (l.judged pv).mode = .inhibited → motive ((l.judged pv).inhibitedCycle pv)) :
    motive (l.cycle reading) := by
  cases reading with
  | none => exact fault
  | some pv =>
    cases mode : ({ l with chFault := false } : Loop).mode with
    | auto =>
      rw [Loop.cycle_auto l pv mode]
      split
      · exact auto pv _ (Or.inr rfl) mode
      · exact auto pv _ (Or.inl rfl) mode
    | manual => exact Loop.cycle_manual l pv mode ▸ manual pv mode
    | off => exact Loop.cycle_off l pv mode ▸ off pv mode
    | inhibited => exact Loop.cycle_inhibited l pv mode ▸ inhibited pv mode
    | fault => exact absurd mode (Loop.mode_ne_fault _ rfl)

section Fields

variable (l : Loop) (reading : Option Int)

@[simp] theorem Loop.cycle_base : (l.cycle reading).base = l.base := by
  refine l.cycle_cases (motive := fun m => m.base = l.base) reading rfl ?_ (fun _ _ => rfl) (fun _ _ => rfl)
    (fun _ _ => rfl)
  rintro pv j (rfl | rfl) - <;> simp [Loop.autoCycle, Loop.judged, Loop.judgeLatch]

@[simp] theorem Loop.cycle_inhibit : (l.cycle reading).inhibit = l.inhibit := by
  refine l.cycle_cases (motive := fun m => m.inhibit = l.inhibit) reading rfl ?_ (fun _ _ => rfl) (fun _ _ => rfl)
    (fun _ _ => rfl)
  rintro pv j (rfl | rfl) - <;> simp [Loop.autoCycle, Loop.judged, Loop.judgeLatch]

@[simp] theorem Loop.cycle_cfg : (l.cycle reading).cfg = l.cfg := by
  refine l.cycle_cases (motive := fun m => m.cfg = l.cfg) reading rfl ?_ (fun _ _ => rfl) (fun _ _ => rfl)
    (fun _ _ => rfl)
  rintro pv j (rfl | rfl) - <;> simp [Loop.autoCycle, Loop.judged, Loop.judgeLatch]

@[simp] theorem Loop.cycle_sp : (l.cycle reading).sp = l.sp := by
  refine l.cycle_cases (motive := fun m => m.sp = l.sp) reading rfl ?_ (fun _ _ => rfl) (fun _ _ => rfl)
    (fun _ _ => rfl)
  rintro pv j (rfl | rfl) - <;> simp [Loop.autoCycle, Loop.judged, Loop.judgeLatch]

end Fields

/-! ## What the owning units ask (R31 to R34) -/

/-- The record after an owner's AUTO request, on the channel's reading (R33). -/
def Loop.autoAsked (reading : Option Int) (l : Loop) : Loop :=
  match l.base with
  | .auto | .manual => l
  | .off =>
    let a := { l with base := .auto, integ := 0, deriv := 0, uLast := 0, usedRound := l.grantRound }
    match a.mode with
    | .auto =>
      match reading with
      | some pv => ({ a with spf := pv, yPrev := a.cfg.derivInput pv pv } : Loop).cycle reading
      | none => a.cycle reading
    | .off | .manual | .fault | .inhibited => a

/-- The record after a release request, on the channel's reading (R34). -/
def Loop.released (reading : Option Int) (l : Loop) : Loop :=
  if !l.inhibit then l
  else
    let r := { l with inhibit := false }
    match r.mode with
    | .auto => ({ r with usedRound := r.grantRound } : Loop).cycle reading
    | .manual => { r with demand := r.post r.manOut }
    | .off | .fault | .inhibited => r

/-- The record after an inhibit request (R34). -/
def Loop.inhibited (l : Loop) : Loop :=
  if l.inhibit then l else { l with inhibit := true, demand := if l.chFault then l.demand else 0 }

/-- The record after an owner's OFF request (R32). -/
def Loop.stopped (l : Loop) : Loop :=
  { l with base := .off, integ := 0, deriv := 0, yPrev := 0, uLast := 0, demand := 0 }

/-- The record after a setpoint request (R31). -/
def Loop.asked (sp : Int) (l : Loop) : Loop := { l with sp := l.cfg.takenSetpoint sp }

section Requests

variable (p : Part) (n : Fin 16)

@[simp] theorem Part.setLoop_reading (l : Loop) (channel : Fin 23) :
    (p.setLoop n l).reading channel = p.reading channel := by
  simp only [Part.reading, Part.setLoop_scan]

theorem Part.requestSetpoint_loops (sp : Int) :
    (p.requestSetpoint n sp).loops = p.loops.set n ((p.loops.get n).asked sp) := Part.setLoop_loops p n _

theorem Part.ownerOff_loops : (p.ownerOff n).loops = p.loops.set n (p.loops.get n).stopped := Part.setLoop_loops p n _

theorem Part.inhibitLoop_loops : (p.inhibitLoop n).loops = p.loops.set n (p.loops.get n).inhibited := by
  unfold Part.inhibitLoop Loop.inhibited
  dsimp only
  split
  · rw [Table.set_get_self]
  · exact Part.setLoop_loops p n _

theorem Part.ownerAuto_loops :
    (p.ownerAuto n).loops = p.loops.set n ((p.loops.get n).autoAsked (p.reading (loopChannel n))) := by
  unfold Part.ownerAuto
  dsimp only
  split
  · next auto => simp [Loop.autoAsked, auto]
  · next manual => simp [Loop.autoAsked, manual]
  · next off =>
    split
    · next mode =>
      simp only [Loop.autoAsked, off, mode]
      split <;> next reading => simp [Part.loopCycle_loops, reading]
    all_goals next mode => simp [Loop.autoAsked, off, mode]

theorem Part.releaseLoop_loops :
    (p.releaseLoop n).loops = p.loops.set n ((p.loops.get n).released (p.reading (loopChannel n))) := by
  unfold Part.releaseLoop
  dsimp only
  split
  · next clear => simp [Loop.released, clear]
  · next set =>
    split
    all_goals next mode => simp [Loop.released, set, mode, Part.loopCycle_loops]

end Requests

section Fields

variable (l : Loop) (reading : Option Int)

@[simp] theorem Loop.autoAsked_inhibit : (l.autoAsked reading).inhibit = l.inhibit := by
  unfold Loop.autoAsked
  split
  · rfl
  · rfl
  · dsimp only
    split
    · split
      · exact Loop.cycle_inhibit _ _
      · exact Loop.cycle_inhibit _ _
    all_goals rfl

@[simp] theorem Loop.autoAsked_cfg : (l.autoAsked reading).cfg = l.cfg := by
  unfold Loop.autoAsked
  split
  · rfl
  · rfl
  · dsimp only
    split
    · split
      · exact Loop.cycle_cfg _ _
      · exact Loop.cycle_cfg _ _
    all_goals rfl

@[simp] theorem Loop.autoAsked_sp : (l.autoAsked reading).sp = l.sp := by
  unfold Loop.autoAsked
  split
  · rfl
  · rfl
  · dsimp only
    split
    · split
      · exact Loop.cycle_sp _ _
      · exact Loop.cycle_sp _ _
    all_goals rfl

@[simp] theorem Loop.autoAsked_base :
    (l.autoAsked reading).base = if l.base = .off then .auto else l.base := by
  unfold Loop.autoAsked
  split
  · next auto => simp [auto]
  · next manual => simp [manual]
  · next off =>
    rw [if_pos off]
    dsimp only
    split
    · split
      · exact Loop.cycle_base _ _
      · exact Loop.cycle_base _ _
    all_goals rfl

@[simp] theorem Loop.released_inhibit : (l.released reading).inhibit = false := by
  unfold Loop.released
  split
  · next clear => simpa using clear
  · dsimp only
    split
    · exact Loop.cycle_inhibit _ _
    all_goals rfl

@[simp] theorem Loop.released_base : (l.released reading).base = l.base := by
  unfold Loop.released
  split
  · rfl
  · dsimp only
    split
    · exact Loop.cycle_base _ _
    all_goals rfl

@[simp] theorem Loop.inhibited_inhibit : l.inhibited.inhibit = true := by
  unfold Loop.inhibited
  split
  · assumption
  · rfl

@[simp] theorem Loop.inhibited_base : l.inhibited.base = l.base := by
  unfold Loop.inhibited
  split <;> rfl

end Fields

end Sys2Proof.Machine
end

section
/-!
The ranges of a loop record (R23, R25, R31, R37, R38): what each operation of a loop keeps of them.
-/

namespace Sys2Proof.Machine

/-! ## Values held to their ranges -/

theorem clampI_within (x : Int) : -1000000 ≤ clampI x ∧ clampI x ≤ 1000000 :=
  ⟨le_clamp (by omega), clamp_le (by omega)⟩

theorem LoopConfig.InRange.limit {g : LoopConfig} (h : g.InRange) (x : Int) :
    g.satLow ≤ g.limit x ∧ g.limit x ≤ g.satHigh := by
  obtain ⟨low, -⟩ := h.sat
  have lower := le_clamp (x := x) (Int.ofNat_le.mpr low.le)
  have upper := clamp_le (x := x) (Int.ofNat_le.mpr low.le)
  unfold LoopConfig.limit
  omega

theorem LoopConfig.takenSetpoint_within (g : LoopConfig) (sp : Int) :
    0 ≤ g.takenSetpoint sp ∧ g.takenSetpoint sp ≤ g.maxSetpoint :=
  ⟨le_clamp (by omega), clamp_le (by omega)⟩

/-! ## The ranges in two halves: what is held, and the demand that is posted -/

/-- The ranges but those of the demand. -/
structure Loop.HeldInRange (l : Loop) : Prop where
  cfg : l.cfg.InRange
  integ : -1000000 ≤ l.integ ∧ l.integ ≤ 1000000
  sp : 0 ≤ l.sp ∧ l.sp ≤ l.cfg.maxSetpoint
  ramp : -1000 ≤ l.ramp ∧ l.ramp ≤ 1000
  manOut : l.cfg.satLow ≤ l.manOut ∧ l.manOut ≤ l.cfg.satHigh

theorem Loop.InRange.held {l : Loop} (h : l.InRange) : l.HeldInRange := ⟨h.cfg, h.integ, h.sp, h.ramp, h.manOut⟩

/-- A demand that a heating loop posts: an output within its limits, or 0 under the latch (R20, R25, R26). -/
theorem Loop.HeldInRange.posted {l : Loop} (h : l.HeldInRange) (heats : l.mode = .auto ∨ l.mode = .manual) {out : Nat}
    (within : l.cfg.satLow ≤ out ∧ out ≤ l.cfg.satHigh) (demand : l.demand = l.post out) : l.InRange where
  cfg := h.cfg
  integ := h.integ
  sp := h.sp
  ramp := h.ramp
  manOut := h.manOut
  heating clear _ := by
    rw [demand, Loop.post, if_neg (by simp [clear])]
    exact within
  latched set := by rw [demand, Loop.post, if_pos set]
  resting notAuto notManual := absurd heats (not_or.mpr ⟨notAuto, notManual⟩)

/-- A loop that does not heat has no demand (R27, R28, R32, R34). -/
theorem Loop.HeldInRange.rested {l : Loop} (h : l.HeldInRange) (rests : l.mode ≠ .auto ∧ l.mode ≠ .manual)
    (demand : l.demand = 0) : l.InRange where
  cfg := h.cfg
  integ := h.integ
  sp := h.sp
  ramp := h.ramp
  manOut := h.manOut
  heating _ heats := absurd heats (not_or.mpr rests)
  latched _ := demand
  resting _ _ := demand

/-- Fields outside the ranges may change. -/
theorem Loop.InRange.of {l m : Loop} (h : l.InRange) (held : m.HeldInRange) (limits : m.cfg = l.cfg := by rfl)
    (mode : m.mode = l.mode := by rfl) (latch : m.latch = l.latch := by rfl) (demand : m.demand = l.demand := by rfl) :
    m.InRange where
  cfg := held.cfg
  integ := held.integ
  sp := held.sp
  ramp := held.ramp
  manOut := held.manOut
  heating := by
    rw [mode, latch, demand, limits]
    exact h.heating
  latched := by
    rw [latch, demand]
    exact h.latched
  resting := by
    rw [mode, demand]
    exact h.resting

/-- A loop whose base mode is OFF does not heat (R17). -/
theorem Loop.rests_of_off {l : Loop} (off : l.base = .off) : l.mode ≠ .auto ∧ l.mode ≠ .manual := by
  unfold Loop.mode
  rw [off]
  cases l.chFault <;> cases l.inhibit <;> simp

/-- A loop with its channel fault flag set does not heat (R17). -/
theorem Loop.rests_of_fault {l : Loop} (fault : l.chFault = true) : l.mode ≠ .auto ∧ l.mode ≠ .manual := by
  unfold Loop.mode
  rw [fault]
  simp

/-- An inhibited loop does not heat (R17). -/
theorem Loop.rests_of_inhibit {l : Loop} (inhibit : l.inhibit = true) : l.mode ≠ .auto ∧ l.mode ≠ .manual := by
  unfold Loop.mode
  rw [inhibit]
  cases l.chFault <;> simp

/-! ## The cycle -/

section Cycle

variable {l : Loop} (h : l.HeldInRange)
include h

theorem Loop.HeldInRange.judged (pv : Int) : (l.judged pv).HeldInRange := ⟨h.cfg, h.integ, h.sp, h.ramp, h.manOut⟩

theorem Loop.HeldInRange.usedRound (round : Word) : ({ l with usedRound := round } : Loop).HeldInRange :=
  ⟨h.cfg, h.integ, h.sp, h.ramp, h.manOut⟩

theorem Loop.HeldInRange.faultCycle : l.faultCycle.InRange :=
  Loop.HeldInRange.rested ⟨h.cfg, h.integ, h.sp, h.ramp, h.manOut⟩ (Loop.rests_of_fault rfl) rfl

theorem Loop.HeldInRange.autoCycle (pv : Int) (resumed : Bool) (auto : l.mode = .auto) :
    (l.autoCycle pv resumed).InRange := by
  have mode : (l.autoCycle pv resumed).mode = l.mode := by
    simp only [Loop.mode, Loop.autoCycle, Loop.correct_chFault, Loop.correct_inhibit, Loop.correct_base]
  refine Loop.HeldInRange.posted ⟨?_, clampI_within _, ?_, ?_, ?_⟩ (Or.inl (mode.trans auto))
    (out := l.correct.cfg.limit (l.autoCycle pv resumed).uLast) ?_ rfl
  · simpa [Loop.autoCycle] using h.cfg
  · simpa [Loop.autoCycle] using h.sp
  · simpa [Loop.autoCycle] using h.ramp
  · simpa [Loop.autoCycle] using h.manOut
  · simpa [Loop.autoCycle] using h.cfg.limit _

theorem Loop.HeldInRange.manualCycle (pv : Int) (manual : l.mode = .manual) : (l.manualCycle pv).InRange :=
  Loop.HeldInRange.posted ⟨h.cfg, h.integ, h.sp, h.ramp, h.cfg.limit _⟩ (Or.inr manual)
    (out := l.cfg.limit ((l.manOut : Int) + l.ramp)) (h.cfg.limit _) rfl

theorem Loop.HeldInRange.offCycle (pv : Int) (off : l.mode = .off) : (l.offCycle pv).InRange :=
  Loop.HeldInRange.rested ⟨h.cfg, ⟨by simp [Loop.offCycle], by simp [Loop.offCycle]⟩, h.sp, h.ramp, h.manOut⟩
    (by change l.mode ≠ .auto ∧ l.mode ≠ .manual; simp [off]) rfl

theorem Loop.HeldInRange.inhibitedCycle (pv : Int) (inhibited : l.mode = .inhibited) :
    (l.inhibitedCycle pv).InRange :=
  Loop.HeldInRange.rested ⟨h.cfg, h.integ, h.sp, h.ramp, h.manOut⟩
    (by change l.mode ≠ .auto ∧ l.mode ≠ .manual; simp [inhibited]) rfl

/-- A cycle posts a demand in its range, whatever demand it found. -/
theorem Loop.HeldInRange.cycle (reading : Option Int) : (l.cycle reading).InRange := by
  refine l.cycle_cases reading ?_ ?_ (fun pv => (h.judged pv).manualCycle pv) (fun pv => (h.judged pv).offCycle pv)
    (fun pv => (h.judged pv).inhibitedCycle pv)
  · exact Loop.HeldInRange.faultCycle ⟨h.cfg, h.integ, h.sp, h.ramp, h.manOut⟩
  · rintro pv j (rfl | rfl) auto
    · exact (h.judged pv).autoCycle pv _ auto
    · exact ((h.judged pv).usedRound _).autoCycle pv _ auto

end Cycle

/-! ## Requests -/

section Requests

variable {l : Loop} (h : l.InRange)
include h

theorem Loop.InRange.asked (sp : Int) : (l.asked sp).InRange :=
  h.of ⟨h.cfg, h.integ, l.cfg.takenSetpoint_within sp, h.ramp, h.manOut⟩

theorem Loop.InRange.stopped : l.stopped.InRange :=
  Loop.HeldInRange.rested ⟨h.cfg, by simp [Loop.stopped], h.sp, h.ramp, h.manOut⟩ (Loop.rests_of_off rfl) rfl

theorem Loop.InRange.inhibited : l.inhibited.InRange := by
  unfold Loop.inhibited
  split
  · exact h
  · refine Loop.HeldInRange.rested ⟨h.cfg, h.integ, h.sp, h.ramp, h.manOut⟩ (Loop.rests_of_inhibit rfl) ?_
    dsimp only
    split
    · next fault =>
      obtain ⟨notAuto, notManual⟩ := Loop.rests_of_fault fault
      exact h.resting notAuto notManual
    · rfl

/-- An AUTO request posts by its cycle; without one, it finds the demand of a loop at rest (R33). -/
theorem Loop.InRange.autoAsked (reading : Option Int) : (l.autoAsked reading).InRange := by
  unfold Loop.autoAsked
  split
  · exact h
  · exact h
  · next off =>
    obtain ⟨notAuto, notManual⟩ := Loop.rests_of_off off
    have zero : l.demand = 0 := h.resting notAuto notManual
    dsimp only
    split
    · split
      all_goals
        apply Loop.HeldInRange.cycle
        exact ⟨h.cfg, by simp, h.sp, h.ramp, h.manOut⟩
    · next off' => exact Loop.HeldInRange.rested ⟨h.cfg, by simp, h.sp, h.ramp, h.manOut⟩ (by simp [off']) zero
    · next manual =>
      unfold Loop.mode at manual
      dsimp only at manual
      split at manual
      · cases manual
      · split at manual <;> cases manual
    · next fault => exact Loop.HeldInRange.rested ⟨h.cfg, by simp, h.sp, h.ramp, h.manOut⟩ (by simp [fault]) zero
    · next inhibited =>
      exact Loop.HeldInRange.rested ⟨h.cfg, by simp, h.sp, h.ramp, h.manOut⟩ (by simp [inhibited]) zero

/-- A release posts again where the loop heats (R34). -/
theorem Loop.InRange.released (reading : Option Int) : (l.released reading).InRange := by
  unfold Loop.released
  split
  · exact h
  · next inhibit =>
    have held : ({ l with inhibit := false } : Loop).HeldInRange := ⟨h.cfg, h.integ, h.sp, h.ramp, h.manOut⟩
    obtain ⟨notAuto, notManual⟩ := Loop.rests_of_inhibit (by simpa using inhibit : l.inhibit = true)
    have zero : l.demand = 0 := h.resting notAuto notManual
    dsimp only
    split
    · exact (held.usedRound _).cycle _
    · next manual => exact Loop.HeldInRange.posted ⟨h.cfg, h.integ, h.sp, h.ramp, h.manOut⟩ (Or.inr manual) h.manOut rfl
    all_goals next mode => exact held.rested (by simp [mode]) zero

/-- From AUTO to MANUAL (R35). -/
theorem Loop.InRange.toManual (auto : l.mode = .auto) : l.toManual.InRange := by
  have manual : l.toManual.mode = .manual := by
    unfold Loop.mode at auto
    split at auto
    · cases auto
    · split at auto
      · cases auto
      · next clear free => simp [Loop.mode, Loop.toManual, clear, free]
  exact Loop.HeldInRange.posted ⟨h.cfg, h.integ, h.sp, by simp [Loop.toManual], h.cfg.limit _⟩ (Or.inr manual)
    (h.cfg.limit l.demand) rfl

/-- From MANUAL to AUTO (R36). -/
theorem Loop.InRange.toAuto (reading : Option Int) (manual : l.mode = .manual) : (l.toAuto reading).InRange := by
  unfold Loop.toAuto
  split
  · exact Loop.HeldInRange.rested ⟨h.cfg, h.integ, h.sp, h.ramp, h.manOut⟩ (Loop.rests_of_fault rfl) rfl
  · refine ⟨h.cfg, clampI_within _, h.sp, h.ramp, h.manOut, fun clear _ => h.heating clear (Or.inr manual),
      h.latched, ?_⟩
    intro notAuto
    unfold Loop.mode at manual notAuto
    cases fault : l.chFault <;> cases inhibit : l.inhibit <;> simp [fault, inhibit] at manual notAuto

/-- SET MANUAL OUTPUT (R37). -/
theorem Loop.InRange.manualSet (manual : l.mode = .manual) (output ramp : Int) (low : -1000 ≤ ramp)
    (high : ramp ≤ 1000) :
    ({ l with
      manOut := l.cfg.limit output, ramp, uLast := l.cfg.limit output
      demand := l.post (l.cfg.limit output) } : Loop).InRange :=
  Loop.HeldInRange.posted ⟨h.cfg, h.integ, h.sp, ⟨low, high⟩, h.cfg.limit _⟩ (Or.inr manual) (h.cfg.limit _) rfl

/-- CONFIGURE LOOP (R38). -/
theorem Loop.InRange.configured {g : LoopConfig} (inRange : g.InRange) : (l.configured g).InRange := by
  have sp : 0 ≤ (if (g.maxSetpoint : Int) < l.sp then (g.maxSetpoint : Int) else l.sp) ∧
      (if (g.maxSetpoint : Int) < l.sp then (g.maxSetpoint : Int) else l.sp) ≤ g.maxSetpoint := by
    have := h.sp
    split <;> omega
  unfold Loop.configured
  dsimp only
  split
  · next manual =>
    exact Loop.HeldInRange.posted ⟨inRange, h.integ, sp, h.ramp, inRange.limit _⟩ (Or.inr manual) (inRange.limit _) rfl
  · next auto =>
    exact Loop.HeldInRange.posted ⟨inRange, h.integ, sp, h.ramp, inRange.limit _⟩ (Or.inl auto) (inRange.limit _) rfl
  all_goals next mode =>
    have rests : l.mode ≠ .auto ∧ l.mode ≠ .manual := by
      change l.mode = _ at mode
      simp [mode]
    exact Loop.HeldInRange.rested ⟨inRange, h.integ, sp, h.ramp, inRange.limit _⟩ rests (h.resting rests.1 rests.2)

/-- The restart values (R42). -/
theorem Loop.InRange.restarted : l.restarted.InRange := by
  obtain ⟨low, -⟩ := h.cfg.sat
  exact Loop.HeldInRange.rested ⟨h.cfg, by simp [Loop.restarted], by simp [Loop.restarted], by simp [Loop.restarted],
    ⟨le_refl _, low.le⟩⟩ (Loop.rests_of_off rfl) rfl

end Requests

/-- A CONFIGURE LOOP that is taken carries a configuration in range (R38). -/
theorem loopConfigOf_inRange {f : LoopFields} {g : LoopConfig} (h : loopConfigOf f = some g) : g.InRange := by
  unfold loopConfigOf at h
  split at h
  · next ok =>
    simp only [Bool.and_eq_true, within_iff, decide_eq_true_eq] at ok
    obtain ⟨⟨⟨⟨⟨⟨⟨⟨⟨⟨⟨tcyc, kc⟩, ti⟩, td⟩, n⟩, w⟩, low⟩, high⟩, sp⟩, limit⟩, hyst⟩, order⟩ := ok
    cases h
    exact ⟨tcyc, kc, ti.2, td.2, by dsimp only; omega, by dsimp only; omega, n, by dsimp only; omega, w,
      ⟨order, high.2⟩, sp.2, limit.2, hyst.2⟩
  · cases h

end Sys2Proof.Machine
end

section
/-!
What any work but that of the ovens and their doors makes of the loops: an oven's loop stays inhibited or free as it was
and is not taken out of OFF, and no loop leaves its ranges. One rule per operation, in the order of the chapters.
-/

namespace Sys2Proof.Machine

/-- Each line has an index of its own (section 10.1). -/
theorem lineIndex_injective {line other : Line} (same : lineIndex line = lineIndex other) : line = other := by
  cases line <;> cases other <;> simp only [lineIndex, Fin.ext_iff] at same <;> first | rfl | grind

/-- What work that no oven asks for makes of a loop's record. -/
structure Loop.Follows (n : Fin 16) (l m : Loop) : Prop where
  inhibit : m.inhibit = l.inhibit
  inRange : l.InRange → m.InRange
  rests : n.val < 6 → l.base = .off → m.base = .off

theorem Loop.Follows.refl (n : Fin 16) (l : Loop) : l.Follows n l := ⟨rfl, id, fun _ => id⟩

theorem Loop.Follows.trans {n : Fin 16} {l m k : Loop} (h : l.Follows n m) (g : m.Follows n k) : l.Follows n k :=
  ⟨g.inhibit.trans h.inhibit, fun r => g.inRange (h.inRange r), fun oven off => g.rests oven (h.rests oven off)⟩

/-- A loop of a cabinet or the tunnel may also change its base mode. -/
theorem Loop.Follows.served {n : Fin 16} (notOven : 6 ≤ n.val) {l m : Loop} (inhibit : m.inhibit = l.inhibit)
    (inRange : l.InRange → m.InRange) : l.Follows n m :=
  ⟨inhibit, inRange, fun oven => absurd oven (by omega)⟩

/-- What work that no oven asks for makes of the records that the ovens and the loops share. -/
structure HeatFollows (p q : Part) : Prop where
  loops : ∀ n, (p.loops.get n).Follows n (q.loops.get n)
  ovens : q.ovens = p.ovens
  programs : q.programs = p.programs
  doors : ∀ n, q.asserted (.ovenDoor n) = p.asserted (.ovenDoor n)

namespace HeatFollows

/-- A cabinet's loop is no oven's (00_scope.md, section 7). -/
theorem cabinetLoop_served (n : Fin 8) : 6 ≤ (cabinetLoop n).val := Nat.le_add_left 6 n.val

theorem refl (p : Part) : HeatFollows p p := ⟨fun n => .refl n _, rfl, rfl, fun _ => rfl⟩

theorem trans {p q r : Part} (h : HeatFollows p q) (k : HeatFollows q r) : HeatFollows p r :=
  ⟨fun n => (h.loops n).trans (k.loops n), k.ovens.trans h.ovens, k.programs.trans h.programs,
    fun n => (k.doors n).trans (h.doors n)⟩

/-- Whichever of two ways is taken. -/
theorem either {c : Prop} [Decidable c] {b p q : Part} (hp : HeatFollows b p) (hq : HeatFollows b q) :
    HeatFollows b (if c then p else q) := by
  split
  · exact hp
  · exact hq

theorem eitherAnswer {c : Prop} [Decidable c] {b : Part} {x y : Part × Answer} (hx : HeatFollows b x.1)
    (hy : HeatFollows b y.1) : HeatFollows b (if c then x else y).1 := by
  split
  · exact hx
  · exact hy

/-- The part of an answer. -/
theorem answered {b p : Part} {a : Answer} (h : HeatFollows b p) : HeatFollows b (p, a).1 := h

section Operations

variable {b p : Part} (h : HeatFollows b p)
include h

/-- Work that reaches none of those records. -/
theorem same {q : Part} (loops : q.loops = p.loops := by rfl) (ovens : q.ovens = p.ovens := by rfl)
    (programs : q.programs = p.programs := by rfl) (interlock : q.interlock = p.interlock := by rfl) :
    HeatFollows b q :=
  h.trans ⟨fun n => loops ▸ .refl n _, ovens, programs, fun n => by simp only [Part.asserted, interlock]⟩

theorem touches {f : Footprint} {q : Part} (t : Touches f p q) (loops : f.loops = false := by rfl)
    (ovens : f.ovens = false := by rfl) (programs : f.programs = false := by rfl)
    (interlock : f.interlock = false := by rfl) : HeatFollows b q :=
  h.same (t.loops loops) (t.ovens ovens) (t.programs programs) (t.interlock interlock)

theorem works {f : Footprint} {own : List (Fin 87)} {q : Part} (w : Works f own p q) (loops : f.loops = false := by rfl)
    (ovens : f.ovens = false := by rfl) (programs : f.programs = false := by rfl)
    (interlock : f.interlock = false := by rfl) : HeatFollows b q :=
  h.touches w.moves.touches loops ovens programs interlock

theorem mark {c : MarkClass} {i : Nat} : HeatFollows b (p.mark c i) := h.same

theorem raise {slot : Fin 87} {param : Half} : HeatFollows b (p.raise slot param) := h.same

theorem ret {slot : Fin 87} : HeatFollows b (p.ret slot) := h.same

theorem cancelNotice {source : Source} : HeatFollows b (p.cancelNotice source) := h.same

theorem onPager {f : Pager → Pager} : HeatFollows b (p.onPager f) := h.same

theorem onDesk {f : Word → Desk → Desk} : HeatFollows b (p.onDesk f) := h.same

theorem setWave {w : Fin 12} {v : Option Wave} : HeatFollows b (p.setWave w v) :=
  h.works (Part.setWave_works p [] w v)

theorem setCabinet {n : Fin 8} {c : Cabinet} : HeatFollows b (p.setCabinet n c) :=
  h.works (Part.setCabinet_works p [] n c)

theorem setStock {kind : Fin 4} {s : Stock} : HeatFollows b (p.setStock kind s) :=
  h.works (Part.setStock_works p [] kind s)

theorem setDish {d : Dish} : HeatFollows b (p.setDish d) := h.works (Part.setDish_works p [] d)

theorem plateNotice {kind : Fin 4} : HeatFollows b (p.plateNotice kind) := h.works (Part.plateNotice_works p kind)

/-- Work done in turn. -/
theorem foldl {α : Type} {act : Part → α → Part} (each : ∀ q a, HeatFollows b q → HeatFollows b (act q a))
    (items : List α) : HeatFollows b (items.foldl act p) := by
  induction items generalizing p with
  | nil => exact h
  | cons a rest ih => exact ih (each p a h)

theorem eachSlot {act : Fin 12 → Part → Part} (each : ∀ w q, HeatFollows b q → HeatFollows b (act w q)) :
    HeatFollows b (p.eachSlot act) := h.foldl (fun q w => each w q) _

theorem onWave {w : Fin 12} {act : Wave → Part → Part} (each : ∀ v, HeatFollows b (act v p)) :
    HeatFollows b (p.onWave w act) := by
  unfold Part.onWave
  split
  · exact each _
  · exact h

/-! ### Loops -/

/-- One loop takes a record that follows its own. -/
theorem setOneLoop {q : Part} {n : Fin 16} {l : Loop} (follows : (p.loops.get n).Follows n l)
    (loops : q.loops = p.loops.set n l) (ovens : q.ovens = p.ovens) (programs : q.programs = p.programs)
    (interlock : q.interlock = p.interlock) : HeatFollows b q := by
  refine h.trans ⟨fun m => ?_, ovens, programs, fun x => by simp only [Part.asserted, interlock]⟩
  rw [loops, Table.get_set]
  split
  · next same => exact same ▸ follows
  · exact .refl m _

theorem setLoop {n : Fin 16} {l : Loop} (follows : (p.loops.get n).Follows n l) : HeatFollows b (p.setLoop n l) :=
  h.setOneLoop follows (by simp) (by simp) (by simp) (by simp)

theorem loopCycle {n : Fin 16} : HeatFollows b (p.loopCycle n) :=
  have t := (Part.loopCycle_works p n).moves.touches
  h.setOneLoop ⟨Loop.cycle_inhibit _ _, fun r => r.held.cycle _, fun _ off => by rwa [Loop.cycle_base]⟩
    (Part.loopCycle_loops p n) (t.ovens rfl) (t.programs rfl) (t.interlock rfl)

theorem requestSetpoint {n : Fin 16} {sp : Int} : HeatFollows b (p.requestSetpoint n sp) :=
  h.setLoop (l := (p.loops.get n).asked sp) ⟨rfl, fun r => r.asked sp, fun _ => id⟩

theorem ownerOff {n : Fin 16} : HeatFollows b (p.ownerOff n) :=
  h.setLoop (l := (p.loops.get n).stopped) ⟨rfl, fun r => r.stopped, fun _ _ => rfl⟩

theorem ownerAuto {n : Fin 16} (served : 6 ≤ n.val) : HeatFollows b (p.ownerAuto n) :=
  have t := (Part.ownerAuto_works p n).moves.touches
  h.setOneLoop (.served served (Loop.autoAsked_inhibit _ _) fun r => r.autoAsked _) (Part.ownerAuto_loops p n)
    (t.ovens rfl) (t.programs rfl) (t.interlock rfl)

/-! ### The feeder allocator -/

/-- A grant is not among the ranges. -/
theorem reportGrants : HeatFollows b p.reportGrants := by
  refine h.trans ⟨fun n => ?_, rfl, rfl, fun _ => rfl⟩
  rw [Part.reportGrants, Table.get_ofFn]
  exact ⟨rfl, fun r => r.of ⟨r.cfg, r.integ, r.sp, r.ramp, r.manOut⟩, fun _ => id⟩

theorem allocationRound : HeatFollows b p.allocationRound := by
  have applied : HeatFollows b ({ p with feeder := p.feeder.applyBudget } : Part).judgeReducedAck := h.same
  exact (applied.works (Part.storeGrants_works _ [])).reportGrants.foldl
    (fun q n k => k.works (Part.judgeStarved_works q n)) _

/-! ### Cabinets -/

theorem runCabinetLoop {n : Fin 8} {mode : CabinetMode} : HeatFollows b (p.runCabinetLoop n mode) := by
  unfold Part.runCabinetLoop
  split
  · exact h.ownerOff
  · exact h.requestSetpoint.ownerAuto (cabinetLoop_served n)
  · exact h.requestSetpoint.ownerAuto (cabinetLoop_served n)

theorem changeMode {n : Fin 8} {mode : CabinetMode} {waveSet : Bool} :
    HeatFollows b (p.changeMode n mode waveSet) :=
  either h.setCabinet (h.setCabinet.runCabinetLoop.works (Part.classNotice_works _ [] _ _))

theorem evaluateLow {n : Fin 8} : HeatFollows b (p.evaluateLow n) := h.works (Part.evaluateLow_works p [] n)

theorem serviceNotice {n : Fin 8} : HeatFollows b (p.serviceNotice n) := by
  unfold Part.serviceNotice
  split
  · exact h.changeMode
  · exact h.changeMode
  · exact h

theorem releaseNotice {n : Fin 8} : HeatFollows b (p.releaseNotice n) :=
  either h.setCabinet.changeMode h.setCabinet.setCabinet

/-! ### Waves -/

theorem ovenClasses {v : Wave} {c : HeaterClass} : HeatFollows b (p.ovenClasses v c) :=
  h.works (Part.ovenClasses_works p [] v c)

theorem enterPreparing {w : Fin 12} {v : Wave} : HeatFollows b (p.enterPreparing w v) :=
  (h.setWave.foldl (fun _ _ k => k.serviceNotice) v.cabinets).ovenClasses.works (Part.plateCheck_works _ w)

/-- The judgement of a wave (R130). -/
theorem judgeWave {w : Fin 12} : HeatFollows b (p.judgeWave w) := by
  have planned : HeatFollows b (p.judgePlanned w) := h.onWave fun _ => either h.enterPreparing h
  exact ((planned.works (Part.judgePreparing_works _ w)).works (Part.judgeDue_works _ w)).works
    (Part.judgeStanding_works _ w)

/-- The wave closes (R139). -/
theorem closeWave {w : Fin 12} {v : Wave} : HeatFollows b (p.closeWave w v) := by
  have released := h.setWave (w := w) (v := some { v with state := .closed }) |>.foldl
    (fun _ n k => k.releaseNotice (n := n)) v.cabinets
  have classed := either (c := v.state = .planned) released (released.ovenClasses (v := v) (c := .standby))
  have unshort := either (c := v.short = true)
    (classed.setWave (w := w) (v := some { v with state := .closed, short := false })
      |>.ret (slot := platesShortSlot w))
    classed
  exact (either unshort.setWave.ret unshort).cancelNotice

theorem issueNotice {w : Fin 12} {count : Nat} : HeatFollows b (p.issueNotice w count) := by
  refine h.onWave fun v => either ?_ h
  have judged := h.setWave (w := w) (v := some { v with issued := min 65535 (v.issued + count) }) |>.judgeWave (w := w)
  exact judged.onWave fun _ => either judged.closeWave judged

theorem countdownTick {w : Fin 12} : HeatFollows b (p.countdownTick w) :=
  h.onWave fun _ => either h.setWave.judgeWave h

theorem createWave {w : Fin 12} {v : Wave} : HeatFollows b (p.createWave w v) :=
  (h.setWave.foldl (fun q n k => k.works (Part.holdNotice_works q [] w n)) v.cabinets).judgeWave

/-! ### Plates -/

theorem cabinetMoved {n : Fin 8} : HeatFollows b (p.cabinetMoved n) := h.works (Part.cabinetMoved_works p n)

theorem issueFrom {n : Fin 8} {count : Nat} : HeatFollows b (p.issueFrom n count) := by
  have moved := h.setCabinet (n := n)
    (c := { p.cabinets.get n with batches := takeOldest count (p.cabinets.get n).batches }) |>.setStock
      (kind := (p.cabinets.get n).kind)
      (s := { p.stock.get (p.cabinets.get n).kind with
        issued := (p.stock.get (p.cabinets.get n).kind).issued + count })
  unfold Part.issueFrom
  dsimp only
  split
  · exact (either moved.issueNotice moved).cabinetMoved
  · exact moved.cabinetMoved

theorem trimCabinetLoop {n : Fin 8} {before after : Cabinet} : HeatFollows b (p.trimCabinetLoop n before after) := by
  unfold Part.trimCabinetLoop
  split
  · exact h
  · exact either h h.requestSetpoint
  · exact either h h.requestSetpoint

theorem readinessNotice {before after : Cabinet} : HeatFollows b (p.readinessNotice before after) :=
  either h h.plateNotice

/-! ### The dish tunnel -/

theorem judgeGate : HeatFollows b p.judgeGate := h.setDish

theorem judgeValve : HeatFollows b p.judgeValve := h.works (Part.judgeValve_works p [])

theorem dishLoopsAuto : HeatFollows b p.dishLoopsAuto :=
  (h.requestSetpoint.requestSetpoint.ownerAuto (n := 14) (by decide)).ownerAuto (n := 15) (by decide)

theorem dishLoopsOff : HeatFollows b p.dishLoopsOff := h.ownerOff.ownerOff

theorem stopTunnel {state : DishState} {reasons : HoldReasons} : HeatFollows b (p.stopTunnel state reasons) :=
  h.works (Part.stopTunnel_works p [] state reasons)

theorem clearTunnel : HeatFollows b (p.clearTunnel true) := h.works (Part.clearTunnel_works p true)

theorem tripTunnel : HeatFollows b p.tripTunnel := either h h.clearTunnel.stopTunnel.dishLoopsOff

theorem tripTunnelExit : HeatFollows b p.tripTunnelExit :=
  either (either h.setDish.dishLoopsAuto.setDish.judgeGate.judgeValve h.setDish.dishLoopsAuto) h

theorem trimDishLoops {before after : DishConfig} : HeatFollows b (p.trimDishLoops before after) := by
  have wash := either (c := after.washSp = before.washSp) h (h.requestSetpoint (n := 14) (sp := after.washSp))
  exact either (either wash wash.requestSetpoint) h

theorem switchOff : HeatFollows b p.switchOff := by
  have off := h.clearTunnel.stopTunnel (state := .off) (reasons := {}) |>.dishLoopsOff
  exact either off.setDish.ret off.setDish

/-! ### Lines -/

/-- A line that keeps its filtered state, or is no oven's door. -/
theorem setLine {line : Line} {l : LineState}
    (still : l.filtered = (p.line line).filtered ∨ ∀ n, line ≠ .ovenDoor n) : HeatFollows b (p.setLine line l) := by
  refine h.trans ⟨fun n => .refl n _, rfl, rfl, fun n => ?_⟩
  simp only [Part.asserted, Part.setLine_lines, Table.get_set]
  split
  · next same =>
    rcases still with still | other
    · rw [still, Part.line, same]
    · exact absurd (lineIndex_injective same).symm (other n)
  · rfl

theorem leaveTrip : HeatFollows b p.leaveTrip := by
  have left : HeatFollows b
      ({ p with interlock := { p.interlock with trip := false, driveEnable := true } } : Part) :=
    h.trans ⟨fun n => .refl n _, rfl, rfl, fun _ => rfl⟩
  exact left.ret.tripTunnelExit

/-- The trip flag, the drive enable and the grants, at trip entry (R181, R55). -/
theorem tripGrants :
    HeatFollows b
      ({ p with interlock := { p.interlock with trip := true, driveEnable := false } } : Part).cutGrants := by
  have tripped : HeatFollows b
      ({ p with interlock := { p.interlock with trip := true, driveEnable := false } } : Part) :=
    h.trans ⟨fun n => .refl n _, rfl, rfl, fun _ => rfl⟩
  exact tripped.works (Part.cutGrants_works _ [])

theorem encoderPulse : HeatFollows b p.encoderPulse := by
  have travelled : HeatFollows b
      ({ p with interlock := { p.interlock with travel := p.interlock.travel + 1 } } : Part) :=
    h.trans ⟨fun n => .refl n _, rfl, rfl, fun _ => rfl⟩
  exact travelled.works (Part.tunnelPulse_works _)

end Operations

end HeatFollows

end Sys2Proof.Machine
end

section
/-!
Requests, events and frames make of the loops what their operations make of them; the requests and events of the ovens
apart. An invariant of the loops and the ovens is then kept by every step, where it is kept by those.
-/

namespace Sys2Proof.Machine

namespace HeatFollows

section Requests

variable {b p : Part} (h : HeatFollows b p)
include h

theorem clearFresh {ch : Fin 23} : HeatFollows b (p.clearFresh ch) := h.same

theorem setEntry {ch : Fin 23} {e : Entry} : HeatFollows b (p.setEntry ch e) := h.works (Part.setEntry_works p [] ch e)

theorem setHeater {n : Fin 16} {a : Heater} : HeatFollows b (p.setHeater n a) := h.works (Part.setHeater_works p [] n a)

theorem readChannel {channel : Byte} : HeatFollows b (Machine.readChannel channel p).1 := by
  unfold Machine.readChannel
  split
  · exact h
  · exact h.clearFresh

theorem readChannels {first count : Byte} : HeatFollows b (Machine.readChannels first count p).1 :=
  eitherAnswer h (h.foldl (fun _ _ k => k.clearFresh) _)

theorem configureChannel {channel enable : Byte} {gain offset : Half} :
    HeatFollows b (Machine.configureChannel channel gain offset enable p).1 := by
  unfold Machine.configureChannel
  split
  · exact eitherAnswer h (either h.setEntry.mark.ret h.setEntry.mark)
  · exact h

/-- AUTO and MANUAL change places; OFF is neither taken nor left (R35, R36). -/
theorem setLoopMode {loop mode : Byte} : HeatFollows b (Machine.setLoopMode loop mode p).1 := by
  unfold Machine.setLoopMode
  split
  · exact h
  · dsimp only
    split
    · split
      · exact h
      · next manual =>
        refine h.setLoop ⟨?_, fun r => r.toAuto _ manual, fun _ off => absurd manual (Loop.rests_of_off off).2⟩
        unfold Loop.toAuto
        split <;> rfl
      all_goals exact h
    · split
      · split
        · exact h
        · next auto =>
          exact h.setLoop ⟨rfl, fun r => r.toManual auto, fun _ off => absurd auto (Loop.rests_of_off off).1⟩
        all_goals exact h
      · exact h

theorem setManualOutput {loop : Byte} {output ramp : Half} :
    HeatFollows b (Machine.setManualOutput loop output ramp p).1 := by
  unfold Machine.setManualOutput
  split
  · exact h
  · dsimp only
    split
    · next ok =>
      simp only [Bool.and_eq_true, decide_eq_true_eq] at ok
      split
      · next manual =>
        refine (h.setLoop ?_).mark
        exact ⟨rfl, fun r => r.manualSet manual _ _ ok.1.2 ok.2, fun _ => id⟩
      all_goals exact h
    · exact h

theorem setLoopSetpoint {loop : Byte} {setpoint : Half} :
    HeatFollows b (Machine.setLoopSetpoint loop setpoint p).1 := by
  unfold Machine.setLoopSetpoint
  split
  · exact h
  · exact h.requestSetpoint


theorem configureLoop {loop : Byte} {f : LoopFields} : HeatFollows b (Machine.configureLoop loop f p).1 := by
  unfold Machine.configureLoop
  split
  · next n g _ taken =>
    have follows : (p.loops.get n).Follows n ((p.loops.get n).configured g) := by
      refine ⟨?_, fun r => r.configured (loopConfigOf_inRange taken), fun _ off => ?_⟩
      · unfold Loop.configured
        dsimp only
        split <;> rfl
      · unfold Loop.configured
        dsimp only
        split <;> exact off
    exact (h.setLoop follows).mark
  · exact h

theorem configureHeater {heater : Byte} {rated : Half} : HeatFollows b (Machine.configureHeater heater rated p).1 := by
  unfold Machine.configureHeater
  split
  · exact h
  · split
    · exact h
    · split
      · exact h
      · exact h
      · exact h.setHeater.same

theorem configureFeeder {limit reduced : Word} {starveTime : Half} :
    HeatFollows b (Machine.configureFeeder limit reduced starveTime p).1 :=
  eitherAnswer h h.same

theorem configureCabinet {cabinet : Byte} {f : CabinetFields} :
    HeatFollows b (Machine.configureCabinet cabinet f p).1 := by
  unfold Machine.configureCabinet
  split
  · exact h
  · dsimp only
    split
    · exact h
    · exact eitherAnswer h (eitherAnswer h (answered h.setCabinet.mark.trimCabinetLoop.readinessNotice.evaluateLow))

theorem setCabinetMode {cabinet mode : Byte} : HeatFollows b (Machine.setCabinetMode cabinet mode p).1 := by
  unfold Machine.setCabinetMode
  split
  · exact h.changeMode
  · exact h

theorem stockAdd {kind : Byte} {count : Half} : HeatFollows b (Machine.stockAdd kind count p).1 := by
  unfold Machine.stockAdd
  split
  · exact h
  · exact eitherAnswer h (answered h.setStock.plateNotice)

theorem writeOff {kind location : Byte} {count : Half} : HeatFollows b (Machine.writeOff kind location count p).1 := by
  unfold Machine.writeOff
  split
  · exact eitherAnswer h (either h (h.works (Part.writeOffAt_works p _ _ _)))
  · exact h

theorem load {cabinet : Byte} {count : Half} : HeatFollows b (Machine.load cabinet count p).1 := by
  unfold Machine.load
  split
  · exact h
  · exact eitherAnswer h (eitherAnswer h (either h (h.works (Part.loadCabinet_works p _ _))))

theorem issue {cabinet : Byte} {count : Half} : HeatFollows b (Machine.issue cabinet count p).1 := by
  unfold Machine.issue
  split
  · exact h
  · exact eitherAnswer h (either h h.issueFrom)

theorem unloadPlates {cabinet : Byte} {count : Half} : HeatFollows b (Machine.unloadPlates cabinet count p).1 := by
  unfold Machine.unloadPlates
  split
  · exact h
  · exact eitherAnswer h (either h (h.works (Part.unloadFrom_works p _ _)))

theorem returnPlates {kind : Byte} {count : Half} : HeatFollows b (Machine.returnPlates kind count p).1 := by
  unfold Machine.returnPlates
  split
  · exact h
  · exact eitherAnswer h (either h h.setStock.plateNotice)

theorem configureDish {f : DishFields} : HeatFollows b (Machine.configureDish f p).1 := by
  unfold Machine.configureDish
  split
  · exact h
  · exact eitherAnswer h h.setDish.mark.trimDishLoops

theorem dishOn : HeatFollows b (Machine.dishOn p).1 := by
  refine eitherAnswer h ?_
  split
  · exact h.setDish.dishLoopsAuto.judgeGate
  all_goals exact h

theorem runTunnel : HeatFollows b (Machine.runTunnel p).1 :=
  eitherAnswer h (eitherAnswer h.setDish.judgeGate.judgeValve h)

theorem stop : HeatFollows b (Machine.stop p).1 := by
  unfold Machine.stop
  split
  · exact h.stopTunnel
  all_goals exact h

theorem dishOff : HeatFollows b (Machine.dishOff p).1 := by
  unfold Machine.dishOff
  split
  · exact h
  all_goals exact h.switchOff

theorem declareRack {kind count : Byte} : HeatFollows b (Machine.declareRack kind count p).1 := by
  unfold Machine.declareRack
  split
  · exact h
  · exact eitherAnswer h (eitherAnswer h h.setDish)

theorem takeRacks {maximum : Byte} : HeatFollows b (Machine.takeRacks maximum p).1 := eitherAnswer h h.setDish

theorem clearRingCount : HeatFollows b (Machine.clearRingCount p).1 := h.setDish

theorem create {f : CreateFields} : HeatFollows b (Machine.create f p).1 := by
  unfold Machine.create
  split
  · exact h
  · refine eitherAnswer h (eitherAnswer h (eitherAnswer h ?_))
    split
    · exact h
    · exact h.createWave

theorem amend {slot number : Byte} {covers lead : Half} {due : Word} :
    HeatFollows b (Machine.amend slot number covers due lead p).1 := by
  unfold Machine.amend
  split
  · exact h
  · refine eitherAnswer ?_ h
    split
    iterate 3 exact (either h.setWave.mark.ret h.setWave.mark).judgeWave
    all_goals exact h

theorem release {slot number : Byte} : HeatFollows b (Machine.release slot number p).1 := by
  unfold Machine.release
  split
  · exact h
  · split
    iterate 2 exact (h.setWave.foldl (fun _ _ k => k.evaluateLow) _).judgeWave
    all_goals exact h

theorem close {slot number : Byte} : HeatFollows b (Machine.close slot number p).1 := by
  unfold Machine.close
  split
  · exact h
  · split
    iterate 5 exact h.closeWave
    · exact h

theorem delete {slot number : Byte} : HeatFollows b (Machine.delete slot number p).1 := by
  unfold Machine.delete
  split
  · exact h
  · split
    · exact (h.foldl (fun _ _ k => k.releaseNotice) _).setWave
    · exact h.setWave
    all_goals exact h

theorem acknowledge {slot count : Byte} : HeatFollows b (Machine.acknowledge slot count p).1 := by
  unfold Machine.acknowledge
  split
  · exact h
  · next i _ =>
    have acked : HeatFollows b
        (({ p with desk := p.desk.setSlot i (p.desk.conds.get i).acknowledged } : Part).cancelNotice (.slot i)) :=
      h.same
    exact eitherAnswer h (eitherAnswer h (acked.works (Part.ackReport_works _ [] i)))

theorem setPager {entry groups duty : Byte} {address : Half} :
    HeatFollows b (Machine.setPager entry address groups duty p).1 := by
  unfold Machine.setPager
  split
  · exact eitherAnswer h (eitherAnswer h h.onPager)
  · exact h

theorem clearPager {entry : Byte} : HeatFollows b (Machine.clearPager entry p).1 := by
  unfold Machine.clearPager
  split
  · exact h
  · exact eitherAnswer h h.onPager

theorem setGroup {group escalation limit : Byte} {timeout : Half} :
    HeatFollows b (Machine.setGroup group escalation limit timeout p).1 := by
  unfold Machine.setGroup
  split
  · exact h
  · split
    · exact h
    · exact eitherAnswer h.onPager h

theorem setRoute {route enabled group priority code : Byte} :
    HeatFollows b (Machine.setRoute route enabled group priority code p).1 := by
  unfold Machine.setRoute
  split
  · exact h.onPager
  · exact h

theorem page {hostTag group priority code : Byte} {param : Half} :
    HeatFollows b (Machine.page hostTag group priority code param p).1 := by
  unfold Machine.page
  split
  · exact eitherAnswer h h.same
  · exact h

theorem cancelPage {id : Half} : HeatFollows b (Machine.cancelPage id p).1 := by
  unfold Machine.cancelPage
  split
  · exact h
  · exact answered h.onDesk

theorem configureRadio {backoff : Half} : HeatFollows b (Machine.configureRadio backoff p).1 :=
  eitherAnswer h.onPager h

theorem takeOutcomes {maximum : Byte} : HeatFollows b (Machine.takeOutcomes maximum p).1 :=
  eitherAnswer h (either h.onPager h.onPager.mark)

theorem clearTrip : HeatFollows b (Machine.clearTrip p).1 := eitherAnswer h h.leaveTrip

theorem poll : HeatFollows b (Machine.poll p).1 := h.same

end Requests

end HeatFollows

/-! ## What the ovens' own requests do -/

/-- A START PROGRAM changes nothing, or starts a resting oven on the first step of a program (R65, R66). -/
theorem startProgram_cases (oven program : Byte) (p : Part) :
    (startProgram oven program p).1 = p ∨ ∃ n g first, (p.programs.get g).steps.head? = some first ∧
      (startProgram oven program p).1 = p.startOven n g first := by
  unfold startProgram
  split
  · next n g _ _ =>
    split
    iterate 4 exact Or.inl rfl
    all_goals
      split
      · exact Or.inl rfl
      · next first rest steps =>
        split
        · exact Or.inl rfl
        · split
          · exact Or.inl rfl
          · exact Or.inr ⟨n, g, first, by simp [steps], by dsimp only⟩
  · exact Or.inl rfl

/-- A FOOD LOADED changes nothing, or takes an oven from LOAD_WAIT to COOKING (R68). -/
theorem foodLoaded_cases (oven : Byte) (p : Part) :
    (foodLoaded oven p).1 = p ∨ ∃ n, (p.ovens.get n).state = .loadWait ∧
      (foodLoaded oven p).1 = (p.setOven n { p.ovens.get n with state := .cooking }).ovenChanged n (p.ovens.get n) := by
  unfold foodLoaded
  split
  · exact Or.inl rfl
  · dsimp only
    split
    · next n _ _ waits => exact Or.inr ⟨n, waits, by dsimp only⟩
    all_goals exact Or.inl rfl

/-- An UNLOAD changes nothing, or ends a run; only from FINISHED with no OFF for the loop (R73). -/
theorem unload_cases (oven : Byte) (p : Part) :
    (unload oven p).1 = p ∨ ∃ n askOff, (askOff = false → (p.ovens.get n).state = .finished) ∧
      (unload oven p).1 = p.endRun n (p.ovens.get n).outcome askOff := by
  unfold unload
  split
  · exact Or.inl rfl
  · dsimp only
    split
    · next n _ _ _ => exact Or.inr ⟨n, true, by simp, by dsimp only⟩
    · next n _ _ finished => exact Or.inr ⟨n, false, fun _ => finished, by dsimp only⟩
    all_goals exact Or.inl rfl

/-- An ABORT changes nothing, or ends a run (R74). -/
theorem abort_cases (oven : Byte) (p : Part) :
    (abort oven p).1 = p ∨ ∃ n, (abort oven p).1 = p.endRun n .aborted true := by
  unfold abort
  split
  · exact Or.inl rfl
  · split
    · exact Or.inl rfl
    all_goals next n _ _ _ => exact Or.inr ⟨n, by dsimp only⟩

/-! ## Invariants of the loops and the ovens -/

/-- An invariant that every work but the ovens' own keeps, and that the ovens' own commands, their doors, the trip, a
warm restart and power-on keep too. -/
structure HeatInvariant (I : Part → Prop) : Prop where
  follows : ∀ {p q}, HeatFollows p q → I p → I q
  storeProgram : ∀ {p} program stepCount hold band steps, I p →
    I (storeProgram program stepCount hold band steps p).1
  startOven : ∀ {p} n g first, (p.programs.get g).steps.head? = some first → I p → I (p.startOven n g first)
  loaded : ∀ {p} n, (p.ovens.get n).state = .loadWait → I p →
    I ((p.setOven n { p.ovens.get n with state := .cooking }).ovenChanged n (p.ovens.get n))
  endRun : ∀ {p} n outcome askOff, (askOff = false → (p.ovens.get n).state = .finished) → I p →
    I (p.endRun n outcome askOff)
  ovenTick : ∀ {p} n, I p → I (p.ovenTick n)
  ovenDoor : ∀ {p} n l, I p → I ((p.setLine (.ovenDoor n) l).ovenDoor n l.filtered)
  restarted : ∀ {p}, I p → I p.restarted
  poweredOn : ∀ {p : Part}, I p.poweredOn

namespace HeatInvariant

variable {I : Part → Prop} (keeps : HeatInvariant I) {p : Part}
include keeps

theorem startProgram {oven program : Byte} (h : I p) : I (Machine.startProgram oven program p).1 := by
  rcases startProgram_cases oven program p with same | ⟨n, g, first, steps, taken⟩
  · rwa [same]
  · rw [taken]
    exact keeps.startOven n g first steps h

theorem foodLoaded {oven : Byte} (h : I p) : I (Machine.foodLoaded oven p).1 := by
  rcases foodLoaded_cases oven p with same | ⟨n, waits, taken⟩
  · rwa [same]
  · rw [taken]
    exact keeps.loaded n waits h

theorem unload {oven : Byte} (h : I p) : I (Machine.unload oven p).1 := by
  rcases unload_cases oven p with same | ⟨n, askOff, finished, taken⟩
  · rwa [same]
  · rw [taken]
    exact keeps.endRun n _ askOff finished h

theorem abort {oven : Byte} (h : I p) : I (Machine.abort oven p).1 := by
  rcases abort_cases oven p with same | ⟨n, taken⟩
  · rwa [same]
  · rw [taken]
    exact keeps.endRun n _ true (by simp) h

/-- Every request keeps the invariant: the ovens' own by their clauses, the others by what they make of the loops. -/
theorem performRequest (i : Instr) (h : I p) : I (Machine.performRequest i p).1 := by
  have start := HeatFollows.refl p
  cases i
  case storeProgram => exact keeps.storeProgram _ _ _ _ _ h
  case startProgram => exact keeps.startProgram h
  case foodLoaded => exact keeps.foodLoaded h
  case unload => exact keeps.unload h
  case abort => exact keeps.abort h
  case restart tag =>
    rw [performRequest_restart]
    exact keeps.restarted h
  case readChannel => exact keeps.follows start.readChannel h
  case readChannels => exact keeps.follows start.readChannels h
  case configureChannel => exact keeps.follows start.configureChannel h
  case setLoopMode => exact keeps.follows start.setLoopMode h
  case setManualOutput => exact keeps.follows start.setManualOutput h
  case setLoopSetpoint => exact keeps.follows start.setLoopSetpoint h
  case configureLoop => exact keeps.follows start.configureLoop h
  case configureHeater => exact keeps.follows start.configureHeater h
  case configureFeeder => exact keeps.follows start.configureFeeder h
  case configureCabinet => exact keeps.follows start.configureCabinet h
  case setCabinetMode => exact keeps.follows start.setCabinetMode h
  case stockAdd => exact keeps.follows start.stockAdd h
  case writeOff => exact keeps.follows start.writeOff h
  case load => exact keeps.follows start.load h
  case issue => exact keeps.follows start.issue h
  case unloadPlates => exact keeps.follows start.unloadPlates h
  case returnPlates => exact keeps.follows start.returnPlates h
  case configureDish => exact keeps.follows start.configureDish h
  case dishOn => exact keeps.follows start.dishOn h
  case run => exact keeps.follows start.runTunnel h
  case stop => exact keeps.follows start.stop h
  case dishOff => exact keeps.follows start.dishOff h
  case declareRack => exact keeps.follows start.declareRack h
  case takeRacks => exact keeps.follows start.takeRacks h
  case clearRingCount => exact keeps.follows start.clearRingCount h
  case create => exact keeps.follows start.create h
  case amend => exact keeps.follows start.amend h
  case release => exact keeps.follows start.release h
  case close => exact keeps.follows start.close h
  case delete => exact keeps.follows start.delete h
  case acknowledge => exact keeps.follows start.acknowledge h
  case setPager => exact keeps.follows start.setPager h
  case clearPager => exact keeps.follows start.clearPager h
  case setGroup => exact keeps.follows start.setGroup h
  case setRoute => exact keeps.follows start.setRoute h
  case page => exact keeps.follows start.page h
  case cancelPage => exact keeps.follows start.cancelPage h
  case configureRadio => exact keeps.follows start.configureRadio h
  case takeOutcomes => exact keeps.follows start.takeOutcomes h
  case clearTrip => exact keeps.follows start.clearTrip h
  case poll => exact keeps.follows start.poll h
  -- the reads, and the events, which are no requests
  all_goals simpa [Machine.performRequest, readFeeder, readDish, readTunnel, readWaves, readPending, readPages,
    readRadio, readInterlocks] using h

/-! ### Frames -/

theorem performFrame (f : Frame) (h : I p) : I (Machine.performFrame f p).1 := by
  unfold Machine.performFrame
  split
  · exact h
  · exact h
  · exact keeps.performRequest _ h

theorem takeBuffer (buffer : Buffer) (h : I p) : I (p.takeBuffer buffer) := by
  have taken := keeps.performFrame buffer.frame
    (keeps.follows
      ((HeatFollows.refl p).same (q := p.onLink fun k => { k with buffers := takeOldestFrame k.buffers })) h)
  exact keeps.follows ((HeatFollows.refl _).same (q := Part.reply _ _ _ _ _)) taken

theorem takeWaiting (most : Nat) (h : I p) : I (p.takeWaiting most) := by
  induction most generalizing p with
  | zero => exact h
  | succ most ih =>
    unfold Part.takeWaiting
    split
    · exact h
    · exact ih (keeps.takeBuffer _ h)

theorem frameComplete (f : Frame) (h : I p) : I (p.frameComplete f) := by
  unfold Part.frameComplete
  split
  · exact keeps.takeWaiting 2 (keeps.follows ((HeatFollows.refl p).same (q := p.onLink _)) h)
  · exact h

theorem controlByte (late : Bool) (byte : Byte) (h : I p) : I (p.controlByte late byte) := by
  have received : I (p.onLink fun k => { k with rx := (p.desk.link.rx.byte late byte).1 }) :=
    keeps.follows ((HeatFollows.refl p).same (q := p.onLink _)) h
  unfold Part.controlByte
  dsimp only
  split
  · exact keeps.frameComplete _ received
  · exact received

theorem replySent (h : I p) : I p.replySent := by
  unfold Part.replySent
  split
  · exact keeps.takeWaiting 2 (keeps.follows ((HeatFollows.refl p).same (q := p.onLink _)) h)
  · exact h

/-! ### Lines -/

/-- The trip ends the runs one by one (R77). -/
theorem tripOvens (h : I p) : I p.tripOvens := by
  unfold Part.tripOvens
  generalize List.finRange 6 = ovens
  induction ovens generalizing p with
  | nil => exact h
  | cons n rest ih =>
    rw [List.foldl_cons]
    refine ih ?_
    split
    · exact h
    · exact keeps.endRun n _ true (by simp) h

theorem hoodAsserted (h : I p) : I p.hoodAsserted := by
  have raised := keeps.follows ((HeatFollows.refl p).raise (slot := hoodTripSlot) (param := 0)) h
  unfold Part.hoodAsserted
  dsimp only
  split
  · exact raised
  · have cut := keeps.follows (HeatFollows.refl _).tripGrants raised
    exact keeps.follows (HeatFollows.refl _).tripTunnel (keeps.tripOvens cut)

/-- A line that settles: an oven's door by its clause, the others by what their blocks make of the loops. -/
theorem filterExpiry (line : Line) (h : I p) : I (p.filterExpiry line) := by
  unfold Part.filterExpiry
  dsimp only
  split
  · split
    · next same => exact keeps.follows ((HeatFollows.refl p).setLine (Or.inl same)) h
    · have settled (other : ∀ n, line ≠ .ovenDoor n) : I (p.setLine line (p.line line).settled) :=
        keeps.follows ((HeatFollows.refl p).setLine (Or.inr other)) h
      have start := HeatFollows.refl (p.setLine line (p.line line).settled)
      unfold Part.handOn
      split
      · split
        · exact keeps.hoodAsserted (settled (by simp))
        · exact settled (by simp)
      · exact keeps.ovenDoor _ (p.line _).settled h
      · exact keeps.follows (start.works (Part.dishDoor_works _ [] _)) (settled (by simp))
      · exact keeps.follows (start.works (Part.overloadChange_works _ _)) (settled (by simp))
      · exact keeps.follows (start.works (Part.reduceChange_works _ [])) (settled (by simp))
      · split
        · exact keeps.follows (start.works (Part.rackEntryEdge_works _)) (settled (by simp))
        · exact settled (by simp)
      · split
        · exact keeps.follows (start.works (Part.rackExitEdge_works _)) (settled (by simp))
        · exact settled (by simp)
  · exact h

/-! ### Commands -/

/-- The part as an event leaves it, before what became ready is handed to the transmitter. -/
theorem exec_event {c : Instr} (isEvent : encodeRequest c = none) (notOn : c ≠ .powerOn) {s : State} (h : I s.part) :
    ∃ after, exec c s = .next (s.event after) ∧ I after := by
  have start := HeatFollows.refl s.part
  have desk (f : Word → Desk → Desk) : I (s.part.onDesk f) := keeps.follows start.onDesk h
  have link (f : Link → Link) : I (s.part.onLink f) := keeps.follows (start.same (q := s.part.onLink f)) h
  cases c
  case powerOn => exact absurd rfl notOn
  case controlFrameComplete kind tag payload => exact ⟨_, rfl, keeps.frameComplete _ (link _)⟩
  case replySent => exact ⟨_, rfl, keeps.replySent h⟩
  case scanVisit raw => exact ⟨_, rfl, keeps.follows (start.works (Part.scanVisit_works _ raw)) h⟩
  case loopCycle n => exact ⟨_, rfl, keeps.follows start.loopCycle h⟩
  case allocationRound => exact ⟨_, rfl, keeps.follows start.allocationRound h⟩
  case heaterBurstStep => exact ⟨_, rfl, keeps.follows start.same h⟩
  case ovenTimingTick n => exact ⟨_, rfl, keeps.ovenTick n h⟩
  case warmTick n => exact ⟨_, rfl, keeps.follows (start.works (Part.warmTick_works _ n)) h⟩
  case temperatureCheck => exact ⟨_, rfl, keeps.follows (start.works (Part.temperatureCheck_works _ [])) h⟩
  case washColdJudgement => exact ⟨_, rfl, keeps.follows (start.works (Part.judgeWashCold_works _)) h⟩
  case encoderPulse => exact ⟨_, rfl, keeps.follows start.encoderPulse h⟩
  case countdownTick w => exact ⟨_, rfl, keeps.follows start.countdownTick h⟩
  case accepted tag id => exact ⟨_, rfl, desk _⟩
  case backoff tag id => exact ⟨_, rfl, desk _⟩
  case backoffEnd => exact ⟨_, rfl, desk _⟩
  case silenceTimeout => exact ⟨_, rfl, desk _⟩
  case statusTimer => exact ⟨_, rfl, desk _⟩
  case statusReply tag => exact ⟨_, rfl, desk _⟩
  case answerAccept address id => exact ⟨_, rfl, desk _⟩
  case answerDecline address id => exact ⟨_, rfl, desk _⟩
  case pageDeadline id => exact ⟨_, rfl, desk _⟩
  case rawLineChange line asserted =>
    refine ⟨_, rfl, keeps.follows (start.setLine (Or.inl ?_)) h⟩
    unfold LineState.atLevel
    split <;> rfl
  case filterTimerExpiry line => exact ⟨_, rfl, keeps.filterExpiry line h⟩
  case controlLinkByte late byte => exact ⟨_, rfl, keeps.controlByte late byte h⟩
  case pagerLinkByte late byte => exact ⟨_, rfl, desk _⟩
  case attentionSent => exact ⟨_, rfl, link _⟩
  case uptimeSecond => exact ⟨_, rfl, keeps.follows start.same h⟩
  -- the requests
  all_goals cases isEvent

/-- Every command keeps the invariant. -/
theorem exec {c : Instr} {s t : State} (h : I s.part) (isNext : Machine.exec c s = .next t) : I t.part := by
  cases isRequest : encodeRequest c with
  | some f =>
    rw [exec_of_encodeRequest isRequest] at isNext
    cases isNext
    exact keeps.follows (HeatFollows.refl _).same (keeps.performRequest c h)
  | none =>
    by_cases on : c = .powerOn
    · subst on
      cases isNext
      exact keeps.poweredOn
    · obtain ⟨after, exec_eq, kept⟩ := keeps.exec_event isRequest on h
      rw [exec_eq] at isNext
      cases isNext
      exact keeps.follows (HeatFollows.refl _).same kept

/-- So does every step. -/
theorem step {s t : State} (h : I s.part) (isNext : Machine.step s = .next t) : I t.part := by
  unfold Machine.step at isNext
  split at isNext
  · cases isNext
    exact h
  · next rest _ => exact keeps.exec (s := { s with pending := rest }) h isNext

end HeatInvariant

end Sys2Proof.Machine
end

section
/-!
What the ovens' own operations make of the oven's record and of its loop's: the two tables are each replaced at one
index.
-/

namespace Sys2Proof.Machine

/-- The loop of a run that starts: step 1's setpoint, the inhibit where the door is open, and AUTO (R66). -/
def Loop.runStarted (sp : Int) (doorOpen : Bool) (reading : Option Int) (l : Loop) : Loop :=
  (if doorOpen then (l.asked sp).inhibited else l.asked sp).autoAsked reading

/-- The loop of a run that ends: OFF where it is asked for, and the release where the door is open (R73, R74, R77). -/
def Loop.runEnded (askOff doorOpen : Bool) (reading : Option Int) (l : Loop) : Loop :=
  let off := if askOff then l.stopped else l
  if doorOpen then off.released reading else off

@[simp] theorem Loop.asked_inhibit (l : Loop) (sp : Int) : (l.asked sp).inhibit = l.inhibit := rfl

@[simp] theorem Loop.asked_base (l : Loop) (sp : Int) : (l.asked sp).base = l.base := rfl

@[simp] theorem Loop.stopped_inhibit (l : Loop) : l.stopped.inhibit = l.inhibit := rfl

@[simp] theorem Loop.stopped_base (l : Loop) : l.stopped.base = .off := rfl

section Ovens

variable (p : Part) (n : Fin 6)

@[simp] theorem Part.setOven_reading (o : Oven) (channel : Fin 23) :
    (p.setOven n o).reading channel = p.reading channel := by
  simp only [Part.reading, Part.setOven_scan]

theorem Works.reading {f : Footprint} {own : List (Fin 87)} {p q : Part} (h : Works f own p q)
    (scan : f.scan = false := by rfl) (channel : Fin 23) : q.reading channel = p.reading channel := by
  simp only [Part.reading, h.moves.touches.scan scan]

/-! ### The loops -/

@[simp] theorem Part.ovenChanged_loops (before : Oven) : (p.ovenChanged n before).loops = p.loops :=
  (Part.ovenChanged_works p n before).moves.touches.loops rfl

@[simp] theorem Part.ovenChanged_ovens (before : Oven) : (p.ovenChanged n before).ovens = p.ovens :=
  (Part.ovenChanged_works p n before).moves.touches.ovens rfl

@[simp] theorem Part.requestSetpoint_reading (m : Fin 16) (sp : Int) (channel : Fin 23) :
    (p.requestSetpoint m sp).reading channel = p.reading channel := Part.setLoop_reading p m _ channel

@[simp] theorem Part.ownerOff_reading (m : Fin 16) (channel : Fin 23) :
    (p.ownerOff m).reading channel = p.reading channel := Part.setLoop_reading p m _ channel

@[simp] theorem Part.inhibitLoop_reading (m : Fin 16) (channel : Fin 23) :
    (p.inhibitLoop m).reading channel = p.reading channel := (Part.inhibitLoop_works p [] m).reading rfl channel

@[simp] theorem Part.requestSetpoint_ovens (m : Fin 16) (sp : Int) : (p.requestSetpoint m sp).ovens = p.ovens :=
  Part.setLoop_ovens p m _

@[simp] theorem Part.ownerOff_ovens (m : Fin 16) : (p.ownerOff m).ovens = p.ovens := Part.setLoop_ovens p m _

@[simp] theorem Part.inhibitLoop_ovens (m : Fin 16) : (p.inhibitLoop m).ovens = p.ovens :=
  (Part.inhibitLoop_works p [] m).moves.touches.ovens rfl

@[simp] theorem Part.ownerAuto_ovens (m : Fin 16) : (p.ownerAuto m).ovens = p.ovens :=
  (Part.ownerAuto_works p m).moves.touches.ovens rfl

@[simp] theorem Part.releaseLoop_ovens (m : Fin 16) : (p.releaseLoop m).ovens = p.ovens :=
  (Part.releaseLoop_works p m).moves.touches.ovens rfl

/-! ### A run's start and end -/

theorem Part.startOven_loops (g : Fin 16) (first : Step) :
    (p.startOven n g first).loops = p.loops.set (ovenLoop n)
      ((p.loops.get (ovenLoop n)).runStarted first.setpoint (p.ovens.get n).doorOpen
        (p.reading (loopChannel (ovenLoop n)))) := by
  unfold Part.startOven Loop.runStarted
  dsimp only
  split
  all_goals simp [Part.ownerAuto_loops, Part.inhibitLoop_loops, Part.requestSetpoint_loops]

theorem Part.startOven_ovens (g : Fin 16) (first : Step) :
    (p.startOven n g first).ovens = p.ovens.set n { p.ovens.get n with
      program := g, step := 1, elapsed := 0, stepEnd := .none, start := p.uptime, state := .preheating } := by
  unfold Part.startOven
  dsimp only
  split
  all_goals simp

theorem Part.endRun_loops (outcome : OvenOutcome) (askOff : Bool) :
    (p.endRun n outcome askOff).loops = p.loops.set (ovenLoop n)
      ((p.loops.get (ovenLoop n)).runEnded askOff (p.ovens.get n).doorOpen (p.reading (loopChannel (ovenLoop n)))) := by
  unfold Part.endRun Loop.runEnded
  dsimp only
  split <;> split <;> simp [Part.releaseLoop_loops, Part.ownerOff_loops]

theorem Part.endRun_ovens (outcome : OvenOutcome) (askOff : Bool) :
    (p.endRun n outcome askOff).ovens = p.ovens.set n { p.ovens.get n with state := .idle, outcome } := by
  unfold Part.endRun
  dsimp only
  split <;> split <;> simp

/-! ### The door (R76) -/

theorem Part.ovenDoor_loops (isOpen : Bool) :
    (p.ovenDoor n isOpen).loops = p.loops.set (ovenLoop n)
      (if (p.ovens.get n).state = .idle then p.loops.get (ovenLoop n)
      else if isOpen then (p.loops.get (ovenLoop n)).inhibited
      else (p.loops.get (ovenLoop n)).released (p.reading (loopChannel (ovenLoop n)))) := by
  unfold Part.ovenDoor
  dsimp only
  split
  · simp
  · split <;> simp [Part.inhibitLoop_loops, Part.releaseLoop_loops]

theorem Part.ovenDoor_ovens (isOpen : Bool) :
    (p.ovenDoor n isOpen).ovens = p.ovens.set n { p.ovens.get n with doorOpen := isOpen } := by
  unfold Part.ovenDoor
  dsimp only
  split
  · simp
  · split <;> simp


/-! ### One oven and its loop -/

variable {p} {n}

/-- One oven and its loop take new records; the other ovens, loops and doors and all programs stay as they are. -/
structure OneOven (n : Fin 6) (o : Oven) (l : Loop) (p q : Part) : Prop where
  ovens : q.ovens = p.ovens.set n o
  loops : q.loops = p.loops.set (ovenLoop n) l
  programs : q.programs = p.programs
  doors : ∀ m, m ≠ n → q.asserted (.ovenDoor m) = p.asserted (.ovenDoor m)

theorem OneOven.of_works {f : Footprint} {own : List (Fin 87)} {o : Oven} {l : Loop} {q : Part} (w : Works f own p q)
    (ovens : q.ovens = p.ovens.set n o) (loops : q.loops = p.loops.set (ovenLoop n) l)
    (programs : f.programs = false := by rfl) (interlock : f.interlock = false := by rfl) : OneOven n o l p q :=
  ⟨ovens, loops, w.moves.touches.programs programs,
    fun m _ => by simp only [Part.asserted, w.moves.touches.interlock interlock]⟩

/-! ### The timing tick (R64, R67 to R72) -/

/-- What R62, R63, R73 and R76 say of one oven, its door's filtered state and its loop. -/
structure OvenKept (programs : Table Program 16) (door : Bool) (o : Oven) (l : Loop) : Prop where
  door : o.doorOpen = door
  inhibit : l.inhibit = (o.doorOpen && decide (o.state ≠ .idle))
  resting : o.state = .idle ∨ o.state = .finished → l.base = .off
  step : o.state = .preheating ∨ o.state = .loadWait ∨ o.state = .cooking →
    1 ≤ o.step ∧ o.step ≤ (programs.get o.program).steps.length

/-- A tick's records: ranges and what R62 to R76 say of the oven stay. -/
def OvenTicked (programs : Table Program 16) (o a : Oven) (l m : Loop) : Prop :=
  m.inhibit = l.inhibit ∧ (l.InRange → m.InRange) ∧ ∀ door, OvenKept programs door o l → OvenKept programs door a m

theorem OvenTicked.refl (programs : Table Program 16) (o : Oven) (l : Loop) : OvenTicked programs o o l l :=
  ⟨rfl, id, fun _ => id⟩

/-- The program is done: HOLDING at the hold temperature, or FINISHED with the loop OFF (R72). -/
theorem Part.programDone_one (how : StepEnd) (elapsed : Nat) (cooks : (p.ovens.get n).state = .cooking) :
    ∃ o l, OneOven n o l p
        (p.programDone n (p.ovens.get n) { p.ovens.get n with elapsed, stepEnd := how }) ∧
      OvenTicked p.programs (p.ovens.get n) o (p.loops.get (ovenLoop n)) l := by
  have works := Part.programDone_works p n (p.ovens.get n) { p.ovens.get n with elapsed, stepEnd := how }
  by_cases held : 0 < (p.programs.get (p.ovens.get n).program).hold
  · refine ⟨{ p.ovens.get n with elapsed, stepEnd := how, state := .holding, outcome := .done },
      (p.loops.get (ovenLoop n)).asked (p.programs.get (p.ovens.get n).program).hold, .of_works works ?_ ?_,
      rfl, fun r => r.asked _, fun door k => ?_⟩
    · simp [Part.programDone, held]
    · simp [Part.programDone, held, Part.requestSetpoint_loops]
    · exact ⟨k.door, by simpa [cooks] using k.inhibit, by simp, by simp⟩
  · refine ⟨{ p.ovens.get n with elapsed, stepEnd := how, state := .finished, outcome := .done },
      (p.loops.get (ovenLoop n)).stopped, .of_works works ?_ ?_, rfl, fun r => r.stopped, fun door k => ?_⟩
    · simp [Part.programDone, held]
    · simp [Part.programDone, held, Part.ownerOff_loops]
    · exact ⟨k.door, by simpa [cooks] using k.inhibit, fun _ => rfl, by simp⟩

/-- A step completes (R70, R72). -/
theorem Part.stepComplete_one (how : StepEnd) (elapsed : Nat) (cooks : (p.ovens.get n).state = .cooking) :
    ∃ o l, OneOven n o l p
        (p.stepComplete n (p.ovens.get n) { p.ovens.get n with elapsed, stepEnd := how }) ∧
      OvenTicked p.programs (p.ovens.get n) o (p.loops.get (ovenLoop n)) l := by
  have works := Part.stepComplete_works p n (p.ovens.get n) { p.ovens.get n with elapsed, stepEnd := how }
  cases next : (p.programs.get (p.ovens.get n).program).steps[(p.ovens.get n).step]? with
  | none =>
    have done : p.stepComplete n (p.ovens.get n) { p.ovens.get n with elapsed, stepEnd := how } =
        p.programDone n (p.ovens.get n) { p.ovens.get n with elapsed, stepEnd := how } := by
      simp [Part.stepComplete, next]
    rw [done]
    exact Part.programDone_one how elapsed cooks
  | some step =>
    obtain ⟨within, -⟩ := List.getElem?_eq_some_iff.mp next
    refine ⟨{ p.ovens.get n with stepEnd := how, step := (p.ovens.get n).step + 1, elapsed := 0 },
      (p.loops.get (ovenLoop n)).asked step.setpoint, .of_works works ?_ ?_, rfl, fun r => r.asked _, fun door k => ?_⟩
    · simp [Part.stepComplete, next]
    · simp [Part.stepComplete, next, Part.requestSetpoint_loops]
    · exact ⟨k.door, k.inhibit, k.resting, fun _ => ⟨by simp, within⟩⟩

/-- A tick that leaves the loop alone. -/
theorem OneOven.loop_kept {f : Footprint} {own : List (Fin 87)} {o : Oven} {q : Part} (w : Works f own p q)
    (ovens : q.ovens = p.ovens.set n o) (loops : q.loops = p.loops) (programs : f.programs = false := by rfl)
    (interlock : f.interlock = false := by rfl) : OneOven n o (p.loops.get (ovenLoop n)) p q :=
  .of_works w ovens (by rw [loops, Table.set_get_self]) programs interlock

theorem OneOven.refl (p : Part) (n : Fin 6) : OneOven n (p.ovens.get n) (p.loops.get (ovenLoop n)) p p :=
  .loop_kept (Works.refl (f := {}) (own := []) p) (by rw [Table.set_get_self]) rfl

/-- A timing tick. -/
theorem Part.ovenTick_one (p : Part) (n : Fin 6) :
    ∃ o l, OneOven n o l p (p.ovenTick n) ∧
      OvenTicked p.programs (p.ovens.get n) o (p.loops.get (ovenLoop n)) l := by
  have none_taken :=
    And.intro (OneOven.refl p n) (OvenTicked.refl p.programs (p.ovens.get n) (p.loops.get (ovenLoop n)))
  unfold Part.ovenTick
  dsimp only
  split
  · exact ⟨_, _, none_taken⟩
  · next step _ =>
    split
    · next preheats =>
      split
      · refine ⟨{ p.ovens.get n with state := .loadWait }, _,
          .loop_kept ((Part.setOven_works p waveSlots n _).widen.trans (Part.ovenChanged_works _ n _).widen
            : Works ovenFoot waveSlots p _) (by simp) (by simp), rfl, id, fun door k => ?_⟩
        exact ⟨k.door, by simpa [preheats] using k.inhibit, by simp, fun _ => k.step (Or.inl preheats)⟩
      · exact ⟨_, _, none_taken⟩
    · next cooks =>
      unfold Part.cookingTick
      dsimp only
      split
      · refine ⟨_, _, .loop_kept (Part.setOven_works p [] n _) (Part.setOven_ovens p n _) (by simp), rfl, id,
          fun door k => ?_⟩
        exact ⟨k.door, k.inhibit, k.resting, k.step⟩
      · exact Part.stepComplete_one _ _ cooks
    all_goals exact ⟨_, _, none_taken⟩

end Ovens

end Sys2Proof.Machine
end

section
/-!
What every step keeps of the loops' ranges (R23, R25, R31, R34) and of the ovens (R62, R63, R73, R76), and what holds
after reset.
-/

namespace Sys2Proof.Machine

/-! ## The ranges of the loops -/

theorem ovenLoop_ne {m : Fin 16} (served : 6 ≤ m.val) (n : Fin 6) : m ≠ ovenLoop n := by
  intro same
  have := n.isLt
  rw [same] at served
  simp only [ovenLoop] at served
  omega

/-- A heat loop's own record is all that an oven's work can take out of the ranges. -/
theorem LoopsInRange.setOven {p q : Part} {n : Fin 6} {l : Loop} (h : LoopsInRange p)
    (loops : q.loops = p.loops.set (ovenLoop n) l) (inRange : l.InRange) : LoopsInRange q where
  record m := by
    rw [loops, Table.get_set]
    split
    · exact inRange
    · exact h.record m
  inhibit m served := by
    rw [loops, Table.get_set_ne _ _ (ovenLoop_ne served n)]
    exact h.inhibit m served

theorem Loop.InRange.runStarted {l : Loop} (h : l.InRange) (sp : Int) (doorOpen : Bool) (reading : Option Int) :
    (l.runStarted sp doorOpen reading).InRange := by
  unfold Loop.runStarted
  split
  · exact (h.asked sp).inhibited.autoAsked reading
  · exact (h.asked sp).autoAsked reading

theorem Loop.InRange.runEnded {l : Loop} (h : l.InRange) (askOff doorOpen : Bool) (reading : Option Int) :
    (l.runEnded askOff doorOpen reading).InRange := by
  have off : (if askOff then l.stopped else l).InRange := by
    split
    · exact h.stopped
    · exact h
  unfold Loop.runEnded
  dsimp only
  split
  · exact off.released reading
  · exact off

/-- The power-on values are in range (section 2.1.1, R41). -/
theorem AtPowerOn.loopsInRange {p : Part} (h : AtPowerOn p) : LoopsInRange p where
  record n := by
    rw [h.loops n]
    have limit : (if n.val ≤ 5 then 3000 else if n.val ≤ 13 then 1000 else if n.val = 14 then 800 else 950) ≤ 4000 := by
      split_ifs <;> omega
    have high : (if n.val ≤ 5 then 3200 else if n.val ≤ 13 then 1100 else if n.val = 14 then 900 else 990) ≤ 4000 := by
      split_ifs <;> omega
    exact Loop.HeldInRange.rested
      ⟨⟨by simp, by simp, by simp, by simp, by simp, by simp, by simp, by simp, by simp, by simp, limit, high, by simp⟩,
        by simp, ⟨le_refl 0, Int.natCast_nonneg _⟩, by simp, by simp⟩ (Loop.rests_of_off rfl) rfl
  inhibit n _ := by rw [h.loops n]

theorem storeProgram_loops (program stepCount : Byte) (hold band : Half) (steps : List WireStep) (p : Part) :
    (storeProgram program stepCount hold band steps p).1.loops = p.loops := by
  unfold storeProgram
  split
  · split <;> rfl
  · rfl

theorem loopsInRange_kept : HeatInvariant LoopsInRange where
  follows h r := ⟨fun n => (h.loops n).inRange (r.record n),
    fun n served => (h.loops n).inhibit.trans (r.inhibit n served)⟩
  storeProgram {p} program stepCount hold band steps r := by
    have loops := storeProgram_loops program stepCount hold band steps p
    exact ⟨fun n => loops ▸ r.record n, fun n => loops ▸ r.inhibit n⟩
  startOven n g first _ r := r.setOven (Part.startOven_loops _ n g first) ((r.record _).runStarted _ _ _)
  loaded n _ r := r.setOven (n := n) (by rw [Part.ovenChanged_loops, Part.setOven_loops, Table.set_get_self])
    (r.record _)
  endRun n outcome askOff _ r := r.setOven (Part.endRun_loops _ n outcome askOff) ((r.record _).runEnded _ _ _)
  ovenTick {p} n r := by
    obtain ⟨o, l, one, -, inRange, -⟩ := Part.ovenTick_one p n
    exact r.setOven one.loops (inRange (r.record _))
  ovenDoor n l r := by
    refine r.setOven (Part.ovenDoor_loops _ n l.filtered) ?_
    split
    · exact r.record _
    · split
      · exact (r.record _).inhibited
      · exact (r.record _).released _
  restarted {p} r := ⟨fun n => p.restarted_loop n ▸ (r.record n).restarted, fun n _ => by rw [p.restarted_loop n]; rfl⟩
  poweredOn := (Part.poweredOn_atPowerOn _).loopsInRange

/-- Settles O7: the requests of the owning units and the loops' own keep a record in its ranges one by one, and no other
work writes one. -/
theorem stepsKeepLoopsInRange : Obligations.StepsKeepLoopsInRange :=
  fun _ h _ isNext => loopsInRange_kept.step h isNext

/-! ## The ovens -/

theorem ovensKept_iff {p : Part} : OvensKept p ↔
    ∀ n, OvenKept p.programs (p.asserted (.ovenDoor n)) (p.ovens.get n) (p.loops.get (ovenLoop n)) :=
  ⟨fun h n => ⟨h.door n, h.inhibit n, h.resting n, h.step n⟩,
    fun h => ⟨fun n => (h n).door, fun n => (h n).inhibit, fun n => (h n).resting, fun n => (h n).step⟩⟩

theorem ovenLoop_injective {n m : Fin 6} (same : ovenLoop n = ovenLoop m) : n = m := by
  simp only [ovenLoop, Fin.ext_iff] at same
  exact Fin.ext same

/-- The other ovens keep what they had. -/
theorem OneOven.ovensKept {p q : Part} {n : Fin 6} {o : Oven} {l : Loop} (h : OvensKept p) (one : OneOven n o l p q)
    (kept : OvenKept p.programs (q.asserted (.ovenDoor n)) o l) : OvensKept q := by
  rw [ovensKept_iff] at h ⊢
  intro m
  rw [one.ovens, one.loops, one.programs]
  by_cases same : m = n
  · subst same
    rwa [Table.get_set_self, Table.get_set_self]
  · rw [Table.get_set_ne _ _ same, Table.get_set_ne _ _ fun loops => same (ovenLoop_injective loops), one.doors m same]
    exact h m

/-- An oven's own work but its door's: the filtered state of the door stays. -/
theorem OneOven.ovensKept_of_works {f : Footprint} {own : List (Fin 87)} {p q : Part} {n : Fin 6} {o : Oven} {l : Loop}
    (h : OvensKept p) (w : Works f own p q) (one : OneOven n o l p q)
    (kept : OvenKept p.programs (p.asserted (.ovenDoor n)) o l) (interlock : f.interlock = false := by rfl) :
    OvensKept q := by
  refine one.ovensKept h ?_
  simpa only [Part.asserted, w.moves.touches.interlock interlock] using kept

theorem OvensKept.startOven {p : Part} (h : OvensKept p) (n : Fin 6) (g : Fin 16) (first : Step)
    (steps : (p.programs.get g).steps.head? = some first) : OvensKept (p.startOven n g first) := by
  have works := Part.startOven_works p n g first
  refine OneOven.ovensKept_of_works h works
    (.of_works works (Part.startOven_ovens p n g first) (Part.startOven_loops p n g first)) ?_
  refine ⟨h.door n, ?_, by simp, fun _ => ⟨le_refl 1, ?_⟩⟩
  · have before := h.inhibit n
    unfold Loop.runStarted
    cases isOpen : (p.ovens.get n).doorOpen
    · simpa [isOpen] using before
    · simp
  · obtain ⟨rest, eq⟩ := List.head?_eq_some_iff.mp steps
    simp [eq]

theorem OvensKept.endRun {p : Part} (h : OvensKept p) (n : Fin 6) (outcome : OvenOutcome) (askOff : Bool)
    (finished : askOff = false → (p.ovens.get n).state = .finished) : OvensKept (p.endRun n outcome askOff) := by
  have works := Part.endRun_works p n outcome askOff
  refine OneOven.ovensKept_of_works h works
    (.of_works works (Part.endRun_ovens p n outcome askOff) (Part.endRun_loops p n outcome askOff)) ?_
  have off : (if askOff then (p.loops.get (ovenLoop n)).stopped else p.loops.get (ovenLoop n)).base = .off := by
    split
    · rfl
    · next notAsked => exact h.resting n (Or.inr (finished (by simpa using notAsked)))
  have inhibit : (if askOff then (p.loops.get (ovenLoop n)).stopped else p.loops.get (ovenLoop n)).inhibit =
      (p.loops.get (ovenLoop n)).inhibit := by
    split <;> rfl
  refine ⟨h.door n, ?_, fun _ => ?_, by simp⟩
  · unfold Loop.runEnded
    dsimp only
    split
    · simp
    · next shut =>
      rw [inhibit, h.inhibit n]
      simp [shut]
  · unfold Loop.runEnded
    dsimp only
    split
    · rw [Loop.released_base, off]
    · exact off

theorem OvensKept.ovenDoor {p : Part} (h : OvensKept p) (n : Fin 6) (l : LineState) :
    OvensKept ((p.setLine (.ovenDoor n) l).ovenDoor n l.filtered) := by
  have works := Part.ovenDoor_works (p.setLine (.ovenDoor n) l) n l.filtered
  have line (m : Fin 6) : ((p.setLine (.ovenDoor n) l).ovenDoor n l.filtered).asserted (.ovenDoor m) =
      if m = n then l.filtered else p.asserted (.ovenDoor m) := by
    simp only [Part.asserted, works.moves.touches.interlock rfl, Part.setLine_lines, Table.get_set]
    by_cases same : m = n
    · simp [same]
    · rw [if_neg same, if_neg]
      exact fun index => same (by simpa using lineIndex_injective index)
  refine OneOven.ovensKept h ⟨Part.ovenDoor_ovens _ n l.filtered, Part.ovenDoor_loops _ n l.filtered, ?_, ?_⟩ ?_
  · exact works.moves.touches.programs rfl
  · intro m other
    rw [line m, if_neg other]
  · rw [line n, if_pos rfl]
    refine ⟨rfl, ?_, ?_, h.step n⟩
    · rw [Part.setLine_ovens, Part.setLine_loops]
      split
      · next idle => simpa [idle] using h.inhibit n
      · next runs => split <;> next isOpen => simp [runs, isOpen]
    · intro rests
      have base := h.resting n rests
      rw [Part.setLine_ovens, Part.setLine_loops]
      split
      · exact base
      · split
        · rw [Loop.inhibited_base, base]
        · rw [Loop.released_base, base]

/-- An oven that runs a program is counted among those that do (R63). -/
theorem Part.running_pos {p : Part} {program : Fin 16} (n : Fin 6) (runs : (p.ovens.get n).runs program = true) :
    0 < p.running program :=
  List.length_pos_of_mem (List.mem_filter.mpr ⟨(p.ovens.mem_items_iff _).mpr ⟨n, rfl⟩, runs⟩)

/-- A program that no oven runs may be replaced (R63). -/
theorem OvensKept.storeProgram {p : Part} (h : OvensKept p) (program stepCount : Byte) (hold band : Half)
    (steps : List WireStep) : OvensKept (Machine.storeProgram program stepCount hold band steps p).1 := by
  unfold Machine.storeProgram
  split
  · next n g _ _ =>
    split
    · exact h
    · next unused =>
      refine ⟨h.door, h.inhibit, h.resting, fun m runs => ?_⟩
      change (p.ovens.get m).state = _ ∨ (p.ovens.get m).state = _ ∨ (p.ovens.get m).state = _ at runs
      have other : (p.ovens.get m).program ≠ n := fun same =>
        unused (Part.running_pos m (by rcases runs with state | state | state <;> simp [Oven.runs, same, state]))
      simpa [Table.get_set_ne _ _ other] using h.step m runs
  · exact h

theorem AtPowerOn.ovensKept {p : Part} (h : AtPowerOn p) : OvensKept p := by
  refine ⟨fun n => ?_, fun n => ?_, fun n _ => ?_, fun n runs => ?_⟩
  · rw [h.ovens n]
    exact (h.lines _).1.symm
  · rw [h.ovens n, h.loops]
    rfl
  · rw [h.loops]
  · rw [h.ovens n] at runs
    simp at runs

/-- A warm restart leaves every oven in IDLE with its door as it was (R80). -/
theorem Oven.restarted_state (o : Oven) : o.restarted.state = .idle := by
  unfold Oven.restarted
  split <;> rfl

theorem Oven.restarted_doorOpen (o : Oven) : o.restarted.doorOpen = o.doorOpen := by
  unfold Oven.restarted
  split <;> rfl

theorem OvensKept.restarted {p : Part} (h : OvensKept p) : OvensKept p.restarted := by
  refine ⟨fun n => ?_, fun n => ?_, fun n _ => ?_, fun n runs => ?_⟩
  · simp only [p.restarted_oven, Oven.restarted_doorOpen, h.door n, Part.asserted, p.restarted_interlock]
  · simp [p.restarted_oven, p.restarted_loop, Oven.restarted_state, Loop.restarted]
  · rw [p.restarted_loop]
    rfl
  · simp [p.restarted_oven, Oven.restarted_state] at runs

theorem ovensKept_kept : HeatInvariant OvensKept where
  follows {p q} h r := by
    refine ⟨fun n => ?_, fun n => ?_, fun n => ?_, fun n => ?_⟩
    · rw [h.ovens, h.doors n, r.door n]
    · rw [h.ovens, (h.loops _).inhibit, r.inhibit n]
    · rw [h.ovens]
      exact fun rests => (h.loops _).rests n.isLt (r.resting n rests)
    · rw [h.ovens, h.programs]
      exact r.step n
  storeProgram program stepCount hold band steps r := r.storeProgram program stepCount hold band steps
  startOven n g first steps r := r.startOven n g first steps
  loaded {p} n waits r := by
    have works := ((Part.setOven_works p waveSlots n { p.ovens.get n with state := .cooking }).widen.trans
      (Part.ovenChanged_works _ n (p.ovens.get n)).widen : Works ovenFoot waveSlots p _)
    refine OneOven.ovensKept_of_works r works
      (.loop_kept (n := n) (o := { p.ovens.get n with state := .cooking }) works (by simp) (by simp)) ?_
    exact ⟨r.door n, by simpa [waits] using r.inhibit n, by simp, fun _ => r.step n (Or.inr (Or.inl waits))⟩
  endRun n outcome askOff finished r := r.endRun n outcome askOff finished
  ovenTick {p} n r := by
    obtain ⟨o, l, one, -, -, kept⟩ := Part.ovenTick_one p n
    exact one.ovensKept_of_works r (Part.ovenTick_works p n) (kept _ (ovensKept_iff.mp r n))
  ovenDoor n l r := r.ovenDoor n l
  restarted r := r.restarted
  poweredOn := (Part.poweredOn_atPowerOn _).ovensKept

/-- Settles O11: each operation of an oven keeps the four clauses for its own oven, no other work writes an oven, and
what other work makes of an oven's loop neither inhibits nor releases it nor takes it out of OFF. -/
theorem stepsKeepTheOvens : Obligations.StepsKeepTheOvens :=
  fun _ h _ isNext => ovensKept_kept.step h isNext

/-! ## What holds after reset -/

namespace AtPowerOn

variable {p : Part} (h : AtPowerOn p)
include h

theorem asserted (line : Line) : p.asserted line = false := (h.lines _).1

theorem budgetKept : BudgetKept p := by
  obtain ⟨limit, reduced, -, requested, applied, -, -, granted, delivered, ack⟩ := h.budget
  exact {
    delivered := fun n => by rw [h.heaters n]
    granted := by simp [granted, h.heaters]
    total := by simp [delivered, h.heaters]
    within := by rw [granted, applied]
    requested := by simp [requested, limit, h.asserted]
    ack := by simp [ack, h.asserted]
    sanitise := by simp [h.heaters] }

theorem platesKept : PlatesKept p where
  sum kind := by
    simp [h.stock, Part.heldOfKind, Table.items_eq_map_get, Function.comp_def, h.cabinets, Cabinet.held, heldIn]
  tunnel kind := by simp [h.stock, Dish.plates, h.dish]
  total kind := by simp [h.stock]
  capacity n := by simp [h.cabinets, Cabinet.held, heldIn]
  batches n := by simp [h.cabinets]
  nonempty n := by simp [h.cabinets]

theorem tunnelKept : TunnelKept p where
  queue := by simp [h.dish]
  ring := by simp [h.dish]
  declared := by simp [h.dish]
  conveyor := by simp [h.dish]
  gate := by simp [Part.gateTerms, h.dish]
  valve := by simp [h.dish, Dish.valveTerms]
  lock := by simp [h.heaters, h.dish]
  reasons := by simp [h.dish, HoldReasons.isEmpty]
  zones := by simp [h.dish]

theorem tripHeld : TripHeld p := by
  obtain ⟨clear, drive, -⟩ := h.trip
  exact ⟨by simp [clear, drive], by simp [clear], by simp [clear], by simp [clear]⟩

theorem wavesApart : WavesApart p where
  numbers w x v u isWave := by simp [h.waves] at isWave
  cabinets w x n := by simp [Part.holdsCabinet, h.waves]
  ovens w x n := by simp [Part.holdsOven, h.waves]
  slot w n := by simp [Part.holdsCabinet, h.waves, h.cabinets]

theorem eventKindsReturned : EventKindsReturned p := fun i _ => Or.inl (by rw [h.conds])

theorem pagesKept : PagesKept p.desk.pager := by
  obtain ⟨queue, outcomes⟩ := h.pages
  constructor <;> simp [queue, outcomes]

theorem linkKept : LinkKept p.desk.link := by
  rw [h.link]
  constructor <;> simp [WaitsBehindRestart]

end AtPowerOn

/-- Settles O3: the state after reset holds the power-on values, and they meet each invariant. -/
theorem resetMeetsEveryInvariant : Obligations.ResetMeetsEveryInvariant :=
  have ⟨_, on, _⟩ := powerOnSetsEveryField
  ⟨on.loopsInRange, on.budgetKept, on.platesKept, on.tunnelKept, on.tripHeld, on.ovensKept, on.wavesApart,
    on.eventKindsReturned, on.pagesKept, on.linkKept⟩

end Sys2Proof.Machine
end

section
/-!
Chapter 2: the cycle of a loop in each mode, and the overtemp latch with its slot (R18 to R28).
-/

namespace Sys2Proof.Machine

/-! ## The record after a cycle -/

/-- The setpoint filter as the manual writes it: a quotient of 0 short of the setpoint moves SPf by one (R22). -/
theorem Loop.filtered_eq (l : Loop) :
    l.filtered = l.spf +
      (if trunc ((l.sp - l.spf) * (65536 - (l.cfg.a : Int))) 65536 = 0 ∧ l.spf ≠ l.sp then
        (if l.spf < l.sp then 1 else -1)
      else trunc ((l.sp - l.spf) * (65536 - (l.cfg.a : Int))) 65536) := by
  unfold Loop.filtered
  dsimp only
  generalize trunc ((l.sp - l.spf) * (65536 - (l.cfg.a : Int))) 65536 = quotient
  split <;> split_ifs <;> omega

/-- The record that stages 2 to 6 work on: windup is corrected for a new grant, but not in the cycle that clears the
channel fault flag (R19, R21). -/
theorem Loop.judged_corrected (l : Loop) (pv : Int) :
    (if l.chFault then { l.judged pv with usedRound := l.grantRound } else l.judged pv).correct =
      { l.judged pv with
        usedRound := l.grantRound
        integ := if l.chFault = false ∧ l.grantRound ≠ l.usedRound ∧ 0 < l.cfg.ti then
            clampI (l.integ + trunc (((l.grant : Int) - l.uLast) * 1000 * l.cfg.w) 65536) else l.integ } := by
  cases fault : l.chFault
  · by_cases same : l.grantRound = l.usedRound
    · simp [Loop.correct, Loop.judged, Loop.judgeLatch, same]
    · by_cases timed : 0 < l.cfg.ti <;> simp [Loop.correct, Loop.judged, Loop.judgeLatch, same, timed]
  · simp [Loop.correct, Loop.judged, Loop.judgeLatch]

/-- The latch after a cycle on a reading (R20). -/
@[simp] theorem Loop.judged_latch (l : Loop) (pv : Int) : (l.judged pv).latch =
    if l.latch then decide ((l.cfg.highLimit : Int) - l.cfg.hysteresis ≤ pv)
    else decide ((l.cfg.highLimit : Int) ≤ pv) := rfl

/-- A cycle on a reading judges the latch and clears the channel fault flag; under the latch it posts no demand (R19,
R20). -/
theorem Loop.cycle_reading (l : Loop) (pv : Int) :
    (l.cycle (some pv)).latch = (l.judged pv).latch ∧ (l.cycle (some pv)).chFault = false ∧
      ((l.cycle (some pv)).latch = true → (l.cycle (some pv)).demand = 0) := by
  cases mode : ({ l with chFault := false } : Loop).mode with
  | auto =>
    rw [Loop.cycle_auto l pv mode]
    refine ⟨(Loop.correct_latch _).trans ?_, (Loop.correct_chFault _).trans ?_, fun latched => if_pos latched⟩
    all_goals split <;> rfl
  | manual =>
    rw [Loop.cycle_manual l pv mode]
    exact ⟨rfl, rfl, fun latched => if_pos latched⟩
  | off =>
    rw [Loop.cycle_off l pv mode]
    exact ⟨rfl, rfl, fun _ => rfl⟩
  | inhibited =>
    rw [Loop.cycle_inhibited l pv mode]
    exact ⟨rfl, rfl, fun _ => rfl⟩
  | fault => exact absurd mode (Loop.mode_ne_fault _ rfl)

/-! ## LOOP_CYCLE -/

theorem overtempSlot_ne_unanswered (n : Fin 16) : overtempSlot n ≠ unansweredSlot := by
  revert n
  decide

theorem overtempSlot_isCondition (n : Fin 16) : isEventKind (overtempSlot n) = false := by
  revert n
  decide

/-- The OVERTEMP slot of a loop whose latch was `before`, on the record after the cycle (R20, R145, R146). -/
def overtempAfter (now : Word) (before : Bool) (reading : Option Int) (after : Bool) (slot : Slot) : Slot :=
  if after && !before then (reading.elim slot fun pv => slot.raise now (signed16 pv))
  else if before && !after then slot.ret
  else slot

theorem Part.loopCycle_overtemp (p : Part) (n : Fin 16) :
    (p.loopCycle n).desk.conds.get (overtempSlot n) =
      overtempAfter p.uptime (p.loops.get n).latch (p.reading (loopChannel n))
        ((p.loops.get n).cycle (p.reading (loopChannel n))).latch (p.desk.conds.get (overtempSlot n)) := by
  unfold Part.loopCycle overtempAfter
  dsimp only
  split
  · cases p.reading (loopChannel n) with
    | none => simp
    | some pv =>
      simp [Part.raise, Desk.raise_slot _ _ _ _ (overtempSlot_ne_unanswered n), overtempSlot_isCondition]
  · split <;> simp [Part.ret]

@[simp] theorem State.event_loop (s : State) (after : Part) (n : Fin 16) :
    (s.event after).loop n = after.loops.get n := rfl

/-- A cycle leaves every loop but its own. -/
theorem Part.loopCycle_others (p : Part) {n m : Fin 16} (other : m ≠ n) :
    (p.loopCycle n).loops.get m = p.loops.get m := by
  rw [Part.loopCycle_loops, Table.get_set_ne _ _ other]

theorem Part.loopCycle_own (p : Part) (n : Fin 16) :
    (p.loopCycle n).loops.get n = (p.loops.get n).cycle (p.reading (loopChannel n)) := by
  rw [Part.loopCycle_loops, Table.get_set_self]

/-- Settles O18: the stages' own equations, on the record that the windup correction leaves. -/
theorem autoCycleRunsTheSixStages : Obligations.AutoCycleRunsTheSixStages := by
  intro s n l isLoop pv reading auto g corrected quotient spf p integ y raw d u latch
  have works := Part.loopCycle_works s.part n
  have filtered : spf = l.filtered := (Loop.filtered_eq l).symm
  refine ⟨_, rfl, works.happened, works.event_kept, fun m other => Part.loopCycle_others _ other, filtered, ?_⟩
  have record : (s.part.loopCycle n).loops.get n = l.cycle (some pv) := by
    rw [Part.loopCycle_own, reading, ← isLoop]
  rw [State.event_loop, record, Loop.cycle_auto l pv auto]
  unfold Loop.autoCycle
  rw [Loop.judged_corrected]
  clear_value spf
  subst filtered
  rfl

/-- What a cycle without a reading makes of the latch: nothing (R19, R28). -/
theorem Loop.cycle_none_latch (l : Loop) : (l.cycle none).latch = l.latch := rfl

/-- Settles O19: the record by the equation of each mode; the slot by what the latch was and became. -/
theorem otherCyclesAndTheOvertempLatch : Obligations.OtherCyclesAndTheOvertempLatch := by
  refine ⟨fun s n l isLoop => ?_, fun s n l isLoop => ?_⟩
  all_goals
    subst isLoop
    have works := Part.loopCycle_works s.part n
    have record : (s.event (s.part.loopCycle n)).loop n = (s.loop n).cycle (s.part.reading (loopChannel n)) :=
      Part.loopCycle_own s.part n
    refine ⟨_, rfl, ?_⟩
    rw [record]
  · refine ⟨works.happened, works.event_kept, fun m other => Part.loopCycle_others _ other, ?_, ?_⟩
    · intro reading
      rw [reading, Loop.cycle_none]
    · intro pv reading j isJ latch out
      subst isJ
      rw [reading]
      exact ⟨fun manual => Loop.cycle_manual _ pv manual, fun off => Loop.cycle_off _ pv off,
        fun inhibited => Loop.cycle_inhibited _ pv inhibited⟩
  · have slot : (s.event (s.part.loopCycle n)).slot (overtempSlot n) = overtempAfter s.part.uptime (s.loop n).latch
        (s.part.reading (loopChannel n)) ((s.loop n).cycle (s.part.reading (loopChannel n))).latch
        (s.slot (overtempSlot n)) := Part.loopCycle_overtemp s.part n
    refine ⟨fun i other unanswered => works.event_kept.slots i (by simpa using other) unanswered, ?_, ?_⟩
    · intro reading
      rw [slot, reading, Loop.cycle_none_latch]
      exact ⟨rfl, by simp [overtempAfter]⟩
    · intro pv reading
      rw [slot, reading]
      obtain ⟨latch, noFault, posted⟩ := (s.loop n).cycle_reading pv
      refine ⟨posted, noFault, ?_⟩
      rw [latch, Loop.judged_latch]
      refine ⟨fun clear above => ?_, fun clear below => ?_, fun set below => ?_, fun set above => ?_⟩
      · simp [clear, above, overtempAfter, signed16]
      · simp [clear, below, overtempAfter]
      · simp [set, not_le.mpr below, overtempAfter]
      · simp [set, above, overtempAfter]

end Sys2Proof.Machine
end

section
/-!
Chapter 2: the requests for a loop's mode, values and configuration (R31, R35 to R38).
-/

namespace Sys2Proof.Machine

@[simp] theorem State.answer_loop (s : State) (kind tag : Byte) (taken : Part × Answer) (n : Fin 16) :
    (s.answer kind tag taken).loop n = taken.1.loops.get n := rfl

/-- What one loop's new record makes of the loops. -/
theorem loop_of_loops {s : State} {kind tag : Byte} {taken : Part × Answer} {n : Fin 16} {l : Loop}
    (loops : taken.1.loops = s.part.loops.set n l) :
    (∀ m, m ≠ n → (s.answer kind tag taken).loop m = s.loop m) ∧ (s.answer kind tag taken).loop n = l := by
  refine ⟨fun m other => ?_, ?_⟩
  · rw [State.answer_loop, loops, Table.get_set_ne _ _ other]
  · rw [State.answer_loop, loops, Table.get_set_self]

/-- An answer that carries the taken value where a clamp changed it (R31, R37). -/
theorem Works.answered_taken {f : Footprint} {own : List (Fin 87)} {s : State} {p : Part} (h : Works f own s.part p)
    (kind tag : Byte) (same : Prop) [Decidable same] (piece : List Byte) :
    Answered f kind tag (if same then .ok else .okTaken) (if same then [] else [piece]) s
      (s.answer kind tag (p, if same then { status := .ok } else { status := .okTaken, pieces := [piece] })) := by
  split
  · exact h.answered (taken := (p, { status := .ok })) kind tag
  · exact h.answered (taken := (p, { status := .okTaken, pieces := [piece] })) kind tag

/-! ## SET LOOP MODE (R35, R36) -/

section Mode

variable (p : Part) {loop mode : Byte} (inTable : loop.toNat < 16)

theorem setLoopMode_manual_of_auto (asks : mode.toNat = 2) (auto : (p.loops.get ⟨loop.toNat, inTable⟩).mode = .auto) :
    setLoopMode loop mode p =
      (p.setLoop ⟨loop.toNat, inTable⟩ (p.loops.get ⟨loop.toNat, inTable⟩).toManual, { status := .ok }) := by
  obtain rfl : mode = 2 := BitVec.eq_of_toNat_eq asks
  simp [setLoopMode, index_of_lt inTable, auto]

theorem setLoopMode_auto_of_manual (asks : mode.toNat = 1)
    (manual : (p.loops.get ⟨loop.toNat, inTable⟩).mode = .manual) :
    setLoopMode loop mode p =
      (p.setLoop ⟨loop.toNat, inTable⟩ ((p.loops.get ⟨loop.toNat, inTable⟩).toAuto
        (p.reading (loopChannel ⟨loop.toNat, inTable⟩))), { status := .ok }) := by
  obtain rfl : mode = 1 := BitVec.eq_of_toNat_eq asks
  simp [setLoopMode, index_of_lt inTable, manual]

/-- The mode shown is taken and changes nothing. -/
theorem setLoopMode_shown (shown : mode.toNat = 1 ∧ (p.loops.get ⟨loop.toNat, inTable⟩).mode = .auto ∨
      mode.toNat = 2 ∧ (p.loops.get ⟨loop.toNat, inTable⟩).mode = .manual) :
    setLoopMode loop mode p = (p, { status := .ok }) := by
  rcases shown with ⟨asks, auto⟩ | ⟨asks, manual⟩
  · obtain rfl : mode = 1 := BitVec.eq_of_toNat_eq asks
    simp [setLoopMode, index_of_lt inTable, auto]
  · obtain rfl : mode = 2 := BitVec.eq_of_toNat_eq asks
    simp [setLoopMode, index_of_lt inTable, manual]

theorem setLoopMode_otherwise (asks : mode.toNat = 1 ∨ mode.toNat = 2)
    (notAuto : (p.loops.get ⟨loop.toNat, inTable⟩).mode ≠ .auto)
    (notManual : (p.loops.get ⟨loop.toNat, inTable⟩).mode ≠ .manual) :
    setLoopMode loop mode p = (p, { status := .state }) := by
  unfold setLoopMode
  rw [index_of_lt inTable]
  dsimp only
  rcases asks with asks | asks
  · obtain rfl : mode = 1 := BitVec.eq_of_toNat_eq asks
    rw [if_pos rfl]
    split
    · next auto => exact absurd auto notAuto
    · next manual => exact absurd manual notManual
    all_goals rfl
  · obtain rfl : mode = 2 := BitVec.eq_of_toNat_eq asks
    rw [if_neg (by decide), if_pos rfl]
    split
    · next manual => exact absurd manual notManual
    · next auto => exact absurd auto notAuto
    all_goals rfl

theorem setLoopMode_outOfRange (out : 16 ≤ loop.toNat ∨ mode.toNat ≠ 1 ∧ mode.toNat ≠ 2) :
    setLoopMode loop mode p = (p, { status := .range }) := by
  unfold setLoopMode
  split
  · rfl
  · next n isLoop =>
    rw [index_eq_some] at isLoop
    have noLoop : ¬ 16 ≤ loop.toNat := by omega
    obtain ⟨notAuto, notManual⟩ := out.resolve_left noLoop
    dsimp only
    rw [if_neg (fun is => notAuto (by rw [is]; rfl)), if_neg (fun is => notManual (by rw [is]; rfl))]

end Mode

/-- Settles O20: the two transfers by their own records, the requests that change nothing by what is shown. -/
theorem loopModeTransfers : Obligations.LoopModeTransfers := by
  intro s tag loop mode
  refine ⟨?_, fun outOfRange => ?_⟩
  · intro inTable l isLoop n out
    subst isLoop
    have works (m : Loop) : Works { loops := true } [] s.part (s.part.setLoop n m) := Part.setLoop_works s.part [] n m
    refine ⟨fun asks auto => ?_, fun asks manual => ?_, fun shown => ?_, fun asks notAuto notManual => ?_⟩
    · refine ⟨_, rfl, ?_⟩
      rw [setLoopMode_manual_of_auto s.part inTable asks auto]
      exact ⟨(works _).answered (taken := (_, { status := .ok })) 0x21 tag, loop_of_loops (Part.setLoop_loops _ _ _)⟩
    · refine ⟨_, rfl, ?_⟩
      rw [setLoopMode_auto_of_manual s.part inTable asks manual]
      obtain ⟨others, own⟩ := loop_of_loops (kind := 0x21) (tag := tag) (taken := (_, { status := .ok }))
        (Part.setLoop_loops s.part n ((s.loop n).toAuto (s.part.reading (loopChannel n))))
      refine ⟨(works _).answered (taken := (_, { status := .ok })) 0x21 tag, others, fun reading => own.trans ?_,
        fun pv reading => own.trans ?_⟩
      · rw [reading]
        rfl
      · rw [reading]
        rfl
    · simp only [exec, execSetLoopMode, setLoopMode_shown s.part inTable shown]
    · simp only [exec, execSetLoopMode, setLoopMode_otherwise s.part inTable asks notAuto notManual]
  · simp only [exec, execSetLoopMode, setLoopMode_outOfRange s.part outOfRange]

/-! ## SET MANUAL OUTPUT (R37) -/

/-- The record of a loop in MANUAL under a new output and ramp (R37). -/
def Loop.manualAt (out : Nat) (ramp : Int) (l : Loop) : Loop :=
  { l with manOut := out, ramp, uLast := out, demand := l.post out }

section Values

variable (p : Part) {loop : Byte}

/-- The fields of a SET MANUAL OUTPUT lie in their ranges (R37). -/
structure ManualInRange (output ramp : Half) : Prop where
  output : output.toNat ≤ 1000
  low : -1000 ≤ ramp.toInt
  high : ramp.toInt ≤ 1000

theorem setManualOutput_taken (inTable : loop.toNat < 16) {output ramp : Half} (inRange : ManualInRange output ramp)
    (manual : (p.loops.get ⟨loop.toNat, inTable⟩).mode = .manual) :
    setManualOutput loop output ramp p =
      let n : Fin 16 := ⟨loop.toNat, inTable⟩
      let l := p.loops.get n
      let out := l.cfg.limit output.toNat
      ((p.setLoop n (l.manualAt out ramp.toInt)).mark .loop n.val,
        if out = output.toNat then { status := .ok } else { status := .okTaken, pieces := [u16 out] }) := by
  obtain ⟨output, low, high⟩ := inRange
  unfold setManualOutput
  rw [index_of_lt inTable]
  dsimp only
  rw [if_pos (by simp [within, output, low, high])]
  split
  · rfl
  all_goals next mode => exact absurd (manual.symm.trans mode) (by simp)

theorem setManualOutput_notManual (inTable : loop.toNat < 16) {output ramp : Half} (inRange : ManualInRange output ramp)
    (notManual : (p.loops.get ⟨loop.toNat, inTable⟩).mode ≠ .manual) :
    setManualOutput loop output ramp p = (p, { status := .state }) := by
  obtain ⟨output, low, high⟩ := inRange
  unfold setManualOutput
  rw [index_of_lt inTable]
  dsimp only
  rw [if_pos (by simp [within, output, low, high])]
  split
  · next manual => exact absurd manual notManual
  all_goals rfl

theorem setManualOutput_outOfRange {output ramp : Half}
    (out : 16 ≤ loop.toNat ∨ 1000 < output.toNat ∨ ramp.toInt < -1000 ∨ 1000 < ramp.toInt) :
    setManualOutput loop output ramp p = (p, { status := .range }) := by
  unfold setManualOutput
  split
  · rfl
  · next n isLoop =>
    rw [index_eq_some] at isLoop
    have noLoop : ¬ 16 ≤ loop.toNat := by omega
    dsimp only
    rw [if_neg]
    simp only [Bool.and_eq_true, within_iff, decide_eq_true_eq]
    omega

/-! ## SET LOOP SETPOINT (R31) -/

theorem setLoopSetpoint_taken (inTable : loop.toNat < 16) (setpoint : Half) :
    setLoopSetpoint loop setpoint p =
      let n : Fin 16 := ⟨loop.toNat, inTable⟩
      let taken := (p.loops.get n).cfg.takenSetpoint setpoint.toInt
      (p.requestSetpoint n setpoint.toInt,
        if taken = setpoint.toInt then { status := .ok } else { status := .okTaken, pieces := [s16 taken] }) := by
  simp [setLoopSetpoint, index_of_lt inTable]

theorem setLoopSetpoint_outOfRange (out : 16 ≤ loop.toNat) (setpoint : Half) :
    setLoopSetpoint loop setpoint p = (p, { status := .range }) := by
  simp [setLoopSetpoint, index_of_le out]

/-! ## CONFIGURE LOOP (R38) -/

/-- The configuration that a CONFIGURE LOOP carries, in or out of range. -/
def writtenConfig (f : LoopFields) : LoopConfig :=
  { tcyc := f.tcyc.toNat, kc := f.kc.toNat, ti := f.ti.toNat, td := f.td.toNat, b := f.b.toNat, c := f.c.toNat,
    n := f.n.toNat, a := f.a.toNat, w := f.w.toNat, satLow := f.satLow.toNat, satHigh := f.satHigh.toNat,
    maxSetpoint := f.maxSetpoint.toNat, highLimit := f.highLimit.toNat, hysteresis := f.hysteresis.toNat }

theorem loopConfigOf_eq_some {f : LoopFields} (inRange : (writtenConfig f).InRange) :
    loopConfigOf f = some (writtenConfig f) := by
  obtain ⟨tcyc, kc, ti, td, -, -, n, -, w, sat, maxSetpoint, highLimit, hysteresis⟩ := inRange
  simp only [writtenConfig] at *
  unfold loopConfigOf
  rw [if_pos]
  simp only [Bool.and_eq_true, within_iff, decide_eq_true_eq]
  omega

theorem loopConfigOf_eq_none {f : LoopFields} (out : ¬ (writtenConfig f).InRange) : loopConfigOf f = none := by
  cases is : loopConfigOf f with
  | none => rfl
  | some g =>
    refine absurd ?_ out
    have inRange := loopConfigOf_inRange is
    unfold loopConfigOf at is
    split at is
    · cases is
      exact inRange
    · cases is

theorem configureLoop_taken (inTable : loop.toNat < 16) {f : LoopFields} (inRange : (writtenConfig f).InRange) :
    configureLoop loop f p =
      let n : Fin 16 := ⟨loop.toNat, inTable⟩
      ((p.setLoop n ((p.loops.get n).configured (writtenConfig f))).mark .loop n.val, { status := .ok }) := by
  simp [configureLoop, index_of_lt inTable, loopConfigOf_eq_some inRange]

theorem configureLoop_outOfRange {f : LoopFields} (out : 16 ≤ loop.toNat ∨ ¬ (writtenConfig f).InRange) :
    configureLoop loop f p = (p, { status := .range }) := by
  unfold configureLoop
  split
  · next n g isLoop isConfig =>
    rw [index_eq_some] at isLoop
    have noLoop : ¬ 16 ≤ loop.toNat := by omega
    rw [loopConfigOf_eq_none (out.resolve_left noLoop)] at isConfig
    cases isConfig
  · rfl

end Values

/-- A configured record by the mode that the loop reports, which a configuration does not change (R38). -/
theorem Loop.configured_eq (l : Loop) (g : LoopConfig) : l.configured g = { l with
    cfg := g
    timer := g.tcyc
    sp := if (g.maxSetpoint : Int) < l.sp then g.maxSetpoint else l.sp
    manOut := g.limit l.manOut
    demand :=
      if l.mode = .manual then l.post (g.limit l.manOut)
      else if l.mode = .auto then l.post (g.limit l.uLast)
      else l.demand } := by
  unfold Loop.configured
  dsimp only
  split
  all_goals
    next mode =>
    change l.mode = _ at mode
    simp [mode, Loop.post]

/-- A loop that takes a record by a request that marks it in any case. -/
theorem Part.setLoop_mark_works (p : Part) (n : Fin 16) (l : Loop) :
    Works { loops := true } [] p ((p.setLoop n l).mark .loop n.val) :=
  (Part.setLoop_works p [] n l).trans (Works.mark _ _ _ _ rfl)

/-- Settles O21: each request's record, in and out of its ranges. -/
theorem loopValuesAreTaken : Obligations.LoopValuesAreTaken := by
  refine ⟨⟨?manual, ?setpoint, ?setpointOut, ?manualOut⟩, ?configure⟩
  case manual =>
    intro s tag loop output ramp inTable l isLoop manual outputOk low high n out
    subst isLoop
    refine ⟨_, rfl, ?_⟩
    rw [setManualOutput_taken s.part inTable ⟨outputOk, low, high⟩ manual]
    obtain ⟨others, own⟩ := loop_of_loops (kind := 0x22) (tag := tag)
      (taken := ((s.part.setLoop n ((s.loop n).manualAt out ramp.toInt)).mark .loop n.val,
        if out = output.toNat then { status := .ok } else { status := .okTaken, pieces := [u16 out] }))
      (Part.setLoop_loops s.part n _)
    refine ⟨(s.part.setLoop_mark_works n _).answered_taken 0x22 tag _ _, others, own, ?_⟩
    rw [State.answer_changeSet]
    exact Link.mem_mark_changeSet _ _ _
  case setpoint =>
    intro s tag loop setpoint inTable l isLoop n taken
    subst isLoop
    refine ⟨_, rfl, ?_⟩
    rw [setLoopSetpoint_taken s.part inTable setpoint]
    have works := Part.requestSetpoint_works s.part [] n setpoint.toInt
    exact ⟨works.answered_taken 0x23 tag _ _, loop_of_loops (Part.requestSetpoint_loops s.part n setpoint.toInt)⟩
  case setpointOut =>
    intro s tag loop setpoint out
    simp only [exec, execSetLoopSetpoint, setLoopSetpoint_outOfRange s.part out]
  case manualOut =>
    intro s tag loop output ramp
    refine ⟨fun out => ?_, fun inTable outputOk low high notManual => ?_⟩
    · simp only [exec, execSetManualOutput, setManualOutput_outOfRange s.part out]
    · simp only [exec, execSetManualOutput,
        setManualOutput_notManual s.part inTable ⟨outputOk, low, high⟩ notManual]
  case configure =>
    intro s tag loop f g
    refine ⟨?_, fun out => ?_⟩
    · intro inTable l inRange isLoop n out
      subst isLoop
      refine ⟨_, rfl, ?_⟩
      rw [configureLoop_taken s.part inTable inRange]
      have works := s.part.setLoop_mark_works n ((s.loop n).configured g)
      obtain ⟨others, own⟩ := loop_of_loops (kind := 0x24) (tag := tag)
        (taken := ((s.part.setLoop n ((s.loop n).configured g)).mark .loop n.val, { status := .ok }))
        (Part.setLoop_loops s.part n ((s.loop n).configured g))
      refine ⟨works.answered (taken := (_, { status := .ok })) 0x24 tag, others, ?_, ?_⟩
      · exact own.trans (Loop.configured_eq _ _)
      · rw [State.answer_changeSet]
        exact Link.mem_mark_changeSet _ _ _
    · simp only [exec, execConfigureLoop, configureLoop_outOfRange s.part out]

end Sys2Proof.Machine
end

section
/-!
The reads (R39, R57, R58, R63, R78, R96, R123, R142, R153, R174, R184): each record as its layout, and what each read
answers.
-/

namespace Sys2Proof.Machine

/-! ## Records as their layouts -/

theorem step_layout (step : Step) : step.bytes = stepLayout step := by
  cases step <;> rfl

theorem source_layout (source : Source) : Source.bytes source = sourceLayout source := by
  cases source <;> rfl

theorem slot_layout (i : Fin 87) (c : Slot) : c.bytes i = slotLayout i c := by
  unfold Slot.bytes slotLayout
  cases c.state <;> rfl

theorem waveSlot_layout (slot : Option Wave) : slotBytes slot = waveSlotLayout slot := by
  cases slot <;> rfl

theorem page_layout (g : Page) : g.bytes = pageLayout g := by
  unfold Page.bytes pageLayout
  rw [source_layout]
  cases g.state <;> cases g.target <;> cases g.deadline <;> rfl

theorem page_latch_layout (g : Page) :
    g.latchBytes = g.latch.map fun param => sourceLayout g.source ++ bytes16 param := by
  simp only [Page.latchBytes, source_layout]

theorem rack_layout (r : Rack) : r.bytes = rackLayout r := by
  have interval : optField 4 bytes32 r.interval =
      (match r.interval with | some gap => 1 :: bytes32 gap | none => [0, 0, 0, 0, 0]) := by cases r.interval <;> rfl
  have washMin : optField 2 s16 r.washMin = (match r.washMin with | some low => 1 :: s16 low | none => [0, 0, 0]) := by
    cases r.washMin <;> rfl
  have outcome : optField 1 (fun o : RackOutcome => u8 o.code) r.outcome = (match r.outcome with
      | some .passed => [1, 0] | some .failedDose => [1, 1] | some .failedWash => [1, 2] | some .lost => [1, 3]
      | some .unverified => [1, 4] | none => [0, 0]) := by
    rcases r.outcome with - | (- | - | - | - | -) <;> rfl
  have removal : optField 4 bytes32 r.removal =
      (match r.removal with | some uptime => 1 :: bytes32 uptime | none => [0, 0, 0, 0, 0]) := by
    cases r.removal <;> rfl
  unfold Rack.bytes rackLayout
  rw [interval, washMin, outcome, removal] <;> rfl

/-- The hold reasons as one byte, DOOR in the least significant bit. -/
theorem reasons_layout (r : HoldReasons) : bitSet [r.door, r.overload, r.lost, r.trip] =
    u8 ((if r.door then 1 else 0) + (if r.overload then 2 else 0) + (if r.lost then 4 else 0) +
      (if r.trip then 8 else 0)) := by
  rcases r with ⟨- | -, - | -, - | -, - | -⟩ <;> rfl

theorem dish_layout (d : Dish) : d.bytes = dishLayout d := by
  unfold Dish.bytes dishLayout
  rw [reasons_layout]
  cases d.state <;> cases d.lastEntry <;> rfl

/-- READ LOOP's fields, field by field (R39, R194). -/
def loopLayout (l : Loop) : List Byte :=
  u8 l.mode.code ++ u8 l.base.code ++ flag l.inhibit ++ flag l.chFault ++ s16 l.sp ++ s16 l.spf ++ u16 l.demand ++
    s32 l.uLast ++ s32 l.integ ++ s32 l.deriv ++ u16 l.manOut ++ s16 l.ramp ++ u16 l.grant ++
    bytes32 l.grantRound ++ bytes32 l.usedRound ++ flag l.latch ++ u16 l.cfg.tcyc ++ u32 l.cfg.kc ++ u32 l.cfg.ti ++
    u32 l.cfg.td ++ u8 l.cfg.b ++ u8 l.cfg.c ++ u8 l.cfg.n ++ u16 l.cfg.a ++ u16 l.cfg.w ++ u16 l.cfg.satLow ++
    u16 l.cfg.satHigh ++ u16 l.cfg.maxSetpoint ++ u16 l.cfg.highLimit ++ u8 l.cfg.hysteresis

/-- The configuration's fields behind others, one by one. -/
theorem append_configBytes (ahead : List Byte) (g : LoopConfig) : ahead ++ g.bytes =
    ahead ++ u16 g.tcyc ++ u32 g.kc ++ u32 g.ti ++ u32 g.td ++ u8 g.b ++ u8 g.c ++ u8 g.n ++ u16 g.a ++ u16 g.w ++
      u16 g.satLow ++ u16 g.satHigh ++ u16 g.maxSetpoint ++ u16 g.highLimit ++ u8 g.hysteresis := by
  rw [LoopConfig.bytes]
  simp only [List.append_assoc]

theorem loop_layout (l : Loop) : l.bytes = loopLayout l := append_configBytes _ l.cfg

/-! ## Figures of a read -/

theorem oven_isDone (o : Oven) : o.isDone = (decide (o.state = .holding) || decide (o.state = .finished)) := by
  unfold Oven.isDone
  cases o.state <;> rfl

/-- The number of ovens that run a program (R63). -/
theorem Part.running_eq (p : Part) (n : Fin 16) :
    p.running n = ((List.finRange 6).filter fun x => (p.ovens.get x).runs n).length := by
  rw [Part.running, Table.items_eq_map_get, List.filter_map, List.length_map]
  rfl

/-- Where an oven preheats or cooks at a step. -/
def Oven.showsStep (o : Oven) : Prop := (o.state = .preheating ∨ o.state = .cooking) ∧ 1 ≤ o.step

theorem Oven.presentStep_eq {o : Oven} (started : 1 ≤ o.step) (g : Program) :
    o.presentStep g = g.steps[o.step - 1]? := if_neg (by omega)

/-- What READ OVEN shows of a step is nothing but in PREHEATING and COOKING (R78). -/
theorem Oven.shownStep_none {o : Oven} {g : Program} (none : ¬ o.showsStep ∨ g.steps[o.step - 1]? = none) :
    o.shownStep g = (.none, .none) := by
  unfold Oven.shownStep
  have present {step : Step} (shows : o.state = .preheating ∨ o.state = .cooking)
      (is : o.presentStep g = some step) : False := by
    have started : 1 ≤ o.step := by
      by_contra unstarted
      simp [Oven.presentStep, show o.step = 0 by omega] at is
    rw [Oven.presentStep_eq started] at is
    rcases none with hidden | absent
    · exact hidden ⟨shows, started⟩
    · rw [absent] at is
      cases is
  split
  · next state is => exact (present (Or.inl state) is).elim
  · next state is => exact (present (Or.inr state) is).elim
  · next state is => exact (present (Or.inl state) is).elim
  · next state is => exact (present (Or.inr state) is).elim
  · rfl

/-- The core target of a step, which CORE steps alone have (section 4.1). -/
def Step.target : Step → Option Nat
  | .timed _ _ => none
  | .core _ _ target => some target

theorem Oven.shownStep_some {o : Oven} {g : Program} (shows : o.showsStep) {step : Step}
    (is : g.steps[o.step - 1]? = some step) :
    o.shownStep g = (some step.setpoint, step.target) := by
  obtain ⟨state, started⟩ := shows
  have present : o.presentStep g = some step := (Oven.presentStep_eq started g).trans is
  unfold Oven.shownStep
  rw [present]
  rcases state with state | state <;> cases step <;> rw [state] <;> rfl

/-! ## What a read answers -/

section Reads

variable {s : State} {tag b : Byte}

theorem refuses_reads_of_sixteen (out : 16 ≤ b.toNat) :
    refuses (.readLoop tag b) 0x20 tag .range s ∧ refuses (.readHeater tag b) 0x32 tag .range s ∧
      refuses (.readProgram tag b) 0x41 tag .range s ∧ refuses (.readRoute tag b) 0x9B tag .range s := by
  refine ⟨?_, ?_, ?_, ?_⟩
  · simp only [refuses, exec, execReadLoop, readLoop, index_of_le out]
  · simp only [refuses, exec, execReadHeater, readHeater, index_of_le out]
  · simp only [refuses, exec, execReadProgram, readProgram, index_of_le out]
  · simp only [refuses, exec, execReadRoute, readRoute, index_of_le out]

theorem answers_readLoop {n : Fin 16} (is : n.val = b.toNat) :
    answers (.readLoop tag b) 0x20 tag [loopLayout (s.loop n)] s := by
  simp only [answers, exec, execReadLoop, readLoop, index_eq_some.mpr is, loop_layout]

theorem answers_readHeater {n : Fin 16} (is : n.val = b.toNat) :
    answers (.readHeater tag b) 0x32 tag
      [u8 n.val ++ u16 (s.heater n).rated ++ u8 (s.heater n).cls.code ++ u16 (s.loop n).demand ++
        u16 (s.heater n).grant ++ bytes32 (s.heater n).grantRound ++ u16 (s.heater n).delivered ++
        u16 (s.heater n).starve ++ flag (s.heater n).starved ++ flag (s.heater n).locked] s := by
  simp only [answers, exec, execReadHeater, readHeater, index_eq_some.mpr is, Heater.bytes, List.append_assoc]

theorem answers_readProgram {n : Fin 16} (is : n.val = b.toNat) :
    answers (.readProgram tag b) 0x41 tag
      (listPieces ((s.part.programs.get n).steps.map stepLayout) ++
        [u16 (s.part.programs.get n).hold ++ u16 (s.part.programs.get n).band ++
          u8 ((List.finRange 6).filter fun x => (s.oven x).runs n).length]) s := by
  simp only [answers, exec, execReadProgram, readProgram, index_eq_some.mpr is, Part.running_eq,
    show Step.bytes = stepLayout from funext step_layout]

theorem answers_readRoute {n : Fin 16} (is : n.val = b.toNat) :
    answers (.readRoute tag b) 0x9B tag
      [flag (s.pager.routes.get n).enabled ++ u8 (s.pager.routes.get n).group.val ++
        u8 (s.pager.routes.get n).priority.val ++ [(s.pager.routes.get n).code]] s := by
  simp only [answers, exec, execReadRoute, readRoute, index_eq_some.mpr is]

theorem answers_readOven {n : Fin 6} (is : n.val = b.toNat) {setpoint target : Option Nat}
    (shown : (s.oven n).shownStep (s.part.programs.get (s.oven n).program) = (setpoint, target)) :
    answers (.readOven tag b) 0x46 tag
      [u8 (s.oven n).state.code ++ u8 (s.oven n).program.val ++ u8 (s.oven n).step ++ u16 (s.oven n).elapsed ++
        u8 (s.oven n).stepEnd.code ++ flag (!(s.oven n).doorOpen) ++ bytes32 (s.oven n).start ++
        u8 (s.oven n).outcome.code ++ optField 2 u16 setpoint ++ optField 2 u16 target] s := by
  simp only [answers, exec, execReadOven, readOven, index_eq_some.mpr is, shown]

theorem answers_readCabinet {n : Fin 8} (is : n.val = b.toNat) :
    answers (.readCabinet tag b) 0x58 tag
      ((s.cabinet n).bytes :: listPieces ((s.cabinet n).batches.map (Batch.bytes (s.cabinet n).warmTime))) s := by
  simp only [answers, exec, execReadCabinet, readCabinet, index_eq_some.mpr is]

theorem answers_readGroup {n : Fin 8} (is : n.val = b.toNat) :
    answers (.readGroup tag b) 0x9A tag
      [u8 (match (s.pager.groups.get n).escalation with | some e => e.val | none => 255) ++
        u8 (s.pager.groups.get n).limit ++ u16 (s.pager.groups.get n).timeout ++
        u8 (s.pager.groups.get n).pointer.val] s := by
  simp only [answers, exec, execReadGroup, readGroup, index_eq_some.mpr is]
  cases (s.pager.groups.get n).escalation <;> rfl

theorem answers_readStock {k : Fin 4} (is : k.val = b.toNat) :
    answers (.readStock tag b) 0x59 tag
      [u16 (s.stockOf k).total ++ u16 (s.stockOf k).soiled ++ u16 (s.stockOf k).tunnel ++ u16 (s.stockOf k).clean ++
        u16 (s.stockOf k).issued ++ u16 (s.part.heldOfKind k)] s := by
  simp only [answers, exec, execReadStock, readStock, index_eq_some.mpr is]

theorem answers_readCondition {i : Fin 87} (is : i.val = b.toNat) :
    answers (.readCondition tag b) 0x81 tag [slotLayout i (s.slot i)] s := by
  simp only [answers, exec, execReadCondition, readCondition, index_eq_some.mpr is, slot_layout]

theorem answers_readPager {e : Fin 64} (is : e.val = b.toNat) :
    answers (.readPager tag b) 0x99 tag
      [u16 (s.pager.directory.get e).address ++ [(s.pager.directory.get e).groups] ++
        flag (s.pager.directory.get e).duty ++ u8 (s.pager.directory.get e).outstanding] s := by
  simp only [answers, exec, execReadPager, readPager, index_eq_some.mpr is]

theorem answers_readConditions {first count : Byte} (asked : 1 ≤ count.toNat)
    (within : first.toNat + count.toNat ≤ 87) :
    answers (.readConditions tag first count) 0x82 tag
      (listPieces ((slotRun first.toNat count.toNat).map fun i => slotLayout i (s.slot i))) s := by
  have inside : ¬ (count = 0 ∨ 87 < first.toNat + count.toNat) := by
    rintro (rfl | out)
    · simp at asked
    · omega
  simp only [answers, exec, execReadConditions, readConditions, if_neg inside, slot_layout]

theorem refuses_readConditions {first count : Byte} (out : count.toNat = 0 ∨ 87 < first.toNat + count.toNat) :
    refuses (.readConditions tag first count) 0x82 tag .range s := by
  have outside : count = 0 ∨ 87 < first.toNat + count.toNat := out.imp_left fun zero => BitVec.eq_of_toNat_eq zero
  simp only [refuses, exec, execReadConditions, readConditions, if_pos outside]

theorem Part.named_of_wave {p : Part} {slot number : Byte} {w : Fin 12} (is : w.val = slot.toNat)
    (numbered : number.toNat ≠ 0) {v : Wave} (held : p.waves.get w = some v) (same : v.number = number) :
    p.named slot number = .wave w v := by
  have notZero : number ≠ 0 := fun zero => numbered (by rw [zero]; rfl)
  simp only [Part.named, index_eq_some.mpr is, if_neg notZero, held, if_pos same]

theorem answers_readWave {slot number : Byte} {w : Fin 12} (is : w.val = slot.toNat) (numbered : number.toNat ≠ 0)
    {v : Wave} (held : s.wave w = some v) (same : v.number = number) :
    answers (.readWave tag slot number) 0x75 tag [s.part.waveBytes v] s := by
  simp only [answers, exec, execReadWave, readWave, Part.named_of_wave is numbered held same]

theorem answers_readPending : answers (.readPending tag) 0x83 tag
    (listPieces (((List.finRange 87).filter fun i => (s.slot i).pending).map fun i =>
      u8 i.val ++ u8 (s.slot i).state.code ++ [(s.slot i).count])) s := rfl

theorem answers_readDish : answers (.readDish tag) 0x68 tag
    (dishLayout s.dish :: (listPieces (s.dish.declared.map fun a => u8 a.kind.val ++ u8 a.count) ++
      [u8 s.dish.queue.length ++ u8 s.dish.ring.length ++ u16 s.dish.overwrites])) s := by
  simp only [answers, exec, execReadDish, readDish, dish_layout]
  rfl

theorem answers_readTunnel : answers (.readTunnel tag) 0x69 tag (listPieces (s.dish.queue.map rackLayout)) s := by
  simp only [answers, exec, execReadTunnel, readTunnel, show Rack.bytes = rackLayout from funext rack_layout]

theorem answers_readWaves : answers (.readWaves tag) 0x76 tag
    ((List.finRange 12).map fun w => waveSlotLayout (s.wave w)) s := by
  simp only [answers, exec, execReadWaves, readWaves, Table.items_eq_map_get, List.map_map, ← waveSlot_layout]
  rfl

theorem answers_readPages : answers (.readPages tag) 0x98 tag
    (listPieces (s.pager.queue.map pageLayout) ++ listPieces (s.pager.queue.filterMap fun page =>
      page.latch.map fun param => sourceLayout page.source ++ bytes16 param)) s := by
  simp only [answers, exec, execReadPages, readPages, show Page.bytes = pageLayout from funext page_layout,
    show Page.latchBytes = _ from funext page_latch_layout]

theorem answers_readRadio : answers (.readRadio tag) 0x9C tag
    [(match s.pager.port with
      | .sending id sent repeated => u8 1 ++ [1] ++ bytes16 id ++ [1, sent] ++ [1] ++ flag repeated
      | .idle => u8 0 ++ [0, 0, 0, 0, 0, 0, 0]
      | .waiting => u8 2 ++ [0, 0, 0, 0, 0, 0, 0]
      | .down => u8 3 ++ [0, 0, 0, 0, 0, 0, 0]) ++ u16 s.pager.backoff ++ bytes16 s.pager.pageCounter] s := by
  simp only [answers, exec, execReadRadio, readRadio]
  cases s.pager.port <;> rfl

theorem answers_readInterlocks : answers (.readInterlocks tag) 0xA1 tag
    [((List.finRange 12).map fun i => (s.part.interlock.lines.get i).filtered).flatMap flag ++
      flag s.part.interlock.trip ++
      (((List.finRange 16).map fun n => (s.heater n).output && s.part.interlock.driveEnable) ++
        [s.dish.conveyor, s.dish.valveOpen, s.dish.gateOpen, s.part.feeder.reducedAck]).flatMap flag ++
      bytes32 s.part.interlock.travel] s := by
  simp only [answers, exec, execReadInterlocks, readInterlocks, Part.outputs, Part.heaterPins, Table.items_eq_map_get,
    List.map_map, List.flatMap_map]
  rfl

end Reads

/-- Settles O60: each read by its own answer above. -/
theorem readsAnswerTheirRecords : Obligations.ReadsAnswerTheirRecords := by
  refine ⟨?byIndex, ?runs, ?wave, ?whole⟩
  case byIndex =>
    intro s tag b slotFields
    refine ⟨?_, refuses_reads_of_sixteen, ?_, fun out => ?_, ?_, fun out => ?_, ?_, fun out => ?_, ?_, fun out => ?_,
      ?_, fun out => ?_⟩
    · intro n is l g h program running r
      refine ⟨answers_readLoop is, answers_readHeater is, answers_readProgram is, answers_readRoute is⟩
    · intro n is o shown runs fields
      refine ⟨fun none => answers_readOven is (Oven.shownStep_none none), fun setpoint duration shows step => ?_,
        fun setpoint duration target shows step => ?_⟩
      · exact answers_readOven is (Oven.shownStep_some shows step)
      · exact answers_readOven is (Oven.shownStep_some shows step)
    · simp only [refuses, exec, execReadOven, readOven, index_of_le out]
    · intro n is c g
      exact ⟨answers_readCabinet is, answers_readGroup is⟩
    · constructor
      · simp only [refuses, exec, execReadCabinet, readCabinet, index_of_le out]
      · simp only [refuses, exec, execReadGroup, readGroup, index_of_le out]
    · exact fun k is => answers_readStock is
    · simp only [refuses, exec, execReadStock, readStock, index_of_le out]
    · exact fun i is => answers_readCondition is
    · simp only [refuses, exec, execReadCondition, readCondition, index_of_le out]
    · exact fun e is => answers_readPager is
    · simp only [refuses, exec, execReadPager, readPager, index_of_le out]
  case runs =>
    exact fun s tag first count => ⟨fun asked within => answers_readConditions asked within, refuses_readConditions⟩
  case wave =>
    intro s tag slot number w is numbered v held same potential done
    have read := answers_readWave (tag := tag) is numbered held same
    simp only [Part.waveBytes, Part.ovensDone, oven_isDone] at read
    exact read
  case whole =>
    intro s tag f d g port slots lines heaters
    exact ⟨rfl, answers_readDish, answers_readTunnel, answers_readWaves, answers_readPending, answers_readPages,
      answers_readRadio, answers_readInterlocks⟩

end Sys2Proof.Machine
end

section
/-!
What the owners' AUTO and release requests make of a loop and its OVERTEMP slot (R33, R34), as the statements write it.
-/

namespace Sys2Proof.Machine

/-! ## The two requests by what they find -/

namespace Loop

variable {l : Loop} {reading : Option Int}

/-- The record that an owner's AUTO request finds the mode with, from OFF (R33). -/
def autoBase (l : Loop) : Loop :=
  { l with base := .auto, integ := 0, deriv := 0, uLast := 0, usedRound := l.grantRound }

theorem autoAsked_of_on (on : l.base ≠ .off) : l.autoAsked reading = l := by
  unfold autoAsked
  split
  · rfl
  · rfl
  · next off => exact absurd off on

/-- A loop that reports FAULT or INHIBITED reports no AUTO (R17). -/
theorem mode_ne_auto (stopped : l.chFault = true ∨ l.inhibit = true) : l.mode ≠ .auto := by
  rcases stopped with fault | inhibit
  · exact (rests_of_fault fault).1
  · exact (rests_of_inhibit inhibit).1

theorem autoAsked_of_stopped (off : l.base = .off) (stopped : l.chFault = true ∨ l.inhibit = true) :
    l.autoAsked reading = l.autoBase := by
  have mode : l.autoBase.mode ≠ .auto := mode_ne_auto (l := l.autoBase) stopped
  unfold autoAsked
  rw [off]
  dsimp only
  split
  · next auto => exact absurd auto mode
  all_goals rfl

/-- The record on which an AUTO request from OFF takes its cycle: SPf at the PV and y_prev after it where the channel
is OK (R33). -/
def autoFrom (l : Loop) : Option Int → Loop
  | some pv => { l.autoBase with spf := pv, yPrev := l.cfg.derivInput pv pv }
  | none => l.autoBase

theorem autoAsked_of_off (off : l.base = .off) (noFault : l.chFault = false) (free : l.inhibit = false) :
    l.autoAsked reading = (l.autoFrom reading).cycle reading := by
  have mode : l.autoBase.mode = .auto := by simp [Loop.mode, autoBase, noFault, free]
  unfold autoAsked
  rw [off]
  dsimp only
  split
  · cases reading <;> rfl
  all_goals next other => exact absurd (mode.symm.trans other) (by simp)

theorem released_of_free (free : l.inhibit = false) : l.released reading = l := by
  simp [released, free]

theorem released_of_stopped (set : l.inhibit = true) (stopped : l.chFault = true ∨ l.base = .off) :
    l.released reading = { l with inhibit := false } := by
  have rests : ({ l with inhibit := false } : Loop).mode ≠ .auto ∧
      ({ l with inhibit := false } : Loop).mode ≠ .manual := by
    rcases stopped with fault | off
    · exact rests_of_fault fault
    · exact rests_of_off off
  unfold released
  rw [if_neg (by simp [set])]
  dsimp only
  split
  · next auto => exact absurd auto rests.1
  · next manual => exact absurd manual rests.2
  all_goals rfl

theorem released_of_manual (set : l.inhibit = true) (noFault : l.chFault = false) (manual : l.base = .manual) :
    l.released reading = { l with inhibit := false, demand := l.post l.manOut } := by
  have mode : ({ l with inhibit := false } : Loop).mode = .manual := by simp [Loop.mode, noFault, manual]
  simp only [released, set, mode]
  rfl

theorem released_of_auto (set : l.inhibit = true) (noFault : l.chFault = false) (auto : l.base = .auto) :
    l.released reading = ({ l with inhibit := false, usedRound := l.grantRound } : Loop).cycle reading := by
  have mode : ({ l with inhibit := false } : Loop).mode = .auto := by simp [Loop.mode, noFault, auto]
  simp only [released, set, mode]
  rfl

end Loop

/-! ## The OVERTEMP slot goes with the latch -/

@[simp] theorem overtempAfter_same (now : Word) (latch : Bool) (reading : Option Int) (slot : Slot) :
    overtempAfter now latch reading latch slot = slot := by
  cases latch <;> simp [overtempAfter]

/-- Work on a part takes a loop from one record to another, and its OVERTEMP slot with it. -/
structure LoopCarried (n : Fin 16) (l m : Loop) (p q : Part) : Prop where
  loop : q.loops.get n = m
  slot : q.desk.conds.get (overtempSlot n) =
    overtempAfter p.uptime l.latch (p.reading (loopChannel n)) m.latch (p.desk.conds.get (overtempSlot n))

theorem Works.slot_kept {f : Footprint} {own : List (Fin 87)} {p q : Part} (w : Works f own p q) {n : Fin 16}
    (free : overtempSlot n ∉ own) : q.desk.conds.get (overtempSlot n) = p.desk.conds.get (overtempSlot n) :=
  w.desk.slots _ free (overtempSlot_ne_unanswered n)

section Carried

variable {n : Fin 16} {l m : Loop}

section Parts

variable {f : Footprint} {own : List (Fin 87)} {p q r : Part}

/-- Work ahead that leaves the uptime, the readings and the slot. -/
theorem LoopCarried.of_work (h : LoopCarried n l m q r) (w : Works f own p q) (free : overtempSlot n ∉ own)
    (uptime : f.uptime = false := by rfl) (scan : f.scan = false := by rfl) : LoopCarried n l m p r :=
  ⟨h.loop, by rw [h.slot, w.moves.touches.uptime uptime, w.reading scan, w.slot_kept free]⟩

/-- Work after that leaves the loop and the slot. -/
theorem LoopCarried.then_work (h : LoopCarried n l m p q) (w : Works f own q r)
    (loop : r.loops.get n = q.loops.get n) (free : overtempSlot n ∉ own) : LoopCarried n l m p r :=
  ⟨loop.trans h.loop, (w.slot_kept free).trans h.slot⟩

end Parts

variable {s t : State}

theorem LoopCarried.answer {p : Part} (h : LoopCarried n l m s.part p) (kind tag : Byte) (a : Answer) :
    LoopCarried n l m s.part (s.answer kind tag (p, a)).part := ⟨h.loop, h.slot⟩

theorem LoopCarried.event {after : Part} (h : LoopCarried n l m s.part after) :
    LoopCarried n l m s.part (s.event after).part := ⟨h.loop, h.slot⟩

theorem LoopCarried.stands (h : LoopCarried n l m s.part t.part) (latch : m.latch = l.latch) : standsAt n m s t :=
  ⟨h.loop, by
    have slot := h.slot
    rwa [latch, overtempAfter_same] at slot⟩

/-- Where the record is a cycle's, loop and slot are what LOOP_CYCLE makes of the record before it. -/
theorem LoopCarried.cycled {a : Loop}
    (h : LoopCarried n l (a.cycle (s.part.reading (loopChannel n))) s.part t.part) (latch : a.latch = l.latch) :
    cycledFrom n a s t := by
  have own := Part.loopCycle_own (withLoop n a s).part n
  have slot := Part.loopCycle_overtemp (withLoop n a s).part n
  have found : (withLoop n a s).part.loops.get n = a := Table.get_set_self _ _ _
  rw [found] at own slot
  refine ⟨_, rfl, h.loop.trans own.symm, h.slot.trans ?_⟩
  rw [← latch]
  exact slot.symm

/-- The record of an owner's AUTO request is the statement's (R33). -/
theorem LoopCarried.autoStarted (h : LoopCarried n l (l.autoAsked (s.part.reading (loopChannel n))) s.part t.part) :
    autoStarted n l s t := by
  refine ⟨fun notOff => ?_, fun off stopped => ?_, fun off noFault free => ⟨fun reading => ?_, fun pv reading => ?_⟩⟩
  · rw [Loop.autoAsked_of_on notOff] at h
    exact h.stands rfl
  · rw [Loop.autoAsked_of_stopped off stopped] at h
    exact h.stands rfl
  · rw [Loop.autoAsked_of_off off noFault free] at h
    have cycled := h.cycled (by rw [reading]; rfl)
    rwa [reading] at cycled
  · rw [Loop.autoAsked_of_off off noFault free] at h
    have cycled := h.cycled (by rw [reading]; rfl)
    rwa [reading] at cycled

/-- The record of a release request is the statement's (R34). -/
theorem LoopCarried.inhibitReleased
    (h : LoopCarried n l (l.released (s.part.reading (loopChannel n))) s.part t.part) : inhibitReleased n l s t := by
  refine ⟨fun free => ?_, fun set stopped => ?_, fun set noFault manual => ?_, fun set noFault auto => ?_⟩
  · rw [Loop.released_of_free free] at h
    exact h.stands rfl
  · rw [Loop.released_of_stopped set stopped] at h
    exact h.stands rfl
  · rw [Loop.released_of_manual set noFault manual] at h
    exact h.stands rfl
  · rw [Loop.released_of_auto set noFault auto] at h
    exact h.cycled rfl

end Carried

/-! ## Answers with their part named -/

theorem Works.answered_part {f : Footprint} {own : List (Fin 87)} {s : State} {p : Part} (h : Works f own s.part p)
    (kind tag : Byte) (a : Answer) : Answered f kind tag a.status a.pieces s (s.answer kind tag (p, a)) :=
  h.answered (taken := (p, a)) kind tag

theorem Works.kept_part {f : Footprint} {own : List (Fin 87)} {s : State} {p : Part} (h : Works f own s.part p)
    (kind tag : Byte) (a : Answer) : DeskKept own s (s.answer kind tag (p, a)) :=
  h.answer_kept (taken := (p, a)) kind tag

/-! ## The requests' own slots -/

section Requests

variable (p : Part) (n : Fin 16)

theorem Part.ownerAuto_overtemp : (p.ownerAuto n).desk.conds.get (overtempSlot n) =
    overtempAfter p.uptime (p.loops.get n).latch (p.reading (loopChannel n))
      ((p.loops.get n).autoAsked (p.reading (loopChannel n))).latch (p.desk.conds.get (overtempSlot n)) := by
  unfold Part.ownerAuto
  dsimp only
  split
  · next auto => simp [Loop.autoAsked, auto]
  · next manual => simp [Loop.autoAsked, manual]
  · next off =>
    split
    · next mode =>
      simp only [Loop.autoAsked, off, mode]
      split <;> next reading => simp [Part.loopCycle_overtemp, reading]
    all_goals next mode => simp [Loop.autoAsked, off, mode]

theorem Part.releaseLoop_overtemp : (p.releaseLoop n).desk.conds.get (overtempSlot n) =
    overtempAfter p.uptime (p.loops.get n).latch (p.reading (loopChannel n))
      ((p.loops.get n).released (p.reading (loopChannel n))).latch (p.desk.conds.get (overtempSlot n)) := by
  unfold Part.releaseLoop
  dsimp only
  split
  · next clear => simp [Loop.released, clear]
  · next set =>
    split
    all_goals next mode => simp [Loop.released, set, mode, Part.loopCycle_overtemp]

/-- What an owner's AUTO request makes of its loop. -/
theorem Part.ownerAuto_carried : LoopCarried n (p.loops.get n)
    ((p.loops.get n).autoAsked (p.reading (loopChannel n))) p (p.ownerAuto n) :=
  ⟨by rw [Part.ownerAuto_loops, Table.get_set_self], p.ownerAuto_overtemp n⟩

theorem Part.releaseLoop_carried : LoopCarried n (p.loops.get n)
    ((p.loops.get n).released (p.reading (loopChannel n))) p (p.releaseLoop n) :=
  ⟨by rw [Part.releaseLoop_loops, Table.get_set_self], p.releaseLoop_overtemp n⟩

end Requests

/-! ## The loops of the tunnel (R105, R121) -/

section Tunnel

variable (p : Part)

/-- Both loops with their setpoints asked for, ahead of AUTO. -/
theorem Part.dishSetpoints_loops (m : Fin 16) :
    ((p.requestSetpoint 14 p.dish.cfg.washSp).requestSetpoint 15 p.dish.cfg.boosterSp).loops.get m =
      if m = 15 then (p.loops.get 15).asked p.dish.cfg.boosterSp
      else if m = 14 then (p.loops.get 14).asked p.dish.cfg.washSp
      else p.loops.get m := by
  rw [Part.requestSetpoint_loops, Part.requestSetpoint_loops, Table.get_set,
    Table.get_set_ne _ _ (show (15 : Fin 16) ≠ 14 by decide), Table.get_set]

theorem Part.dishSetpoints_works : Works { loops := true } [] p
    ((p.requestSetpoint 14 p.dish.cfg.washSp).requestSetpoint 15 p.dish.cfg.boosterSp) :=
  (Part.requestSetpoint_works p _ _ _).trans (Part.requestSetpoint_works _ _ _ _)

theorem Part.dishLoopsAuto_others {m : Fin 16} (notWash : m ≠ 14) (notBooster : m ≠ 15) :
    p.dishLoopsAuto.loops.get m = p.loops.get m := by
  rw [Part.dishLoopsAuto, Part.ownerAuto_loops, Table.get_set_ne _ _ notBooster, Part.ownerAuto_loops,
    Table.get_set_ne _ _ notWash, p.dishSetpoints_loops, if_neg notBooster, if_neg notWash]

theorem Part.dishLoopsAuto_wash : LoopCarried 14 ((p.loops.get 14).asked p.dish.cfg.washSp)
    (((p.loops.get 14).asked p.dish.cfg.washSp).autoAsked (p.reading (loopChannel 14))) p p.dishLoopsAuto := by
  have asked := p.dishSetpoints_loops 14
  rw [if_neg (by decide), if_pos rfl] at asked
  have carried := Part.ownerAuto_carried
    ((p.requestSetpoint 14 p.dish.cfg.washSp).requestSetpoint 15 p.dish.cfg.boosterSp) 14
  rw [asked, p.dishSetpoints_works.reading] at carried
  refine (carried.of_work p.dishSetpoints_works (by simp)).then_work (Part.ownerAuto_works _ 15) ?_ (by decide)
  exact (congrArg (·.get 14) (Part.ownerAuto_loops _ 15)).trans
    (Table.get_set_ne _ _ (show (14 : Fin 16) ≠ 15 by decide))

theorem Part.dishLoopsAuto_booster : LoopCarried 15 ((p.loops.get 15).asked p.dish.cfg.boosterSp)
    (((p.loops.get 15).asked p.dish.cfg.boosterSp).autoAsked (p.reading (loopChannel 15))) p p.dishLoopsAuto := by
  have wash : Works { loops := true, conds := true, pager := true } [overtempSlot 14] p
      (((p.requestSetpoint 14 p.dish.cfg.washSp).requestSetpoint 15 p.dish.cfg.boosterSp).ownerAuto 14) :=
    (p.dishSetpoints_works.mono rfl (by simp)).trans (Part.ownerAuto_works _ 14)
  have asked := p.dishSetpoints_loops 15
  rw [if_pos rfl] at asked
  have carried := Part.ownerAuto_carried
    (((p.requestSetpoint 14 p.dish.cfg.washSp).requestSetpoint 15 p.dish.cfg.boosterSp).ownerAuto 14) 15
  rw [Part.ownerAuto_loops, Table.get_set_ne _ _ (show (15 : Fin 16) ≠ 14 by decide), asked, wash.reading] at carried
  exact carried.of_work wash (by decide)

end Tunnel

end Sys2Proof.Machine
end

section
/-!
Chapter 6: CONFIGURE DISH and DISH ON (R100, R105).
-/

namespace Sys2Proof.Machine

/-! ## CONFIGURE DISH (R100) -/

/-- The configuration that a CONFIGURE DISH carries, in or out of range. -/
def writtenDish (f : DishFields) : DishConfig :=
  { washSp := f.washSp.toNat, washMin := f.washMin.toNat, boosterSp := f.boosterSp.toNat,
    rinseReady := f.rinseReady.toNat, dose := f.dose.toNat, tunnelLength := f.tunnelLength.toNat,
    washStart := f.washStart.toNat, washEnd := f.washEnd.toNat, rinseStart := f.rinseStart.toNat,
    rinseEnd := f.rinseEnd.toNat, exitTolerance := f.exitTolerance.toNat }

/-- The ranges of section 6.1. -/
def DishConfig.InRange (g : DishConfig) : Prop :=
  g.washSp ≤ 4000 ∧ g.washMin ≤ 4000 ∧ g.boosterSp ≤ 4000 ∧ g.rinseReady ≤ 4000 ∧ 100 ≤ g.dose ∧
    g.dose ≤ 10000 ∧ 1000 ≤ g.tunnelLength ∧ g.tunnelLength ≤ 6000 ∧ g.washStart < g.washEnd ∧
    g.washEnd ≤ g.tunnelLength ∧ g.rinseStart < g.rinseEnd ∧ g.rinseEnd ≤ g.tunnelLength ∧ 50 ≤ g.exitTolerance ∧
    g.exitTolerance ≤ 300

theorem dishConfigOf_eq_some {f : DishFields} (inRange : (writtenDish f).InRange) :
    dishConfigOf f = some (writtenDish f) := by
  simp only [DishConfig.InRange, writtenDish] at inRange
  unfold dishConfigOf
  rw [if_pos]
  · rfl
  · simp only [Bool.and_eq_true, within_iff, decide_eq_true_eq]
    omega

theorem dishConfigOf_eq_none {f : DishFields} (out : ¬ (writtenDish f).InRange) : dishConfigOf f = none := by
  simp only [DishConfig.InRange, writtenDish] at out
  unfold dishConfigOf
  rw [if_neg]
  simp only [Bool.and_eq_true, within_iff, decide_eq_true_eq]
  omega

/-- The zone settings agree exactly where the other settings make up the difference. -/
theorem DishConfig.sameZones_iff (a b : DishConfig) : a.sameZones b = true ↔
    a = { b with
      washSp := a.washSp, washMin := a.washMin, boosterSp := a.boosterSp, rinseReady := a.rinseReady
      dose := a.dose } := by
  cases a
  cases b
  simp only [DishConfig.sameZones, Bool.and_eq_true, decide_eq_true_eq, DishConfig.mk.injEq, true_and]
  tauto

theorem Dish.loopsInAuto_iff (d : Dish) : d.loopsInAuto = true ↔
    d.state = .warming ∨ d.state = .ready ∨ d.state = .running ∨ d.state = .held ∧ d.reasons.trip = false := by
  unfold Dish.loopsInAuto
  cases d.state <;> simp

/-- A CONFIGURE DISH that is taken: the record with its mark, and the setpoints that changed. -/
def Part.configuredDish (g : DishConfig) (p : Part) : Part :=
  ((p.setDish { p.dish with cfg := g }).mark .dish 0).trimDishLoops p.dish.cfg g

theorem configureDish_taken (p : Part) {f : DishFields} (inRange : (writtenDish f).InRange)
    (held : (writtenDish f).sameZones p.dish.cfg = true ∨ p.dish.state = .off) :
    configureDish f p = (p.configuredDish (writtenDish f), { status := .ok }) := by
  unfold configureDish
  rw [dishConfigOf_eq_some inRange]
  dsimp only
  rw [if_neg]
  · rfl
  · rcases held with same | off
    · simp [same]
    · simp [off]

theorem configureDish_zones (p : Part) {f : DishFields} (inRange : (writtenDish f).InRange)
    (moved : (writtenDish f).sameZones p.dish.cfg ≠ true) (on : p.dish.state ≠ .off) :
    configureDish f p = (p, { status := .state }) := by
  unfold configureDish
  rw [dishConfigOf_eq_some inRange]
  dsimp only
  rw [if_pos (by simp [moved, on])]

theorem configureDish_outOfRange (p : Part) {f : DishFields} (out : ¬ (writtenDish f).InRange) :
    configureDish f p = (p, { status := .range }) := by
  unfold configureDish
  rw [dishConfigOf_eq_none out]

section Trim

variable (p : Part) (before after : DishConfig)

theorem Part.trimDishLoops_works : Works { loops := true } [] p (p.trimDishLoops before after) := by
  have wash : Works { loops := true } [] p
      (if after.washSp = before.washSp then p else p.requestSetpoint 14 after.washSp) := by
    split
    · exact Works.refl _ _ _
    · exact Part.requestSetpoint_works _ _ _ _
  unfold Part.trimDishLoops
  dsimp only
  split
  · split
    · exact wash
    · exact wash.trans (Part.requestSetpoint_works _ _ _ _)
  · exact Works.refl _ _ _

/-- The loops after a changed configuration: each that is in AUTO is asked for a changed setpoint. -/
theorem Part.trimDishLoops_loops (m : Fin 16) : (p.trimDishLoops before after).loops.get m =
    if p.dish.loopsInAuto = true ∧ m = 14 ∧ after.washSp ≠ before.washSp then (p.loops.get 14).asked after.washSp
    else if p.dish.loopsInAuto = true ∧ m = 15 ∧ after.boosterSp ≠ before.boosterSp then
      (p.loops.get 15).asked after.boosterSp
    else p.loops.get m := by
  unfold Part.trimDishLoops
  dsimp only
  by_cases auto : p.dish.loopsInAuto = true
  · rw [if_pos auto]
    by_cases wash : after.washSp = before.washSp <;> by_cases booster : after.boosterSp = before.boosterSp
    · simp [wash, booster]
    · simp only [wash, booster, auto, if_true, if_false, Part.requestSetpoint_loops, Table.get_set]
      grind
    · simp only [wash, booster, auto, if_true, if_false, Part.requestSetpoint_loops, Table.get_set]
      grind
    · simp only [wash, booster, auto, if_false, Part.requestSetpoint_loops, Table.get_set]
      grind
  · rw [if_neg auto]
    simp [auto]

end Trim

section Configured

variable (p : Part) (g : DishConfig)

theorem Part.configuredDish_works : Works { dish := true, loops := true } [] p (p.configuredDish g) :=
  ((Part.setDish_works p _ _).widen.trans (Works.mark _ _ _ _ rfl)).trans (Part.trimDishLoops_works _ _ _).widen

theorem Part.configuredDish_dish : (p.configuredDish g).dish = { p.dish with cfg := g } :=
  ((Part.trimDishLoops_works _ _ _).moves.touches.dish rfl).trans (Part.setDish_dish _ _)

/-- The trim reads the state and the reasons of the tunnel, which a configuration leaves. -/
theorem Part.configuredDish_loops (m : Fin 16) : (p.configuredDish g).loops.get m =
    if p.dish.loopsInAuto = true ∧ m = 14 ∧ g.washSp ≠ p.dish.cfg.washSp then (p.loops.get 14).asked g.washSp
    else if p.dish.loopsInAuto = true ∧ m = 15 ∧ g.boosterSp ≠ p.dish.cfg.boosterSp then
      (p.loops.get 15).asked g.boosterSp
    else p.loops.get m := by
  have sameState : ({ p.dish with cfg := g } : Dish).loopsInAuto = p.dish.loopsInAuto := rfl
  rw [Part.configuredDish, Part.trimDishLoops_loops]
  simp [sameState]

theorem Part.configuredDish_marked : Mark.mk .dish 0 ∈ (p.configuredDish g).desk.link.changeSet :=
  (Part.trimDishLoops_works _ _ _).changeSet_subset (Link.mem_mark_changeSet _ _ _)

end Configured

/-! ## DISH ON (R105) -/

/-- A DISH ON that is taken. -/
def Part.dishStarted (p : Part) : Part := ((p.setDish { p.dish with state := .warming }).dishLoopsAuto).judgeGate

theorem dishOn_taken {p : Part} (clear : p.interlock.trip = false) (off : p.dish.state = .off) :
    dishOn p = (p.dishStarted, { status := .ok }) := by
  simp only [dishOn, clear, off]
  rfl

theorem dishOn_on {p : Part} (clear : p.interlock.trip = false) (on : p.dish.state ≠ .off) :
    dishOn p = (p, { status := .state }) := by
  unfold dishOn
  rw [if_neg (by simp [clear])]
  split
  · next off => exact absurd off on
  all_goals rfl

theorem dishOn_tripped {p : Part} (trip : p.interlock.trip = true) : dishOn p = (p, { status := .tripped }) :=
  if_pos trip

section Started

variable (p : Part)

theorem Part.dishStarted_works :
    Works { dish := true, loops := true, conds := true, pager := true } dishLoopSlots p p.dishStarted :=
  ((Part.setDish_works p _ _).widen.trans (Part.dishLoopsAuto_works _).widen).trans (Part.judgeGate_works _ _).widen

theorem Part.judgeGate_loops : p.judgeGate.loops = p.loops := Part.setDish_loops p _

theorem Part.dishStarted_dish : p.dishStarted.dish = { p.dish with state := .warming, gateOpen := false } := by
  have kept : ((p.setDish { p.dish with state := .warming }).dishLoopsAuto).dish = { p.dish with state := .warming } :=
    ((Part.dishLoopsAuto_works _).moves.touches.dish rfl).trans (Part.setDish_dish _ _)
  rw [Part.dishStarted, Part.judgeGate, Part.setDish_dish, kept]
  simp [Part.gateTerms, kept]

theorem Part.dishStarted_others {m : Fin 16} (notWash : m ≠ 14) (notBooster : m ≠ 15) :
    p.dishStarted.loops.get m = p.loops.get m := by
  rw [Part.dishStarted, Part.judgeGate_loops, Part.dishLoopsAuto_others _ notWash notBooster, Part.setDish_loops]

theorem Part.judgeGate_loop (m : Fin 16) : p.judgeGate.loops.get m = p.loops.get m := by rw [Part.judgeGate_loops]

theorem Part.dishStarted_wash : LoopCarried 14 ((p.loops.get 14).asked p.dish.cfg.washSp)
    (((p.loops.get 14).asked p.dish.cfg.washSp).autoAsked (p.reading (loopChannel 14))) p p.dishStarted := by
  have dish := Part.setDish_works p [] { p.dish with state := .warming }
  have started := (p.setDish { p.dish with state := .warming }).dishLoopsAuto_wash
  rw [Part.setDish_loops, Part.setDish_dish, dish.reading] at started
  exact (started.of_work dish (by simp)).then_work (Part.judgeGate_works _ []) (Part.judgeGate_loop _ _) (by simp)

theorem Part.dishStarted_booster : LoopCarried 15 ((p.loops.get 15).asked p.dish.cfg.boosterSp)
    (((p.loops.get 15).asked p.dish.cfg.boosterSp).autoAsked (p.reading (loopChannel 15))) p p.dishStarted := by
  have dish := Part.setDish_works p [] { p.dish with state := .warming }
  have started := (p.setDish { p.dish with state := .warming }).dishLoopsAuto_booster
  rw [Part.setDish_loops, Part.setDish_dish, dish.reading] at started
  exact (started.of_work dish (by simp)).then_work (Part.judgeGate_works _ []) (Part.judgeGate_loop _ _) (by simp)

end Started

/-- What the statements say of a loop that an owner asked for a setpoint and for AUTO. -/
theorem LoopCarried.asked_auto {n : Fin 16} {sp : Int} {p q : Part} {reading : Option Int}
    (h : LoopCarried n ((p.loops.get n).asked sp) (((p.loops.get n).asked sp).autoAsked reading) p q) :
    (q.loops.get n).sp = clamp 0 (p.loops.get n).cfg.maxSetpoint sp ∧
      (q.loops.get n).base = (if (p.loops.get n).base = .off then .auto else (p.loops.get n).base) ∧
      (q.loops.get n).cfg = (p.loops.get n).cfg := by
  rw [h.loop, Loop.autoAsked_sp, Loop.autoAsked_base, Loop.autoAsked_cfg]
  exact ⟨rfl, rfl, rfl⟩

/-- Settles O34: the loops after a changed configuration, and the two loops after AUTO. -/
theorem configureDishAndDishOnAreTaken : Obligations.ConfigureDishAndDishOnAreTaken := by
  refine ⟨?configure, ?on⟩
  case configure =>
    intro s tag f d g inRange zonesHeld auto asked
    have zones : (writtenDish f).sameZones d.cfg = true ↔ zonesHeld := DishConfig.sameZones_iff _ _
    refine ⟨fun out => ?_, fun within moved on => ?_, fun within held => ?_⟩
    · simp only [exec, execConfigureDish, configureDish_outOfRange s.part (f := f) out]
    · simp only [exec, execConfigureDish,
        configureDish_zones s.part (f := f) within (fun same => moved (zones.mp same)) on]
    · have taken : configureDish f s.part = (s.part.configuredDish g, { status := .ok }) :=
        configureDish_taken s.part within (held.imp_left zones.mpr)
      have works := s.part.configuredDish_works g
      have dish := s.part.configuredDish_dish g
      have loops := s.part.configuredDish_loops g
      have marked := s.part.configuredDish_marked g
      have inAuto : s.part.dish.loopsInAuto = true ↔ auto := Dish.loopsInAuto_iff _
      refine ⟨_, rfl, ?_⟩
      rw [taken]
      generalize s.part.configuredDish g = q at *
      refine ⟨works.answered_part 0x60 tag { status := .ok }, dish, ?_, fun m notWash notBooster => ?_,
        fun isAuto changed => ?_, fun isAuto changed => ?_, fun unasked => ?_, fun unasked => ?_⟩
      · rw [State.answer_changeSet]
        exact marked
      · rw [State.answer_loop, loops, if_neg (fun is => notWash is.2.1), if_neg (fun is => notBooster is.2.1)]
      · rw [State.answer_loop, loops, if_pos ⟨inAuto.mpr isAuto, rfl, changed⟩]
        rfl
      · rw [State.answer_loop, loops, if_neg (by simp), if_pos ⟨inAuto.mpr isAuto, rfl, changed⟩]
        rfl
      · rw [State.answer_loop, loops, if_neg, if_neg (by simp)]
        rintro ⟨isAuto, -, changed⟩
        exact unasked.elim (fun notAuto => notAuto (inAuto.mp isAuto)) changed
      · rw [State.answer_loop, loops, if_neg (by simp), if_neg]
        rintro ⟨isAuto, -, changed⟩
        exact unasked.elim (fun notAuto => notAuto (inAuto.mp isAuto)) changed
  case on =>
    intro s tag
    refine ⟨fun trip => ?_, fun clear on => ?_, fun clear off => ?_⟩
    · simp only [exec, execDishOn, dishOn_tripped trip]
    · simp only [exec, execDishOn, dishOn_on clear on]
    · refine ⟨_, rfl, ?_⟩
      rw [dishOn_taken clear off]
      have works := s.part.dishStarted_works
      have dish := s.part.dishStarted_dish
      have others {m : Fin 16} := s.part.dishStarted_others (m := m)
      have wash := s.part.dishStarted_wash
      have booster := s.part.dishStarted_booster
      generalize s.part.dishStarted = q at *
      obtain ⟨washSp, washBase, -⟩ := wash.asked_auto
      obtain ⟨boosterSp, boosterBase, -⟩ := booster.asked_auto
      refine ⟨works.answered_part 0x61 tag { status := .ok }, works.kept_part 0x61 tag { status := .ok }, dish,
        fun m => others, washSp, boosterSp, ?_, (wash.answer 0x61 tag _).autoStarted,
        (booster.answer 0x61 tag _).autoStarted⟩
      rintro m (rfl | rfl)
      · exact washBase
      · exact boosterBase

end Sys2Proof.Machine
end

section
/-!
Chapter 10: the stability timers and what a change of a filtered line does in its block (R177, R46, R47, R76, R108,
R179, R180).
-/

namespace Sys2Proof.Machine

/-! ## What a change that is handed on leaves alone -/

/-- The lines, the travel and the records that no line writes. -/
structure LinesKept (p q : Part) : Prop where
  lines : q.interlock.lines = p.interlock.lines
  travel : q.interlock.travel = p.interlock.travel
  uptime : q.uptime = p.uptime
  programs : q.programs = p.programs
  scan : q.scan = p.scan

theorem LinesKept.refl (p : Part) : LinesKept p p := ⟨rfl, rfl, rfl, rfl, rfl⟩

theorem LinesKept.trans {p q r : Part} (h : LinesKept p q) (k : LinesKept q r) : LinesKept p r :=
  ⟨k.lines.trans h.lines, k.travel.trans h.travel, k.uptime.trans h.uptime, k.programs.trans h.programs,
    k.scan.trans h.scan⟩

theorem Works.linesKept {f : Footprint} {own : List (Fin 87)} {p q : Part} (w : Works f own p q)
    (interlock : f.interlock = false := by rfl) (uptime : f.uptime = false := by rfl)
    (programs : f.programs = false := by rfl) (scan : f.scan = false := by rfl) : LinesKept p q := by
  have t := w.moves.touches
  exact ⟨by rw [t.interlock interlock], by rw [t.interlock interlock], t.uptime uptime, t.programs programs,
    t.scan scan⟩

section Trip

variable (p : Part)

/-- The part in the trip state, ahead of what the blocks make of it (R181). -/
def Part.tripSet (p : Part) : Part := { p with interlock := { p.interlock with trip := true, driveEnable := false } }

theorem Part.enterTrip_eq : p.enterTrip = p.tripSet.cutGrants.tripOvens.tripTunnel := rfl

/-- What the blocks make of the trip. -/
theorem Part.tripBlocks_works : Works { tripFoot with interlock := false } (ovensReach ++ rackReach) p
    p.cutGrants.tripOvens.tripTunnel :=
  ((Part.cutGrants_works p _).widen.trans ((Part.tripOvens_works _).mono rfl (subset_left fun _ h => h))).trans
    ((Part.tripTunnel_works _).mono rfl fun _ h => List.mem_append_right _ h)

theorem Part.enterTrip_linesKept : LinesKept p p.enterTrip :=
  LinesKept.trans (q := p.tripSet) ⟨rfl, rfl, rfl, rfl, rfl⟩ p.tripSet.tripBlocks_works.linesKept

theorem Part.hoodAsserted_linesKept : LinesKept p p.hoodAsserted := by
  have raised := (Part.raise_works p hoodTripSlot 0).linesKept
  unfold Part.hoodAsserted
  dsimp only
  split
  · exact raised
  · exact raised.trans (Part.enterTrip_linesKept _)

theorem Part.handOn_linesKept (line : Line) (on : Bool) : LinesKept p (p.handOn line on) := by
  unfold Part.handOn
  split
  · split
    · exact p.hoodAsserted_linesKept
    · exact .refl p
  · exact (Part.ovenDoor_works p _ _).linesKept
  · exact (Part.dishDoor_works p [] _).linesKept
  · exact (Part.overloadChange_works p _).linesKept
  · exact (Part.reduceChange_works p []).linesKept
  · split
    · exact (Part.rackEntryEdge_works p).linesKept
    · exact .refl p
  · split
    · exact (Part.rackExitEdge_works p).linesKept
    · exact .refl p

end Trip

/-! ## The stability timer (R177) -/

section Timer

variable (p : Part) (line : Line)

theorem Part.filterExpiry_stopped (stopped : (p.line line).timing = false) : p.filterExpiry line = p := by
  simp [Part.filterExpiry, stopped]

theorem Part.filterExpiry_same (runs : (p.line line).timing = true)
    (same : (p.line line).raw = (p.line line).filtered) :
    p.filterExpiry line = p.setLine line { p.line line with timing := false } := by
  simp only [Part.filterExpiry, runs, same, LineState.settled, if_true]

theorem Part.filterExpiry_change (runs : (p.line line).timing = true)
    (differs : (p.line line).raw ≠ (p.line line).filtered) :
    p.filterExpiry line = (p.setLine line (p.line line).settled).handOn line (p.line line).raw := by
  simp only [Part.filterExpiry, runs, if_neg differs, if_true]

/-- A line that settles on a level that differs from its filtered state. -/
theorem Part.filterExpiry_of_line {on : Bool}
    (is : p.interlock.lines.get (lineIndex line) = { raw := on, filtered := !on, timing := true }) :
    p.filterExpiry line =
      (p.setLine line { raw := on, filtered := on, timing := false }).handOn line on := by
  have found : p.line line = { raw := on, filtered := !on, timing := true } := is
  rw [Part.filterExpiry_change p line (by rw [found]) (by rw [found]; cases on <;> simp), found]
  rfl

@[simp] theorem Part.setLine_asserted (l : LineState) : (p.setLine line l).asserted line = l.filtered := by
  simp [Part.asserted]

end Timer

/-! ## Holds (R108, R109) -/

section Holds

variable (p : Part)

theorem Part.stopTunnel_dish (state : DishState) (reasons : HoldReasons) : (p.stopTunnel state reasons).dish =
    { p.dish with state, reasons, conveyor := false, gateOpen := false, coldTimer := 0, valveOpen := false } := by
  simp [Part.stopTunnel]

theorem Part.lineHold_running (join : HoldReasons → HoldReasons) (runs : p.dish.state = .running) :
    (p.lineHold join).dish = { p.dish with
      state := .held, reasons := join {}, conveyor := false, gateOpen := false, coldTimer := 0
      valveOpen := false } := by
  simp only [Part.lineHold, Part.holdTunnel, runs, Part.stopTunnel_dish]

theorem Part.lineHold_held (join : HoldReasons → HoldReasons) (held : p.dish.state = .held) :
    (p.lineHold join).dish = { p.dish with reasons := join p.dish.reasons } := by
  simp only [Part.lineHold, Part.holdTunnel, held, Part.setDish_dish]

theorem Part.lineHold_other (join : HoldReasons → HoldReasons) (stands : p.dish.state ≠ .running)
    (free : p.dish.state ≠ .held) : p.lineHold join = p := by
  unfold Part.lineHold
  split
  · next runs => exact absurd runs stands
  · next held => exact absurd held free
  all_goals rfl

theorem Part.endHold_left (leave : HoldReasons → HoldReasons) (held : p.dish.state = .held)
    (leaves : leave p.dish.reasons ≠ p.dish.reasons) :
    (p.endHold leave).dish.reasons = leave p.dish.reasons ∧
      (p.endHold leave).dish.state = if (leave p.dish.reasons).isEmpty then .ready else .held := by
  simp only [Part.endHold, held, if_neg leaves]
  split <;> simp [Part.judgeGate, Part.judgeValve]

theorem Part.endHold_kept (leave : HoldReasons → HoldReasons)
    (kept : p.dish.state ≠ .held ∨ leave p.dish.reasons = p.dish.reasons) : p.endHold leave = p := by
  unfold Part.endHold
  split
  · next held => exact if_pos (kept.resolve_left (absurd held))
  all_goals rfl

end Holds

/-! ## The clauses of each line -/

theorem Part.ovenDoor_open {p : Part} {n : Fin 6} (runs : (p.ovens.get n).state ≠ .idle) :
    p.ovenDoor n true = (p.setOven n { p.ovens.get n with doorOpen := true }).inhibitLoop (ovenLoop n) := by
  simp only [Part.ovenDoor, if_neg runs, if_true]

theorem Part.ovenDoor_closed {p : Part} {n : Fin 6} (runs : (p.ovens.get n).state ≠ .idle) :
    p.ovenDoor n false = (p.setOven n { p.ovens.get n with doorOpen := false }).releaseLoop (ovenLoop n) := by
  simp [Part.ovenDoor, runs]

/-- OVEN_DOOR (R76, R34). -/
theorem Part.ovenDoor_taken {s : State} {p : Part} {n : Fin 6} {on : Bool} {f : Footprint}
    (line : Works f [] s.part p) (ovens : p.ovens = s.part.ovens) (loops : p.loops = s.part.loops)
    (uptime : f.uptime = false := by rfl) (scan : f.scan = false := by rfl) :
    let l := s.loop (ovenLoop n)
    let t := s.event (p.ovenDoor n on)
    (∀ m, m ≠ n → t.oven m = s.oven m) ∧ t.oven n = { s.oven n with doorOpen := on } ∧
      (∀ m, m ≠ ovenLoop n → t.loop m = s.loop m) ∧ ((s.oven n).state = .idle → t.loop (ovenLoop n) = l) ∧
      ((s.oven n).state ≠ .idle → (t.loop (ovenLoop n)).inhibit = on ∧ (t.loop (ovenLoop n)).base = l.base ∧
        (on = true → l.inhibit = false → t.loop (ovenLoop n) =
          { l with inhibit := true, demand := if l.chFault then l.demand else 0 }) ∧
        (on = true → l.inhibit = true → standsAt (ovenLoop n) l s t) ∧
        (on = false → inhibitReleased (ovenLoop n) l s t)) := by
  intro l t
  have tables := Part.ovenDoor_ovens p n on
  have record := Part.ovenDoor_loops p n on
  rw [ovens] at tables
  rw [ovens, loops, line.reading scan] at record
  have own : t.loop (ovenLoop n) = if (s.oven n).state = .idle then l
      else if on then l.inhibited else l.released (s.part.reading (loopChannel (ovenLoop n))) :=
    (congrArg (·.get (ovenLoop n)) record).trans (Table.get_set_self _ _ _)
  refine ⟨fun m other => (congrArg (·.get m) tables).trans (Table.get_set_ne _ _ other),
    (congrArg (·.get n) tables).trans (Table.get_set_self _ _ _),
    fun m other => (congrArg (·.get m) record).trans (Table.get_set_ne _ _ other),
    fun idle => by rw [own, if_pos idle], fun runs => ?_⟩
  rw [own, if_neg runs]
  cases on with
  | true =>
    have slot : t.slot (overtempSlot (ovenLoop n)) = s.slot (overtempSlot (ovenLoop n)) := by
      rw [State.event_slot, Part.ovenDoor_open (ovens ▸ runs)]
      have oven := Part.setOven_works p [] n { p.ovens.get n with doorOpen := true }
      exact ((Part.inhibitLoop_works _ [] _).slot_kept (by simp)).trans
        ((oven.slot_kept (by simp)).trans (line.slot_kept (by simp)))
    refine ⟨by simp, by simp, fun _ free => ?_, fun _ set => ⟨?_, slot⟩, by simp⟩
    · simp [Loop.inhibited, free]
    · rw [own, if_neg runs]
      simp [Loop.inhibited, set]
  | false =>
    refine ⟨by simp, by simp, by simp, by simp, fun _ => ?_⟩
    have oven := Part.setOven_works p [] n { p.ovens.get n with doorOpen := false }
    have released := (p.setOven n { p.ovens.get n with doorOpen := false }).releaseLoop_carried (ovenLoop n)
    rw [Part.setOven_loops, loops, oven.reading, line.reading scan, ← Part.ovenDoor_closed (ovens ▸ runs)] at released
    exact ((released.of_work oven (by simp)).of_work line (by simp) uptime scan).event.inhibitReleased

/-- FEEDER_REDUCE (R46, R47). -/
theorem Part.reduceChange_feeder (p : Part) : p.reduceChange.feeder = { p.feeder with
    requested := if p.asserted .feederReduce then p.feeder.reduced else p.feeder.limit
    reducedAck := p.asserted .feederReduce && decide (p.feeder.applied = p.feeder.reduced) } := rfl

/-- A line that puts a reason into the tunnel's hold and takes it out again (R108, R109). -/
def Part.lineReason (join leave : HoldReasons → HoldReasons) (on : Bool) (p : Part) : Part :=
  if on then p.lineHold join else p.endHold leave

/-- Such a line by what it finds of the tunnel; `others` tells that reasons stay when its own leaves. -/
theorem Part.lineReason_taken (p : Part) (join leave : HoldReasons → HoldReasons) (on : Bool) {others : Bool}
    (empty : (leave p.dish.reasons).isEmpty = !others) :
    let t := p.lineReason join leave on
    (on = true → p.dish.state = .running → t.dish = { p.dish with
      state := .held, reasons := join {}, conveyor := false, gateOpen := false, valveOpen := false, coldTimer := 0 }) ∧
    (on = true → p.dish.state = .held → t.dish = { p.dish with reasons := join p.dish.reasons }) ∧
    (on = true → p.dish.state ≠ .running → p.dish.state ≠ .held → t.dish = p.dish) ∧
    (on = false → p.dish.state = .held → leave p.dish.reasons ≠ p.dish.reasons →
      t.dish.reasons = leave p.dish.reasons ∧ t.dish.state = if others then .held else .ready) ∧
    (on = false → p.dish.state ≠ .held ∨ leave p.dish.reasons = p.dish.reasons → t.dish = p.dish) := by
  refine ⟨?_, ?_, ?_, ?_, ?_⟩ <;> rintro rfl
  · exact fun runs => Part.lineHold_running p _ runs
  · exact fun held => Part.lineHold_held p _ held
  · exact fun stands free => congrArg Part.dish (Part.lineHold_other p _ stands free)
  · intro held leaves
    obtain ⟨reasons, state⟩ := Part.endHold_left p leave held leaves
    refine ⟨reasons, state.trans ?_⟩
    rw [empty]
    cases others <;> rfl
  · exact fun kept => congrArg Part.dish (Part.endHold_kept p leave kept)

/-- DISH_DOOR (R108, R109). -/
theorem Part.dishDoor_taken (p : Part) (on : Bool) :
    (on = true → p.dish.state = .running → (p.dishDoor on).dish = { p.dish with
      state := .held, reasons := { door := true, overload := false, lost := false, trip := false }
      conveyor := false, gateOpen := false, valveOpen := false, coldTimer := 0 }) ∧
    (on = true → p.dish.state = .held → (p.dishDoor on).dish = { p.dish with
      reasons := { p.dish.reasons with door := true } }) ∧
    (on = true → p.dish.state ≠ .running → p.dish.state ≠ .held → (p.dishDoor on).dish = p.dish) ∧
    (on = false → p.dish.state = .held → p.dish.reasons.door = true →
      (p.dishDoor on).dish.reasons = { p.dish.reasons with door := false } ∧ (p.dishDoor on).dish.state =
        if p.dish.reasons.overload || p.dish.reasons.lost || p.dish.reasons.trip then .held else .ready) ∧
    (on = false → p.dish.state ≠ .held ∨ p.dish.reasons.door = false → (p.dishDoor on).dish = p.dish) := by
  obtain ⟨runs, joins, stands, leaves, stays⟩ := p.lineReason_taken (fun r => { r with door := true })
    (fun r => { r with door := false }) on
    (others := p.dish.reasons.overload || p.dish.reasons.lost || p.dish.reasons.trip) (by simp [HoldReasons.isEmpty])
  refine ⟨runs, joins, stands, fun off held set => leaves off held ?_, fun off kept => stays off (kept.imp_right ?_)⟩
  · exact fun same => by simpa [set] using congrArg HoldReasons.door same
  · intro clear
    rw [← clear]

/-- CONVEYOR_OVERLOAD at the tunnel (R108, R109). -/
theorem Part.dishOverload_taken (p : Part) (on : Bool) :
    (on = true → p.dish.state = .running → (p.dishOverload on).dish = { p.dish with
      state := .held, reasons := { door := false, overload := true, lost := false, trip := false }
      conveyor := false, gateOpen := false, valveOpen := false, coldTimer := 0 }) ∧
    (on = true → p.dish.state = .held → (p.dishOverload on).dish = { p.dish with
      reasons := { p.dish.reasons with overload := true } }) ∧
    (on = true → p.dish.state ≠ .running → p.dish.state ≠ .held → (p.dishOverload on).dish = p.dish) ∧
    (on = false → p.dish.state = .held → p.dish.reasons.overload = true →
      (p.dishOverload on).dish.reasons = { p.dish.reasons with overload := false } ∧ (p.dishOverload on).dish.state =
        if p.dish.reasons.door || p.dish.reasons.lost || p.dish.reasons.trip then .held else .ready) ∧
    (on = false → p.dish.state ≠ .held ∨ p.dish.reasons.overload = false → (p.dishOverload on).dish = p.dish) := by
  obtain ⟨runs, joins, stands, leaves, stays⟩ := p.lineReason_taken (fun r => { r with overload := true })
    (fun r => { r with overload := false }) on
    (others := p.dish.reasons.door || p.dish.reasons.lost || p.dish.reasons.trip) (by simp [HoldReasons.isEmpty])
  refine ⟨runs, joins, stands, fun off held set => leaves off held ?_, fun off kept => stays off (kept.imp_right ?_)⟩
  · exact fun same => by simpa [set] using congrArg HoldReasons.overload same
  · intro clear
    rw [← clear]

/-- The condition of a line, ahead of the tunnel (R179). -/
def Part.overloadShown (on : Bool) (p : Part) : Part := if on then p.raise overloadSlot 0 else p.ret overloadSlot

theorem Part.overloadShown_works (p : Part) (on : Bool) : Works deskFoot [overloadSlot] p (p.overloadShown on) := by
  unfold Part.overloadShown
  split
  · exact Part.raise_works p _ _
  · exact Part.ret_works p _

theorem Part.overloadShown_slot (p : Part) (on : Bool) : (p.overloadShown on).desk.conds.get overloadSlot =
    if on then (p.desk.conds.get overloadSlot).raise p.uptime 0 else (p.desk.conds.get overloadSlot).ret := by
  unfold Part.overloadShown
  cases on
  · simp [Part.ret]
  · simp [Part.raise, Desk.raise_slot _ _ _ _ (show overloadSlot ≠ unansweredSlot by decide),
      show isEventKind overloadSlot = false by decide]

theorem exec_rawLineChange (s : State) (line : Line) (level : Bool) : exec (.rawLineChange line level) s =
    .next (s.event (s.part.setLine line ((s.part.line line).atLevel level))) := rfl

theorem exec_filterTimerExpiry (s : State) (line : Line) :
    exec (.filterTimerExpiry line) s = .next (s.event (s.part.filterExpiry line)) := rfl

/-- Settles O54: the timer by its three cases, and each line by the clause of its block. -/
theorem linesAreFilteredAndHandedOn : Obligations.LinesAreFilteredAndHandedOn := by
  refine ⟨?timer, ?change⟩
  case timer =>
    intro s line i l withLine
    refine ⟨fun level differs => ?_, ?_, fun stopped => ?_, fun runs same => ?_, fun runs differs => ?_⟩
    · have level_taken : (s.part.line line).atLevel level =
          { raw := level, filtered := l.filtered, timing := decide (level ≠ l.filtered) } := if_neg differs
      rw [exec_rawLineChange, level_taken]
      rfl
    · have level_kept : (s.part.line line).atLevel l.raw = l := if_pos rfl
      rw [exec_rawLineChange, level_kept]
      rfl
    · rw [exec_filterTimerExpiry, s.part.filterExpiry_stopped line stopped]
    · rw [exec_filterTimerExpiry, s.part.filterExpiry_same line runs same]
      rfl
    · have kept := (s.part.setLine line (s.part.line line).settled).handOn_linesKept line (s.part.line line).raw
      rw [exec_filterTimerExpiry, s.part.filterExpiry_change line runs differs]
      refine ⟨_, rfl, rfl, ?_, fun j other => ?_, kept.travel, kept.uptime, kept.programs, kept.scan⟩
      · exact (congrArg (·.get i) kept.lines).trans (Table.get_set_self _ _ _)
      · exact (congrArg (·.get j) kept.lines).trans (Table.get_set_ne _ _ other)
  case change =>
    intro s line on is
    rw [exec_filterTimerExpiry, s.part.filterExpiry_of_line line is]
    have works := Part.setLine_works s.part [] line { raw := on, filtered := on, timing := false }
    have asserted := s.part.setLine_asserted line { raw := on, filtered := on, timing := false }
    have feeder := s.part.setLine_feeder line { raw := on, filtered := on, timing := false }
    have kept := works.moves.touches
    generalize s.part.setLine line { raw := on, filtered := on, timing := false } = p at *
    have lines := (p.handOn_linesKept line on).lines
    refine ⟨_, rfl, ?_, ?_⟩
    · refine Eq.trans ?_ asserted
      exact congrArg (fun lines : Table LineState 12 => (lines.get (lineIndex line)).filtered) lines
    intro lineFoot
    refine ⟨?_, ?_, ?_, ?_, ?_⟩
    · rintro n rfl l
      have door : Works { interlock := true, ovens := true, loops := true, conds := true, pager := true }
          [overtempSlot (ovenLoop n)] s.part (p.ovenDoor n on) :=
        (works.mono rfl (by simp)).trans ((Part.ovenDoor_works p n on).mono rfl (by simp))
      exact ⟨door.happened, door.event_kept, Part.ovenDoor_taken works (kept.ovens rfl) (kept.loops rfl)⟩
    · rintro rfl
      have reduce : Works { interlock := true, feeder := true } [] s.part p.reduceChange :=
        works.widen.trans (Part.reduceChange_works p []).widen
      refine ⟨reduce.happened, (Part.reduceChange_feeder p).trans ?_⟩
      rw [asserted, feeder]
    · rintro rfl
      have door : Works { interlock := true, dish := true, feeder := true } [] s.part (p.dishDoor on) :=
        works.widen.trans (Part.dishDoor_works p [] on).widen
      refine ⟨door.happened, ?_⟩
      have taken := p.dishDoor_taken on
      rw [kept.dish rfl] at taken
      exact taken
    · rintro rfl
      have shown := p.overloadShown_works on
      have overload : Works { interlock := true, dish := true, feeder := true, conds := true, pager := true }
          [overloadSlot] s.part (p.overloadChange on) :=
        (works.mono rfl (by simp)).trans ((Part.overloadChange_works p on).mono rfl (by simp))
      refine ⟨overload.happened, overload.event_kept, ?_, ?_⟩
      · refine ((Part.dishOverload_works (p.overloadShown on) [] on).desk.slots overloadSlot (by simp)
          (by decide)).trans ((p.overloadShown_slot on).trans ?_)
        rw [kept.uptime rfl, kept.conds rfl]
      · have taken := (p.overloadShown on).dishOverload_taken on
        rw [shown.moves.touches.dish rfl, kept.dish rfl] at taken
        exact taken
    · intro edge off
      have same : p.handOn line on = p := by
        subst off
        rcases edge with rfl | rfl | rfl <;> rfl
      rw [same]
      exact works.happened

end Sys2Proof.Machine
end

section
/-!
Chapter 7: what the judgement of a wave past PLANNED comes to (R130, R133 to R135), and what the notices of the other
units make of the wave table, its slots and the pages (R141).
-/

namespace Sys2Proof.Machine

/-! ## The desk while the port is busy -/

section Desk

variable (d : Desk) (now : Word)

theorem Desk.trigger_slot (source : Source) (param : Half) {i : Fin 87} (answered : i ≠ unansweredSlot) :
    (d.trigger now source param).conds.get i = d.conds.get i :=
  (Desk.trigger_only d now [] source param).rest.slots i (by simp) answered

theorem Desk.trigger_busy (busy : d.pager.port ≠ .idle) (source : Source) (param : Half) :
    d.trigger now source param = d.triggerCore now source param := by
  have stays : (d.triggerCore now source param).pager.port ≠ .idle := by rwa [Desk.triggerCore_port]
  rw [Desk.trigger, Desk.arbiter, arbitrate_of_busy _ _ _ stays]

/-- A trigger while the port is busy (R160). -/
theorem Desk.trigger_triggered (busy : d.pager.port ≠ .idle) {source : Source} {kind : Fin 16}
    (routed : routeOf source = some kind) (param : Half) :
    triggered now source kind param d.pager (d.trigger now source param).pager := by
  rw [d.trigger_busy now busy]
  exact d.triggerCore_triggered now source param routed

/-- A trigger on a disabled route sends nothing. -/
theorem Desk.trigger_quiet (busy : d.pager.port ≠ .idle) {source : Source} {kind : Fin 16}
    (routed : routeOf source = some kind) (off : (d.pager.routes.get kind).enabled = false) (param : Half) :
    (d.trigger now source param).pager = d.pager :=
  (d.trigger_triggered now busy routed param).1 off

/-- A raise on a disabled route sends nothing (R148). -/
theorem Desk.raise_quiet (busy : d.pager.port ≠ .idle) {slot : Fin 87}
    (off : (d.pager.routes.get (slotKind slot)).enabled = false) (param : Half) :
    (d.raise now slot param).pager = d.pager := by
  have core : (d.raiseCore now slot param).pager = d.pager := by
    unfold Desk.raiseCore
    dsimp only
    split
    · rw [Desk.triggerCore_of_disabled _ now (.slot slot) param rfl (by rwa [Desk.setSlot_pager])]
      exact Desk.setSlot_pager _ _ _
    · exact Desk.setSlot_pager _ _ _
  rw [Desk.raise, Desk.arbiter, arbitrate_of_busy _ _ _ (by rwa [core]), core]

end Desk

theorem platesShortSlot_ne_unanswered (w : Fin 12) : platesShortSlot w ≠ unansweredSlot := by
  revert w
  decide

theorem waveLateSlot_ne_unanswered (w : Fin 12) : waveLateSlot w ≠ unansweredSlot := by
  revert w
  decide

theorem platesShortSlot_isCondition (w : Fin 12) : isEventKind (platesShortSlot w) = false := by
  revert w
  decide

theorem waveLateSlot_isCondition (w : Fin 12) : isEventKind (waveLateSlot w) = false := by
  revert w
  decide

theorem waveSlots_apart (w x : Fin 12) : platesShortSlot w ≠ waveLateSlot x := by
  revert w x
  decide

theorem slotKind_platesShort (w : Fin 12) : slotKind (platesShortSlot w) = 7 := by
  revert w
  decide

theorem slotKind_waveLate (w : Fin 12) : slotKind (waveLateSlot w) = 8 := by
  revert w
  decide

/-! ## A part as a state -/

/-- A state of a part, with no command waiting. -/
def ofPart (p : Part) : State := { part := p, pending := [] }

theorem ready_eq (p : Part) (v : Wave) : p.isReady v = waveReadyNow (ofPart p) v.covers v := by
  unfold Part.isReady waveReadyNow Part.waveReady ofPart
  simp only [oven_isDone]

/-- A wave as the plate check leaves it (R133). -/
def Wave.checked (p : Part) (v : Wave) : Wave := { v with short := decide (p.potential v < v.need) }

/-- A wave as its entry into READY leaves it (R134). -/
def Wave.readied (v : Wave) : Wave :=
  { v with state := .ready, readyLate := v.readyLate || decide (v.state = .late), late := false }

/-- A wave as its entry into LATE leaves it (R135). -/
def Wave.overdue (v : Wave) : Wave := { v with state := .late, late := true }

theorem Part.isReady_congr {p q : Part} (ovens : q.ovens = p.ovens) (cabinets : q.cabinets = p.cabinets) (v : Wave) :
    q.isReady v = p.isReady v := by
  unfold Part.isReady Part.waveReady
  rw [ovens, cabinets]

theorem Part.potential_congr {p q : Part} (cabinets : q.cabinets = p.cabinets) (stock : q.stock = p.stock) (v : Wave) :
    q.potential v = p.potential v := by
  unfold Part.potential
  rw [cabinets, stock]

/-- A wave becomes READY. -/
def Wave.becomes (v u : Wave) : Prop := u.state = .ready ∧ v.state ≠ .ready

theorem Part.enterReady_wave (p : Part) (w : Fin 12) (v : Wave) :
    (p.enterReady w v).waves = p.waves.set w (some v.readied) := by
  unfold Part.enterReady Wave.readied
  dsimp only
  split <;> simp

theorem Part.enterLate_wave (p : Part) (w : Fin 12) (v : Wave) :
    (p.enterLate w v).waves = p.waves.set w (some v.overdue) := by
  simp [Part.enterLate, Wave.overdue]

section Judgement

variable (p : Part) (w : Fin 12) {v : Wave} (held : p.waves.get w = some v)
include held

/-! ## The plate check (R133) -/

theorem Part.plateCheck_eq : p.plateCheck w =
    if v.short then
      if v.need ≤ p.potential v then (p.setWave w (some { v with short := false })).ret (platesShortSlot w) else p
    else if p.potential v < v.need then
      (p.setWave w (some { v with short := true })).raise (platesShortSlot w)
        (BitVec.ofNat 16 (v.need - p.potential v))
    else p := by
  simp only [Part.plateCheck, Part.onWave, held]

theorem Part.plateCheck_wave : (p.plateCheck w).waves.get w = some (v.checked p) := by
  have same (flag : Bool) (h : v.short = flag) : v = { v with short := flag } := by rw [← h]
  rw [p.plateCheck_eq w held, Wave.checked]
  cases short : v.short <;> by_cases lacks : p.potential v < v.need
  · simp [lacks]
  · simpa [lacks, held] using same false short
  · simpa [lacks, Nat.not_le.mpr lacks, held] using same true short
  · simp [lacks, Nat.not_lt.mp lacks]

theorem Part.plateCheck_short : (p.plateCheck w).desk.conds.get (platesShortSlot w) =
    shortSlotAfter (ofPart p) w v.short (v.checked p).short (v.covers - v.issued - p.potential v) := by
  rw [p.plateCheck_eq w held, Wave.checked, shortSlotAfter]
  cases short : v.short <;> by_cases lacks : p.potential v < v.need
  · simp [lacks, Desk.raise_slot _ _ _ _ (platesShortSlot_ne_unanswered w), platesShortSlot_isCondition, ofPart]
    rfl
  · simp [lacks, ofPart]
  · simp [lacks, Nat.not_le.mpr lacks, ofPart]
  · simp [lacks, Nat.not_lt.mp lacks, ofPart]

/-- A wave whose short flag is right stays as it is. -/
theorem Part.plateCheck_settled (settled : v.short = decide (p.potential v < v.need)) : p.plateCheck w = p := by
  rw [p.plateCheck_eq w held, settled]
  by_cases lacks : p.potential v < v.need
  · simp [lacks, Nat.not_le.mpr lacks]
  · simp [lacks]

theorem Part.plateCheck_pager (busy : p.desk.pager.port ≠ .idle) (off : (p.desk.pager.routes.get 7).enabled = false) :
    (p.plateCheck w).desk.pager = p.desk.pager := by
  rw [p.plateCheck_eq w held]
  split
  · split
    · simp
    · rfl
  · split
    · have quiet := (p.setWave w (some { v with short := true })).desk.raise_quiet p.uptime (slot := platesShortSlot w)
        (by rwa [Part.setWave_pager]) (by rwa [Part.setWave_pager, slotKind_platesShort])
        (BitVec.ofNat 16 (v.need - p.potential v))
      rw [Part.setWave_pager] at quiet
      simpa using quiet
    · rfl

omit held in
theorem Part.plateCheck_late :
    (p.plateCheck w).desk.conds.get (waveLateSlot w) = p.desk.conds.get (waveLateSlot w) := by
  unfold Part.plateCheck Part.onWave
  have apart := (waveSlots_apart w w).symm
  split
  · dsimp only
    split
    · split
      · simp [Table.get_set_ne _ _ apart]
      · rfl
    · split
      · simp [Desk.raise_slot_ne _ _ _ _ _ apart (waveLateSlot_ne_unanswered w)]
      · rfl
  · rfl

omit held in
theorem Part.plateCheck_reads : (p.plateCheck w).ovens = p.ovens ∧ (p.plateCheck w).cabinets = p.cabinets ∧
    (p.plateCheck w).stock = p.stock ∧ (p.plateCheck w).uptime = p.uptime :=
  have kept := (Part.plateCheck_works p w).moves.touches
  ⟨kept.ovens rfl, kept.cabinets rfl, kept.stock rfl, kept.uptime rfl⟩

/-! ## The four steps of a judgement (R130) -/

theorem Part.onWave_held (act : Wave → Part → Part) : p.onWave w act = act v p := by simp only [Part.onWave, held]

theorem Part.judgeDue_not (not : ¬ (v.state = .preparing ∧ v.due = 0)) : p.judgeDue w = p := by
  rw [Part.judgeDue, p.onWave_held w held]
  exact if_neg (by simpa using not)

theorem Part.judgeStanding_settled (settled : v.short = decide (p.potential v < v.need)) : p.judgeStanding w = p := by
  rw [Part.judgeStanding, p.onWave_held w held]
  split
  · exact p.plateCheck_settled w held settled
  · exact p.plateCheck_settled w held settled
  all_goals rfl

/-- The judgement of a wave in READY or SERVING is its plate check. -/
theorem Part.judgeWave_standing (standing : v.state = .ready ∨ v.state = .serving) :
    p.judgeWave w = p.plateCheck w := by
  have past : ∀ u, p.waves.get w = some u → u.state ≠ .planned := by
    intro u isu
    rw [held, Option.some.injEq] at isu
    rw [← isu]
    rcases standing with h | h <;> simp [h]
  have still : p.judgePreparing w = p := by
    rw [Part.judgePreparing, p.onWave_held w held]
    rcases standing with h | h <;> simp only [h]
  have notDue : p.judgeDue w = p :=
    p.judgeDue_not w held fun h => by rcases standing with k | k <;> simp [h.1] at k
  rw [Part.judgeWave, Part.judgePlanned_past p w past, still, notDue, Part.judgeStanding, p.onWave_held w held]
  rcases standing with h | h <;> simp only [h]

/-- A wave in PREPARING or LATE has its plate check, and then its readiness and its countdown judged. -/
theorem Part.judgeWave_awaiting (awaiting : v.state = .preparing ∨ v.state = .late) :
    p.judgeWave w =
      if p.isReady v then (p.plateCheck w).enterReady w (v.checked p)
      else if v.state = .preparing ∧ v.due = 0 then (p.plateCheck w).enterLate w (v.checked p)
      else p.plateCheck w := by
  have past : ∀ u, p.waves.get w = some u → u.state ≠ .planned := by
    intro u isu
    rw [held, Option.some.injEq] at isu
    rw [← isu]
    rcases awaiting with h | h <;> simp [h]
  have prepared : p.judgePreparing w = (p.plateCheck w).judgeReadiness w := by
    rw [Part.judgePreparing, p.onWave_held w held]
    rcases awaiting with h | h <;> simp only [h]
  have checked := p.plateCheck_wave w held
  obtain ⟨ovens, cabinets, stock, -⟩ := p.plateCheck_reads w
  have ready : (p.plateCheck w).isReady (v.checked p) = p.isReady v := Part.isReady_congr ovens cabinets v
  have settled (q : Part) (inCabinets : q.cabinets = (p.plateCheck w).cabinets)
      (inStock : q.stock = (p.plateCheck w).stock) :
      (v.checked p).short = decide (q.potential v < v.need) := by
    rw [Part.potential_congr (inCabinets.trans cabinets) (inStock.trans stock)]
    rfl
  rw [Part.judgeWave, Part.judgePlanned_past p w past, prepared, Part.judgeReadiness,
    (p.plateCheck w).onWave_held w checked, ready]
  split
  · have kept := (Part.enterReady_works (p.plateCheck w) w (v.checked p)).moves.touches
    have entered := (p.plateCheck w).enterReady_wave w (v.checked p)
    have entered : ((p.plateCheck w).enterReady w (v.checked p)).waves.get w = some (v.checked p).readied := by
      rw [entered, Table.get_set_self]
    rw [Part.judgeDue_not _ w entered (by simp [Wave.readied]),
      Part.judgeStanding_settled _ w entered (settled _ (kept.cabinets rfl) (kept.stock rfl))]
  · by_cases due : v.state = .preparing ∧ v.due = 0
    · have kept := (Part.enterLate_works (p.plateCheck w) w (v.checked p)).moves.touches
      have entered : ((p.plateCheck w).enterLate w (v.checked p)).waves.get w = some (v.checked p).overdue := by
        rw [Part.enterLate_wave, Table.get_set_self]
      have entering : (decide ((v.checked p).state = .preparing) && decide ((v.checked p).due = 0)) = true := by
        rw [Bool.and_eq_true, decide_eq_true_eq, decide_eq_true_eq]
        exact due
      rw [if_pos due, Part.judgeDue, (p.plateCheck w).onWave_held w checked, if_pos entering,
        Part.judgeStanding_settled _ w entered (settled _ (kept.cabinets rfl) (kept.stock rfl))]
    · rw [if_neg due, Part.judgeDue_not _ w checked due,
        Part.judgeStanding_settled _ w checked (settled _ rfl rfl)]

/-! ## What a judgement comes to -/

/-- Work that takes the wave `v` of a slot to `u`, its two slots and the pages with it. -/
structure JudgedInto (w : Fin 12) (v u : Wave) (p q : Part) : Prop where
  wave : q.waves.get w = some u
  short : q.desk.conds.get (platesShortSlot w) =
    shortSlotAfter (ofPart p) w v.short u.short (v.covers - v.issued - p.potential v)
  late : q.desk.conds.get (waveLateSlot w) =
    if u.state = .late ∧ v.state ≠ .late then (p.desk.conds.get (waveLateSlot w)).raise p.uptime v.param
    else if u.state = .ready ∧ v.state ≠ .ready ∧ v.late = true then (p.desk.conds.get (waveLateSlot w)).ret
    else p.desk.conds.get (waveLateSlot w)
  busy : p.desk.pager.port ≠ .idle → (p.desk.pager.routes.get 7).enabled = false →
    (p.desk.pager.routes.get 8).enabled = false → q.desk.pager.port ≠ .idle
  quiet : p.desk.pager.port ≠ .idle → (p.desk.pager.routes.get 7).enabled = false →
    (p.desk.pager.routes.get 8).enabled = false → ¬ v.becomes u → q.desk.pager = p.desk.pager
  paged : p.desk.pager.port ≠ .idle → (p.desk.pager.routes.get 7).enabled = false →
    (p.desk.pager.routes.get 8).enabled = false → v.becomes u →
    triggered p.uptime (.wave w) 14 u.param p.desk.pager q.desk.pager

theorem Part.plateCheck_into : JudgedInto w v (v.checked p) p (p.plateCheck w) where
  wave := p.plateCheck_wave w held
  short := p.plateCheck_short w held
  late := by
    rw [p.plateCheck_late w, if_neg (fun h => h.2 h.1), if_neg (fun h => h.2.1 h.1)]
  busy busy off _ := by rwa [p.plateCheck_pager w held busy off]
  quiet busy off _ _ := p.plateCheck_pager w held busy off
  paged _ _ _ turned := absurd turned.1 turned.2

theorem Part.enterReady_into (awaiting : v.state = .preparing ∨ v.state = .late) :
    JudgedInto w v (v.checked p).readied p ((p.plateCheck w).enterReady w (v.checked p)) := by
  have notReady : v.state ≠ .ready := by rcases awaiting with h | h <;> simp [h]
  have short := p.plateCheck_short w held
  have late := p.plateCheck_late w
  have pager := p.plateCheck_pager w held
  obtain ⟨-, -, -, uptime⟩ := p.plateCheck_reads w
  have wave := (p.plateCheck w).enterReady_wave w (v.checked p)
  have entered (i : Fin 87) (answered : i ≠ unansweredSlot) :
      ((p.plateCheck w).enterReady w (v.checked p)).desk.conds.get i =
        if v.late then ((p.plateCheck w).desk.conds.set (waveLateSlot w)
          ((p.plateCheck w).desk.conds.get (waveLateSlot w)).ret).get i
        else (p.plateCheck w).desk.conds.get i := by
    unfold Part.enterReady Part.trigger
    dsimp only
    rw [show (v.checked p).late = v.late from rfl]
    cases v.late <;> simp [Desk.trigger_slot _ _ _ _ answered]
  have sending (busy : p.desk.pager.port ≠ .idle) (off7 : (p.desk.pager.routes.get 7).enabled = false) :
      ∃ q : Part, (p.plateCheck w).enterReady w (v.checked p) = q.trigger (.wave w) v.param ∧
        q.desk.pager = p.desk.pager ∧ q.uptime = p.uptime :=
    ⟨_, rfl, by rw [← pager busy off7]; split <;> simp, by rw [← uptime]; split <;> simp⟩
  refine ⟨by rw [wave, Table.get_set_self], ?_, ?_, ?_, fun _ _ _ turned => absurd ⟨rfl, notReady⟩ turned, ?_⟩
  · rw [entered _ (platesShortSlot_ne_unanswered w), Table.get_set_ne _ _ (waveSlots_apart w w), ite_self, short]
    rfl
  · rw [entered _ (waveLateSlot_ne_unanswered w), late, Table.get_set_self]
    simp [notReady, Wave.readied]
  · intro busy off7 off8
    obtain ⟨q, sends, pages, -⟩ := sending busy off7
    rw [sends, Part.trigger_desk, Desk.trigger_busy _ _ (pages ▸ busy), Desk.triggerCore_port, pages]
    exact busy
  · intro busy off7 off8 _
    obtain ⟨q, sends, pages, time⟩ := sending busy off7
    rw [sends, Part.trigger_desk, time, ← pages]
    exact q.desk.trigger_triggered p.uptime (pages ▸ busy) rfl v.param

theorem Part.enterLate_into (awaiting : v.state = .preparing) :
    JudgedInto w v (v.checked p).overdue p ((p.plateCheck w).enterLate w (v.checked p)) := by
  have notLate : v.state ≠ .late := by simp [awaiting]
  have short := p.plateCheck_short w held
  have late := p.plateCheck_late w
  have pager := p.plateCheck_pager w held
  obtain ⟨-, -, -, uptime⟩ := p.plateCheck_reads w
  have unpaged (busy : p.desk.pager.port ≠ .idle) (off7 : (p.desk.pager.routes.get 7).enabled = false)
      (off8 : (p.desk.pager.routes.get 8).enabled = false) :
      ((p.plateCheck w).enterLate w (v.checked p)).desk.pager = p.desk.pager := by
    have kept := pager busy off7
    have quiet := ((p.plateCheck w).setWave w (some (v.checked p).overdue)).desk.raise_quiet p.uptime
      (slot := waveLateSlot w) (by rwa [Part.setWave_pager, kept])
      (by rwa [Part.setWave_pager, kept, slotKind_waveLate]) v.param
    rw [Part.setWave_pager, kept] at quiet
    rw [← quiet, ← uptime]
    simp [Part.enterLate, Wave.overdue]
    rfl
  refine ⟨by rw [Part.enterLate_wave, Table.get_set_self], ?_, ?_, ?_, ?_,
    fun _ _ _ turned => WaveState.noConfusion turned.1⟩
  · simp only [Part.enterLate, Part.raise_desk, Desk.raise_slot_ne _ _ _ _ _ (waveSlots_apart w w)
      (platesShortSlot_ne_unanswered w), Part.setWave_conds, short]
    rfl
  · simp only [Part.enterLate, Part.raise_desk, Desk.raise_slot _ _ _ _ (waveLateSlot_ne_unanswered w),
      waveLateSlot_isCondition, Part.setWave_conds, Part.setWave_uptime, late, uptime]
    simp [notLate, Wave.overdue]
    rfl
  · intro busy off7 off8
    rwa [unpaged busy off7 off8]
  · intro busy off7 off8 _
    exact unpaged busy off7 off8

omit held in
theorem judgedOn_standing (standing : v.state = .ready ∨ v.state = .serving) : judgedOn (ofPart p) v = v.checked p := by
  rcases standing with h | h <;> simp [judgedOn, judgedState, h] <;> rw [Wave.checked, h] <;> rfl

omit held in
theorem judgedOn_ready (awaiting : v.state = .preparing ∨ v.state = .late) (ready : p.isReady v = true) :
    judgedOn (ofPart p) v = (v.checked p).readied := by
  rw [ready_eq] at ready
  rcases awaiting with h | h <;> simp [judgedOn, judgedState, h, ready, Wave.readied, Wave.checked] <;> rfl

omit held in
theorem judgedOn_due (preparing : v.state = .preparing) (due : v.due = 0) (ready : ¬ p.isReady v = true) :
    judgedOn (ofPart p) v = (v.checked p).overdue := by
  rw [ready_eq] at ready
  simp [judgedOn, judgedState, preparing, due, ready, Wave.overdue, Wave.checked]
  rfl

omit held in
theorem judgedOn_waiting (awaiting : v.state = .preparing ∨ v.state = .late) (ready : ¬ p.isReady v = true)
    (notDue : ¬ (v.state = .preparing ∧ v.due = 0)) : judgedOn (ofPart p) v = v.checked p := by
  rw [ready_eq] at ready
  rcases awaiting with h | h
  · have running : v.due ≠ 0 := fun due => notDue ⟨h, due⟩
    simp [judgedOn, judgedState, h, ready, running]
    rw [Wave.checked, h]
    rfl
  · simp [judgedOn, judgedState, h, ready]
    rw [Wave.checked, h]
    rfl

/-- The judgement of a wave past PLANNED and not CLOSED (R130, R133 to R135). -/
theorem Part.judgeWave_into
    (judged : v.state = .preparing ∨ v.state = .late ∨ v.state = .ready ∨ v.state = .serving) :
    JudgedInto w v (judgedOn (ofPart p) v) p (p.judgeWave w) := by
  by_cases standing : v.state = .ready ∨ v.state = .serving
  · rw [judgedOn_standing p standing, p.judgeWave_standing w held standing]
    exact p.plateCheck_into w held
  have awaiting : v.state = .preparing ∨ v.state = .late := by
    rcases judged with h | h | h
    · exact .inl h
    · exact .inr h
    · exact absurd h standing
  rw [p.judgeWave_awaiting w held awaiting]
  by_cases ready : p.isReady v = true
  · rw [if_pos ready, judgedOn_ready p awaiting ready]
    exact p.enterReady_into w held awaiting
  rw [if_neg ready]
  by_cases due : v.state = .preparing ∧ v.due = 0
  · rw [if_pos due, judgedOn_due p due.1 due.2 ready]
    exact p.enterLate_into w held due.1
  · rw [if_neg due, judgedOn_waiting p awaiting ready due]
    exact p.plateCheck_into w held

end Judgement

end Sys2Proof.Machine
end

section
/-!
Chapter 7: what a notice of another unit makes of the wave table, its slots and the pages (R141, log entry 32).
-/

namespace Sys2Proof.Machine

/-- The wave of a slot and its two condition slots are as before. -/
structure WaveKept (w : Fin 12) (p q : Part) : Prop where
  wave : q.waves.get w = p.waves.get w
  short : q.desk.conds.get (platesShortSlot w) = p.desk.conds.get (platesShortSlot w)
  late : q.desk.conds.get (waveLateSlot w) = p.desk.conds.get (waveLateSlot w)

/-- The records that a judgement reads are as before. -/
structure SameReads (p q : Part) : Prop where
  ovens : q.ovens = p.ovens
  cabinets : q.cabinets = p.cabinets
  stock : q.stock = p.stock

theorem waveOwn_apart {w x : Fin 12} (apart : x ≠ w) :
    platesShortSlot x ∉ waveOwn w ∧ waveLateSlot x ∉ waveOwn w := by
  revert w x
  decide

theorem platesShortSlot_mem (w : Fin 12) : platesShortSlot w ∈ waveSlots := waveOwn_subset w (by simp [waveOwn])

theorem waveLateSlot_mem (w : Fin 12) : waveLateSlot w ∈ waveSlots := waveOwn_subset w (by simp [waveOwn])

namespace WaveKept

variable {w : Fin 12} {p q r : Part}

theorem trans (h : WaveKept w p q) (k : WaveKept w q r) : WaveKept w p r :=
  ⟨k.wave.trans h.wave, k.short.trans h.short, k.late.trans h.late⟩

/-- Work outside the wave table leaves every wave and its slots. -/
theorem of_works {f : Footprint} {own : List (Fin 87)} (works : Works f own p q) (free : f.waves = false := by rfl)
    (apart : ∀ i ∈ own, i ∉ waveSlots := by simp) (w : Fin 12) : WaveKept w p q where
  wave := by rw [works.moves.touches.waves free]
  short := works.desk.slots _ (fun h => apart _ h (platesShortSlot_mem w)) (platesShortSlot_ne_unanswered w)
  late := works.desk.slots _ (fun h => apart _ h (waveLateSlot_mem w)) (waveLateSlot_ne_unanswered w)

end WaveKept

theorem SameReads.of_works {p q : Part} {f : Footprint} {own : List (Fin 87)} (works : Works f own p q)
    (free : f.ovens = false ∧ f.cabinets = false ∧ f.stock = false := by decide) : SameReads p q :=
  ⟨works.moves.touches.ovens free.1, works.moves.touches.cabinets free.2.1, works.moves.touches.stock free.2.2⟩

theorem potentialOf_same {p q : Part} (reads : SameReads p q) (v : Wave) :
    potentialOf (ofPart q) v = potentialOf (ofPart p) v :=
  Part.potential_congr reads.cabinets reads.stock v

theorem judgedOn_same {p q : Part} (reads : SameReads p q) (v : Wave) :
    judgedOn (ofPart q) v = judgedOn (ofPart p) v := by
  have ready : waveReadyNow (ofPart q) v.covers v = waveReadyNow (ofPart p) v.covers v := by
    rw [← ready_eq, ← ready_eq]
    exact Part.isReady_congr reads.ovens reads.cabinets v
  unfold judgedOn judgedState
  rw [ready, potentialOf_same reads]

/-- A notice told from the parts next to it: before it the wave, its slots and the uptime are the same, after it the
wave and its slots and the records that a judgement reads. -/
theorem noticedAt_between {concerns concerns' : Wave → Prop} {p p' q q' : Part} {w : Fin 12}
    (noticed : noticedAt concerns (ofPart p') (ofPart q) w) (before : WaveKept w p p') (time : p'.uptime = p.uptime)
    (after : WaveKept w q q') (reads : SameReads q q')
    (same : ∀ v, p.waves.get w = some v → (concerns' v ↔ concerns v)) :
    noticedAt concerns' (ofPart p) (ofPart q') w := by
  intro v stands
  obtain ⟨judged, left⟩ := noticed v (before.wave.trans stands)
  rw [same v stands]
  have short (flag : Bool) (n : Nat) :
      shortSlotAfter (ofPart p') w v.short flag n = shortSlotAfter (ofPart p) w v.short flag n := by
    simp only [shortSlotAfter, ofPart, State.slot, before.short, time]
  have late : (ofPart p').slot (waveLateSlot w) = (ofPart p).slot (waveLateSlot w) := before.late
  rw [show (ofPart p').part.uptime = (ofPart p).part.uptime from time, late, short] at judged
  rw [late, show (ofPart p').slot (platesShortSlot w) = (ofPart p).slot (platesShortSlot w) from before.short] at left
  refine ⟨fun concerned => ?_, fun free => ?_⟩
  · obtain ⟨wave, isShort, isLate⟩ := judged concerned
    rw [judgedOn_same reads, potentialOf_same reads]
    exact ⟨after.wave.trans wave, after.short.trans isShort, after.late.trans isLate⟩
  · obtain ⟨wave, isShort, isLate⟩ := left free
    exact ⟨after.wave.trans wave, after.short.trans isShort, after.late.trans isLate⟩

/-- The triggers read the waves before and after, and the uptime. -/
theorem readyTriggers_between {p p' q q' : Part} (time : p'.uptime = p.uptime) (slots : List (Fin 12))
    (before : ∀ w ∈ slots, p'.waves.get w = p.waves.get w) (after : ∀ w ∈ slots, q'.waves.get w = q.waves.get w)
    {g h : Pager} (sent : readyTriggers (ofPart p') (ofPart q) slots g h) :
    readyTriggers (ofPart p) (ofPart q') slots g h := by
  induction slots generalizing g with
  | nil => exact sent
  | cons w rest ih =>
    obtain ⟨next, later, still, turned⟩ := sent
    have earlier : (ofPart p).wave w = (ofPart p').wave w := (before w List.mem_cons_self).symm
    have last : (ofPart q').wave w = (ofPart q).wave w := after w List.mem_cons_self
    refine ⟨next, ih (fun x mem => before x (List.mem_cons_of_mem w mem))
      (fun x mem => after x (List.mem_cons_of_mem w mem)) later, ?_, ?_⟩
    · rw [earlier, last]
      exact still
    · rw [earlier, last, show (ofPart p).part.uptime = (ofPart p').part.uptime from time.symm]
      exact turned

/-! ## One slot of a notice -/

/-- What a notice does at one slot: it judges a wave that it concerns. -/
structure SlotNoticed (concerns : Wave → Prop) (w : Fin 12) (p q : Part) : Prop where
  works : Works noticeFoot (waveOwn w) p q
  others : ∀ x, x ≠ w → q.waves.get x = p.waves.get x
  absent : p.waves.get w = none → q = p
  judged : ∀ v, p.waves.get w = some v → concerns v → JudgedInto w v (judgedOn (ofPart p) v) p q
  left : ∀ v, p.waves.get w = some v → ¬ concerns v → q = p

namespace SlotNoticed

variable {concerns : Wave → Prop} {w : Fin 12} {p q r : Part}

theorem kept (one : SlotNoticed concerns w p q) {x : Fin 12} (apart : x ≠ w) : WaveKept x p q :=
  ⟨one.others x apart, one.works.desk.slots _ (waveOwn_apart apart).1 (platesShortSlot_ne_unanswered x),
    one.works.desk.slots _ (waveOwn_apart apart).2 (waveLateSlot_ne_unanswered x)⟩

/-- The slot's own part of a notice, whatever the notice does at the later slots. -/
theorem noticed (one : SlotNoticed concerns w p q) (after : WaveKept w q r) (reads : SameReads q r) :
    noticedAt concerns (ofPart p) (ofPart r) w := by
  have all := (SameReads.of_works one.works : SameReads p q)
  have both : SameReads p r :=
    ⟨reads.ovens.trans all.ovens, reads.cabinets.trans all.cabinets, reads.stock.trans all.stock⟩
  intro v stands
  dsimp only
  rw [judgedOn_same both, potentialOf_same both]
  refine ⟨fun concerned => ?_, fun free => ?_⟩
  · have into := one.judged v stands concerned
    exact ⟨after.wave.trans into.wave, after.short.trans into.short, after.late.trans into.late⟩
  · have same := one.left v stands free
    subst same
    exact ⟨after.wave.trans stands, after.short, after.late⟩

section Pages

variable (busy : p.desk.pager.port ≠ .idle) (off7 : (p.desk.pager.routes.get 7).enabled = false)
  (off8 : (p.desk.pager.routes.get 8).enabled = false)
include busy off7 off8

theorem stillBusy (one : SlotNoticed concerns w p q) : q.desk.pager.port ≠ .idle := by
  cases held : p.waves.get w with
  | none => rwa [one.absent held]
  | some v =>
    by_cases concerned : concerns v
    · exact (one.judged v held concerned).busy busy off7 off8
    · rwa [one.left v held concerned]

theorem pages (one : SlotNoticed concerns w p q) (after : r.waves.get w = q.waves.get w) :
    ((∀ v u, (ofPart p).wave w = some v → (ofPart r).wave w = some u → ¬ v.becomes u) →
      q.desk.pager = p.desk.pager) ∧
    ∀ v u, (ofPart p).wave w = some v → (ofPart r).wave w = some u → v.becomes u →
      triggered p.uptime (.wave w) 14 u.param p.desk.pager q.desk.pager := by
  refine ⟨fun none => ?_, fun v u stands ends turned => ?_⟩
  · cases held : p.waves.get w with
    | none => rw [one.absent held]
    | some v =>
      by_cases concerned : concerns v
      · have into := one.judged v held concerned
        exact into.quiet busy off7 off8 (none v _ held (after.trans into.wave))
      · rw [one.left v held concerned]
  · by_cases concerned : concerns v
    · have into := one.judged v stands concerned
      have same : u = judgedOn (ofPart p) v := Option.some.inj (ends.symm.trans (after.trans into.wave))
      subst same
      exact into.paged busy off7 off8 turned
    · have same := one.left v stands concerned
      subst same
      have same : u = v := Option.some.inj (ends.symm.trans (after.trans stands))
      subst same
      exact absurd turned.1 turned.2

end Pages

end SlotNoticed

/-! ## The slots in order -/

section Slots

variable {concerns : Wave → Prop} (act : Fin 12 → Part → Part) (each : ∀ w p, SlotNoticed concerns w p (act w p))
include each

theorem slots_kept (slots : List (Fin 12)) {x : Fin 12} (free : x ∉ slots) (p : Part) :
    WaveKept x p (slots.foldl (fun q w => act w q) p) := by
  induction slots generalizing p with
  | nil => exact ⟨rfl, rfl, rfl⟩
  | cons w rest ih =>
    rw [List.mem_cons, not_or] at free
    exact ((each w p).kept free.1).trans (ih free.2 _)

theorem slots_reads (slots : List (Fin 12)) (p : Part) : SameReads p (slots.foldl (fun q w => act w q) p) :=
  SameReads.of_works (f := noticeFoot) (own := waveSlots)
    (Works.foldl _ (fun q w => (each w q).works.mono rfl (waveOwn_subset w)) slots p)

theorem slots_noticed (slots : List (Fin 12)) (once : slots.Nodup) (p : Part) (x : Fin 12) (mem : x ∈ slots) :
    noticedAt concerns (ofPart p) (ofPart (slots.foldl (fun q w => act w q) p)) x := by
  induction slots generalizing p with
  | nil => exact absurd mem List.not_mem_nil
  | cons w rest ih =>
    obtain ⟨apart, once⟩ := List.nodup_cons.mp once
    rcases List.mem_cons.mp mem with same | later
    · subst same
      exact (each x p).noticed (slots_kept act each rest apart _) (slots_reads act each rest _)
    · have other : x ≠ w := fun e => apart (e ▸ later)
      exact noticedAt_between (ih once (act w p) later) ((each w p).kept other)
        ((each w p).works.moves.touches.uptime rfl) ⟨rfl, rfl, rfl⟩ ⟨rfl, rfl, rfl⟩ fun _ _ => Iff.rfl

theorem slots_pages (slots : List (Fin 12)) (once : slots.Nodup) (p : Part) (busy : p.desk.pager.port ≠ .idle)
    (off7 : (p.desk.pager.routes.get 7).enabled = false) (off8 : (p.desk.pager.routes.get 8).enabled = false) :
    readyTriggers (ofPart p) (ofPart (slots.foldl (fun q w => act w q) p)) slots p.desk.pager
      (slots.foldl (fun q w => act w q) p).desk.pager := by
  induction slots generalizing p with
  | nil => rfl
  | cons w rest ih =>
    obtain ⟨apart, once⟩ := List.nodup_cons.mp once
    have one := each w p
    have routes := one.works.desk.routes
    have later := ih once (act w p) (one.stillBusy busy off7 off8) (by rwa [routes]) (by rwa [routes])
    obtain ⟨still, turned⟩ := one.pages busy off7 off8 (slots_kept act each rest apart (act w p)).wave
    refine ⟨(act w p).desk.pager, readyTriggers_between (one.works.moves.touches.uptime rfl) rest
      (fun x mem => one.others x fun e => apart (e ▸ mem)) (fun _ _ => rfl) later, still, turned⟩

theorem slots_busy (slots : List (Fin 12)) (p : Part) (busy : p.desk.pager.port ≠ .idle)
    (off7 : (p.desk.pager.routes.get 7).enabled = false) (off8 : (p.desk.pager.routes.get 8).enabled = false) :
    (slots.foldl (fun q w => act w q) p).desk.pager.port ≠ .idle := by
  induction slots generalizing p with
  | nil => exact busy
  | cons w rest ih =>
    have one := each w p
    have routes := one.works.desk.routes
    exact ih (act w p) (one.stillBusy busy off7 off8) (by rwa [routes]) (by rwa [routes])

theorem eachSlot_noticed (p : Part) (w : Fin 12) : noticedAt concerns (ofPart p) (ofPart (p.eachSlot act)) w :=
  slots_noticed act each _ (List.nodup_finRange 12) p w (List.mem_finRange w)

end Slots

/-! ## The two notices -/

theorem onWave_noticed {concerns : Wave → Prop} {w : Fin 12} {p : Part} {act : Wave → Part → Part}
    (judges : ∀ v, p.waves.get w = some v → concerns v →
      (v.state = .preparing ∨ v.state = .late ∨ v.state = .ready ∨ v.state = .serving) ∧ act v p = p.judgeWave w)
    (leaves : ∀ v, p.waves.get w = some v → ¬ concerns v → act v p = p) :
    SlotNoticed concerns w p (p.onWave w act) := by
  cases held : p.waves.get w with
  | none =>
    have same : p.onWave w act = p := by simp only [Part.onWave, held]
    rw [same]
    exact ⟨.refl _ _ _, fun _ _ => rfl, fun _ => rfl, fun v h => by simp [held] at h, fun v h => by simp [held] at h⟩
  | some v =>
    rw [p.onWave_held w held]
    by_cases concerned : concerns v
    · obtain ⟨past, judged⟩ := judges v held concerned
      rw [judged]
      refine ⟨Part.judgeWave_past p w fun u isu => ?_, (Part.judgeWave_judges p w).others, fun none => ?_,
        fun u isu _ => ?_, fun u isu free => ?_⟩
      · rw [held, Option.some.injEq] at isu
        rw [← isu]
        rcases past with h | h | h | h <;> simp [h]
      · rw [held] at none
        exact absurd none (by simp)
      · rw [held, Option.some.injEq] at isu
        subst isu
        exact p.judgeWave_into w held past
      · rw [held, Option.some.injEq] at isu
        subst isu
        exact absurd concerned free
    · rw [leaves v held concerned]
      refine ⟨.refl _ _ _, fun _ _ => rfl, fun _ => rfl, fun u isu concern => ?_, fun _ _ _ => rfl⟩
      rw [held, Option.some.injEq] at isu
      subst isu
      exact absurd concern concerned

/-- An oven's state notice at one slot (R141). -/
def Part.ovenNoticeAt (oven : Fin 6) (w : Fin 12) (p : Part) : Part :=
  p.onWave w fun v r =>
    match v.state with
    | .preparing | .late => if oven ∈ v.ovens then r.judgeWave w else r
    | .planned | .ready | .serving | .closed => r

/-- A plate notice at one slot (R141). -/
def Part.plateNoticeAt (kind : Fin 4) (w : Fin 12) (p : Part) : Part :=
  p.onWave w fun v r =>
    match v.state with
    | .preparing | .late | .ready | .serving => if v.kind = kind then r.judgeWave w else r
    | .planned | .closed => r

theorem Part.ovenNotice_eq (p : Part) (oven : Fin 6) : p.ovenNotice oven = p.eachSlot (Part.ovenNoticeAt oven) := rfl

theorem Part.plateNotice_eq (p : Part) (kind : Fin 4) : p.plateNotice kind = p.eachSlot (Part.plateNoticeAt kind) := rfl

theorem ovenNoticeAt_noticed (oven : Fin 6) (w : Fin 12) (p : Part) :
    SlotNoticed (awaits oven) w p (p.ovenNoticeAt oven w) := by
  refine onWave_noticed (fun v _ concerned => ?_) (fun v _ free => ?_)
  · obtain ⟨listed, standing⟩ := concerned
    rcases standing with h | h <;> simp [h, listed]
  · have unlisted (awaiting : v.state = .preparing ∨ v.state = .late) : oven ∉ v.ovens :=
      fun mem => free ⟨mem, awaiting⟩
    split
    · next h => exact if_neg (unlisted (.inl h))
    · next h => exact if_neg (unlisted (.inr h))
    all_goals rfl

theorem plateNoticeAt_noticed (kind : Fin 4) (w : Fin 12) (p : Part) :
    SlotNoticed (ofKind kind) w p (p.plateNoticeAt kind w) := by
  refine onWave_noticed (fun v _ concerned => ?_) (fun v _ free => ?_)
  · obtain ⟨same, standing⟩ := concerned
    rcases standing with h | h | h | h <;> simp [h, same]
  · have otherKind (standing : v.state = .preparing ∨ v.state = .late ∨ v.state = .ready ∨ v.state = .serving) :
        v.kind ≠ kind := fun same => free ⟨same, standing⟩
    split
    · next h => exact if_neg (otherKind (.inl h))
    · next h => exact if_neg (otherKind (.inr (.inl h)))
    · next h => exact if_neg (otherKind (.inr (.inr (.inl h))))
    · next h => exact if_neg (otherKind (.inr (.inr (.inr h))))
    all_goals rfl

/-! ## A notice as a whole -/

/-- What a notice comes to: the waves that it concerns are judged in the order of their slots (R141). -/
structure PartNoticed (concerns : Wave → Prop) (p q : Part) : Prop where
  works : Works noticeFoot waveSlots p q
  table : NoticedTable p q
  waves : ∀ w, noticedAt concerns (ofPart p) (ofPart q) w
  busy : p.desk.pager.port ≠ .idle → (p.desk.pager.routes.get 7).enabled = false →
    (p.desk.pager.routes.get 8).enabled = false → q.desk.pager.port ≠ .idle
  pages : p.desk.pager.port ≠ .idle → (p.desk.pager.routes.get 7).enabled = false →
    (p.desk.pager.routes.get 8).enabled = false →
    readyTriggers (ofPart p) (ofPart q) (List.finRange 12) p.desk.pager q.desk.pager

theorem noticedAt_none {concerns : Wave → Prop} {p : Part} {w : Fin 12}
    (never : ∀ v, p.waves.get w = some v → ¬ concerns v) : noticedAt concerns (ofPart p) (ofPart p) w :=
  fun v stands => ⟨fun concerned => absurd concerned (never v stands), fun _ => ⟨stands, rfl, rfl⟩⟩

theorem readyTriggers_none (p : Part) (slots : List (Fin 12)) (g : Pager) :
    readyTriggers (ofPart p) (ofPart p) slots g g := by
  induction slots with
  | nil => rfl
  | cons w rest ih =>
    refine ⟨g, ih, fun _ => rfl, fun v u stands ends turned => ?_⟩
    rw [Option.some.inj (stands.symm.trans ends)] at turned
    exact absurd turned.1 turned.2

/-- No notice, where none is due. -/
theorem PartNoticed.none {concerns : Wave → Prop} {p : Part} (never : ∀ v, ¬ concerns v) : PartNoticed concerns p p :=
  ⟨.refl _ _ _, ⟨fun _ h => h, fun _ v h => ⟨v, h, .refl v, fun _ => rfl⟩⟩, fun _ => noticedAt_none fun v _ => never v,
    fun busy _ _ => busy, fun _ _ _ => readyTriggers_none p _ _⟩

theorem PartNoticed.eachSlot {concerns : Wave → Prop} (act : Fin 12 → Part → Part)
    (each : ∀ w p, SlotNoticed concerns w p (act w p)) {p : Part} (table : NoticedTable p (p.eachSlot act)) :
    PartNoticed concerns p (p.eachSlot act) :=
  ⟨Part.eachSlot_works p act fun w q => (each w q).works.mono rfl (waveOwn_subset w), table,
    eachSlot_noticed act each p, slots_busy act each _ p, slots_pages act each _ (List.nodup_finRange 12) p⟩

theorem Part.ovenNotice_noticed (p : Part) (oven : Fin 6) : PartNoticed (awaits oven) p (p.ovenNotice oven) :=
  PartNoticed.eachSlot (Part.ovenNoticeAt oven) (ovenNoticeAt_noticed oven) (p.ovenNotice_waves oven)

theorem Part.plateNotice_noticed (p : Part) (kind : Fin 4) : PartNoticed (ofKind kind) p (p.plateNotice kind) :=
  PartNoticed.eachSlot (Part.plateNoticeAt kind) (plateNoticeAt_noticed kind) (p.plateNotice_waves kind)

/-- No WAVE_READY page can come while its route is disabled. -/
theorem readyTriggers_disabled {s t : State} {slots : List (Fin 12)} {g h : Pager}
    (off : (g.routes.get 14).enabled = false) (sent : readyTriggers s t slots g h) : h = g := by
  induction slots generalizing g with
  | nil => exact sent
  | cons w rest ih =>
    obtain ⟨next, later, still, turned⟩ := sent
    have same : next = g := by
      by_cases becomes : ∃ v u, s.wave w = some v ∧ t.wave w = some u ∧ v.becomes u
      · obtain ⟨v, u, stands, ends, now⟩ := becomes
        exact (turned v u stands ends now).1 off
      · exact still fun v u stands ends now => becomes ⟨v, u, stands, ends, now⟩
    subst same
    exact ih off later

section Between

variable {concerns concerns' : Wave → Prop} {p p' q q' : Part} (noticed : PartNoticed concerns p' q)
include noticed

/-- A notice within a command: work before it and after it that leaves the waves and what they read. -/
theorem PartNoticed.noticedAt (before : ∀ w, WaveKept w p p') (time : p'.uptime = p.uptime)
    (after : ∀ w, WaveKept w q q') (reads : SameReads q q') (same : ∀ v, concerns' v ↔ concerns v) (w : Fin 12) :
    noticedAt concerns' (ofPart p) (ofPart q') w :=
  noticedAt_between (noticed.waves w) (before w) time (after w) reads fun v _ => same v

theorem PartNoticed.readyTriggers (before : ∀ w, WaveKept w p p') (time : p'.uptime = p.uptime)
    (after : ∀ w, WaveKept w q q') (busy : p'.desk.pager.port ≠ .idle)
    (off7 : (p'.desk.pager.routes.get 7).enabled = false) (off8 : (p'.desk.pager.routes.get 8).enabled = false) :
    readyTriggers (ofPart p) (ofPart q') (List.finRange 12) p'.desk.pager q.desk.pager :=
  readyTriggers_between time _ (fun w _ => (before w).wave) (fun w _ => (after w).wave) (noticed.pages busy off7 off8)

theorem PartNoticed.between_table (before : p'.waves = p.waves) (after : q'.waves = q.waves) : NoticedTable p q' :=
  ⟨fun w none => by rw [after]; exact noticed.table.absent w (by rwa [before]),
    fun w v stands => by rw [after]; exact noticed.table.record w v (by rwa [before])⟩

/-- The pages of a notice while none of its routes is enabled. -/
theorem PartNoticed.silent (busy : p'.desk.pager.port ≠ .idle) (off7 : (p'.desk.pager.routes.get 7).enabled = false)
    (off8 : (p'.desk.pager.routes.get 8).enabled = false) (off14 : (p'.desk.pager.routes.get 14).enabled = false) :
    q.desk.pager = p'.desk.pager :=
  readyTriggers_disabled off14 (noticed.pages busy off7 off8)

end Between

/-! ## The statements' forms -/

section Answers

variable {s : State} {q : Part} {kind tag : Byte} {a : Answer}

theorem noticedAt_answer {concerns : Wave → Prop} {w : Fin 12} (h : noticedAt concerns (ofPart s.part) (ofPart q) w) :
    noticedAt concerns s (s.answer kind tag (q, a)) w := h

theorem noticedAt_event {concerns : Wave → Prop} {w : Fin 12} (h : noticedAt concerns (ofPart s.part) (ofPart q) w) :
    noticedAt concerns s (s.event q) w := h

theorem wavesJudged_answer {concerns : Wave → Prop} (h : wavesJudged concerns (ofPart s.part) (ofPart q)) :
    wavesJudged concerns s (s.answer kind tag (q, a)) :=
  ⟨fun w => noticedAt_answer (h.1 w), fun busy off =>
    readyTriggers_between (q := q) rfl _ (fun _ _ => rfl) (fun _ _ => rfl) (h.2 busy off)⟩

theorem noticed_answer {f : Footprint} {own : List (Fin 87)} (table : NoticedTable s.part q)
    (works : Works f (own ++ waveSlots) s.part q) : Noticed own s (s.answer kind tag (q, a)) where
  desk := works.kept_part kind tag a
  absent := table.absent
  judged w v stands := by
    obtain ⟨u, ends, judges, -⟩ := table.record w v stands
    exact ⟨u, ends, judges.record⟩
  standing w v stands out := by
    obtain ⟨u, ends, -, same⟩ := table.record w v stands
    rw [same out] at ends
    exact ends
  serving w v stands on := by
    obtain ⟨u, ends, judges, -⟩ := table.record w v stands
    exact ⟨u, ends, judges.standing on⟩

end Answers

end Sys2Proof.Machine
end

section
/-!
Chapter 5: CONFIGURE CABINET and SET CABINET MODE (R81, R82, R94, R95).
-/

namespace Sys2Proof.Machine

/-! ## PLATES_LOW (R95) -/

/-- A cabinet's wave serves, and fewer plates are ready in it than its low mark. -/
def Part.LowDue (n : Fin 8) (p : Part) : Prop :=
  (p.cabinets.get n).ready < (p.cabinets.get n).lowMark ∧ ∃ w, (p.cabinets.get n).waveSlot = some w ∧
    ∃ v, p.waves.get w = some v ∧ v.state = .serving

theorem Part.isServing_iff (p : Part) (w : Fin 12) :
    p.isServing w = true ↔ ∃ v, p.waves.get w = some v ∧ v.state = .serving := by
  unfold Part.isServing
  split
  · next v held => simp [held]
  · next none => simp [none]

section Low

variable (p : Part) (n : Fin 8)

theorem Part.evaluateLow_due (due : p.LowDue n) :
    p.evaluateLow n = p.trigger (.cabinet n) (BitVec.ofNat 16 (p.cabinets.get n).ready) := by
  obtain ⟨low, w, holds, serving⟩ := due
  have serves := (p.isServing_iff w).mpr serving
  simp only [Part.evaluateLow, holds, serves, low, decide_true, Bool.and_self, if_true]

theorem Part.evaluateLow_notDue (notDue : ¬ p.LowDue n) : p.evaluateLow n = p := by
  unfold Part.evaluateLow
  dsimp only
  split
  · next w holds =>
    rw [if_neg]
    rw [Bool.and_eq_true, decide_eq_true_eq, p.isServing_iff w]
    exact fun h => notDue ⟨h.2, w, holds, h.1⟩
  · rfl

/-- The page of an evaluation while the port is busy. -/
theorem Part.evaluateLow_pages (busy : p.desk.pager.port ≠ .idle) :
    (p.LowDue n → triggered p.uptime (.cabinet n) 15 (BitVec.ofNat 16 (p.cabinets.get n).ready) p.desk.pager
      (p.evaluateLow n).desk.pager) ∧
    (¬ p.LowDue n → (p.evaluateLow n).desk.pager = p.desk.pager) := by
  refine ⟨fun due => ?_, fun notDue => by rw [p.evaluateLow_notDue n notDue]⟩
  rw [p.evaluateLow_due n due, Part.trigger_desk]
  exact p.desk.trigger_triggered p.uptime busy rfl _

theorem Part.evaluateLow_quiet (busy : p.desk.pager.port ≠ .idle) (off : (p.desk.pager.routes.get 15).enabled = false) :
    (p.evaluateLow n).desk.pager = p.desk.pager := by
  by_cases due : p.LowDue n
  · exact ((p.evaluateLow_pages n busy).1 due).1 off
  · exact (p.evaluateLow_pages n busy).2 due

end Low

theorem judgedOn_serving (t : State) (v : Wave) : (judgedOn t v).state = .serving ↔ v.state = .serving := by
  unfold judgedOn judgedState
  dsimp only
  constructor
  · intro h
    split at h
    · assumption
    · repeat' split at h
      all_goals exact WaveState.noConfusion h
  · intro h
    rw [if_pos h]

/-- No notice starts or ends the service of a wave. -/
theorem PartNoticed.serving {concerns : Wave → Prop} {p q : Part} (noticed : PartNoticed concerns p q) (w : Fin 12) :
    (∃ v, q.waves.get w = some v ∧ v.state = .serving) ↔ ∃ v, p.waves.get w = some v ∧ v.state = .serving := by
  cases held : p.waves.get w with
  | none => simp [noticed.table.absent w held]
  | some v =>
    obtain ⟨judged, left⟩ := noticed.waves w v held
    by_cases concerned : concerns v
    · have ends : q.waves.get w = some (judgedOn (ofPart q) v) := (judged concerned).1
      simp [ends, judgedOn_serving]
    · have ends : q.waves.get w = some v := (left concerned).1
      simp [ends]

/-! ## CONFIGURE CABINET (R81) -/

/-- The configuration that a CONFIGURE CABINET carries, given to a record. -/
def writtenCabinet (f : CabinetFields) (kind : Fin 4) (c : Cabinet) : Cabinet :=
  { c with
    kind, capacity := f.capacity.toNat, standbySp := f.standbySp.toNat, serviceSp := f.serviceSp.toNat
    readyTemp := f.readyTemp.toNat, warmTime := f.warmTime.toNat, lowMark := f.lowMark.toNat }

/-- The ranges of section 5.1, but for the kind's. -/
def CabinetInRange (f : CabinetFields) : Prop :=
  1 ≤ f.capacity.toNat ∧ f.capacity.toNat ≤ 300 ∧ f.standbySp.toNat ≤ 4000 ∧
    f.serviceSp.toNat ≤ 4000 ∧ f.readyTemp.toNat ≤ 4000 ∧ 60 ≤ f.warmTime.toNat ∧ f.warmTime.toNat ≤ 5400 ∧
    f.lowMark.toNat ≤ 300

theorem Cabinet.configured_eq_some {f : CabinetFields} (kind : f.kind.toNat < 4) (inRange : CabinetInRange f)
    (c : Cabinet) : c.configured f = some (writtenCabinet f ⟨f.kind.toNat, kind⟩ c) := by
  simp only [CabinetInRange] at inRange
  unfold Cabinet.configured
  rw [index_of_lt kind]
  dsimp only
  rw [if_pos]
  · rfl
  · simp only [Bool.and_eq_true, within_iff]
    omega

theorem Cabinet.configured_eq_none {f : CabinetFields} (out : ¬ (f.kind.toNat < 4 ∧ CabinetInRange f)) (c : Cabinet) :
    c.configured f = none := by
  unfold Cabinet.configured
  by_cases kind : f.kind.toNat < 4
  · rw [index_of_lt kind]
    dsimp only
    rw [if_neg]
    simp only [CabinetInRange, Bool.and_eq_true, within_iff] at out ⊢
    omega
  · rw [index_of_le (by omega)]

/-- A new configuration in the record, with its mark and the loop's request. -/
def Part.cabinetStored (n : Fin 8) (after : Cabinet) (p : Part) : Part :=
  ((p.setCabinet n after).mark .cabinet n.val).trimCabinetLoop n (p.cabinets.get n) after

/-- A CONFIGURE CABINET that is taken. -/
def Part.cabinetConfigured (n : Fin 8) (after : Cabinet) (p : Part) : Part :=
  ((p.cabinetStored n after).readinessNotice (p.cabinets.get n) after).evaluateLow n

section Configure

variable (p : Part) {cabinet : Byte} (inTable : cabinet.toNat < 8) {f : CabinetFields} (kind : f.kind.toNat < 4)
  (inRange : CabinetInRange f)

theorem configureCabinet_outOfRange (out : 8 ≤ cabinet.toNat ∨ ¬ (f.kind.toNat < 4 ∧ CabinetInRange f)) :
    configureCabinet cabinet f p = (p, { status := .range }) := by
  unfold configureCabinet
  by_cases inTable : cabinet.toNat < 8
  · rw [index_of_lt inTable]
    dsimp only
    rw [Cabinet.configured_eq_none (out.resolve_left (by omega))]
  · rw [index_of_le (by omega)]

/-- The plates or the wave of a cabinet hold its kind and capacity (R81). -/
def Cabinet.Holds (f : CabinetFields) (c : Cabinet) : Prop :=
  c.batches ≠ [] ∧ (f.kind.toNat ≠ c.kind.val ∨ f.capacity.toNat ≠ c.capacity) ∨
    f.kind.toNat ≠ c.kind.val ∧ c.waveSlot.isSome = true

include kind inRange

theorem configureCabinet_held (held : (p.cabinets.get ⟨cabinet.toNat, inTable⟩).Holds f) :
    configureCabinet cabinet f p = (p, { status := .state }) := by
  unfold configureCabinet
  rw [index_of_lt inTable]
  dsimp only
  rw [Cabinet.configured_eq_some kind inRange]
  simp only [writtenCabinet, ne_eq, Fin.ext_iff]
  rcases held with plates | wave
  · rw [if_pos plates]
  · rw [if_pos wave, ite_self]

theorem configureCabinet_taken (free : ¬ (p.cabinets.get ⟨cabinet.toNat, inTable⟩).Holds f) :
    configureCabinet cabinet f p =
      (p.cabinetConfigured ⟨cabinet.toNat, inTable⟩
        (writtenCabinet f ⟨f.kind.toNat, kind⟩ (p.cabinets.get ⟨cabinet.toNat, inTable⟩)), { status := .ok }) := by
  unfold configureCabinet
  rw [index_of_lt inTable]
  dsimp only
  rw [Cabinet.configured_eq_some kind inRange]
  simp only [writtenCabinet, ne_eq, Fin.ext_iff]
  rw [if_neg fun plates => free (.inl plates), if_neg fun wave => free (.inr wave)]
  rfl

end Configure

section Stored

variable (p : Part) (n : Fin 8) (before after : Cabinet)

theorem Part.trimCabinetLoop_works : Works { loops := true } [] p (p.trimCabinetLoop n before after) := by
  unfold Part.trimCabinetLoop
  split
  · exact Works.refl _ _ _
  all_goals
    split
    · exact Works.refl _ _ _
    · exact Part.requestSetpoint_works _ _ _ _

/-- The loops after a changed configuration: the cabinet's is asked for the setpoint of its mode, where that changed. -/
theorem Part.trimCabinetLoop_loops : (p.trimCabinetLoop n before after).loops =
    if after.mode = .standby ∧ after.standbySp ≠ before.standbySp then
      p.loops.set (cabinetLoop n) ((p.loops.get (cabinetLoop n)).asked after.standbySp)
    else if after.mode = .service ∧ after.serviceSp ≠ before.serviceSp then
      p.loops.set (cabinetLoop n) ((p.loops.get (cabinetLoop n)).asked after.serviceSp)
    else p.loops := by
  unfold Part.trimCabinetLoop
  split
  · next mode => simp [mode]
  · next mode =>
    split
    · next same => simp [mode, same]
    · next changed => simp [mode, changed, Part.requestSetpoint_loops]
  · next mode =>
    split
    · next same => simp [mode, same]
    · next changed => simp [mode, changed, Part.requestSetpoint_loops]

theorem Part.cabinetStored_works : Works { cabinets := true, loops := true } [] p (p.cabinetStored n after) :=
  ((Part.setCabinet_works p _ _ _).widen.trans (Works.mark _ _ _ _ rfl)).trans
    (Part.trimCabinetLoop_works _ _ _ _).widen

theorem Part.cabinetStored_cabinets : (p.cabinetStored n after).cabinets = p.cabinets.set n after :=
  ((Part.trimCabinetLoop_works _ _ _ _).moves.touches.cabinets rfl).trans (Part.setCabinet_cabinets _ _ _)

theorem Part.cabinetStored_marked : Mark.mk .cabinet n.val ∈ (p.cabinetStored n after).desk.link.changeSet :=
  (Part.trimCabinetLoop_works _ _ _ _).changeSet_subset (Link.mem_mark_changeSet _ _ _)

theorem Part.readinessNotice_noticed : PartNoticed (fun v => after.ready ≠ before.ready ∧ ofKind after.kind v) p
    (p.readinessNotice before after) := by
  unfold Part.readinessNotice
  split
  · next same => exact .none fun v concerned => concerned.1 same
  · next changed =>
    have noticed := p.plateNotice_noticed after.kind
    exact ⟨noticed.works, noticed.table, fun w => noticedAt_between (noticed.waves w) ⟨rfl, rfl, rfl⟩ rfl
      ⟨rfl, rfl, rfl⟩ ⟨rfl, rfl, rfl⟩ fun v _ => ⟨fun h => h.2, fun h => ⟨changed, h⟩⟩, noticed.busy, noticed.pages⟩

/-- All but the evaluation of PLATES_LOW. -/
theorem Part.cabinetConfigured_notice :
    PartNoticed (fun v => after.ready ≠ (p.cabinets.get n).ready ∧ ofKind after.kind v)
    (p.cabinetStored n after) ((p.cabinetStored n after).readinessNotice (p.cabinets.get n) after) :=
  Part.readinessNotice_noticed _ _ _

theorem Part.cabinetConfigured_works :
    Works { noticeFoot with cabinets := true, loops := true } waveSlots p (p.cabinetConfigured n after) :=
  (((p.cabinetStored_works n after).mono rfl (List.nil_subset _)).trans
    (p.cabinetConfigured_notice n after).works.widen).trans (Part.evaluateLow_works _ _ _).widen

theorem Part.cabinetConfigured_after :
    Works deskFoot [] ((p.cabinetStored n after).readinessNotice (p.cabinets.get n) after)
    (p.cabinetConfigured n after) := Part.evaluateLow_works _ _ _

theorem Part.cabinetConfigured_cabinets : (p.cabinetConfigured n after).cabinets = p.cabinets.set n after := by
  have low := (p.cabinetConfigured_after n after).moves.touches.cabinets rfl
  have notice := (p.cabinetConfigured_notice n after).works.moves.touches.cabinets rfl
  rw [low, notice, p.cabinetStored_cabinets]

theorem Part.cabinetConfigured_loops : (p.cabinetConfigured n after).loops = (p.cabinetStored n after).loops :=
  ((p.cabinetConfigured_after n after).moves.touches.loops rfl).trans
    ((p.cabinetConfigured_notice n after).works.moves.touches.loops rfl)

/-- The loops after a configuration: the cabinet's is asked for the setpoint of its mode, where that changed. -/
theorem Part.cabinetConfigured_written (f : CabinetFields) (k : Fin 4) :
    (p.cabinetConfigured n (writtenCabinet f k (p.cabinets.get n))).loops =
      if (p.cabinets.get n).mode = .standby ∧ f.standbySp.toNat ≠ (p.cabinets.get n).standbySp then
        p.loops.set (cabinetLoop n) ((p.loops.get (cabinetLoop n)).asked f.standbySp.toNat)
      else if (p.cabinets.get n).mode = .service ∧ f.serviceSp.toNat ≠ (p.cabinets.get n).serviceSp then
        p.loops.set (cabinetLoop n) ((p.loops.get (cabinetLoop n)).asked f.serviceSp.toNat)
      else p.loops := by
  rw [Part.cabinetConfigured_loops, Part.cabinetStored, Part.trimCabinetLoop_loops, Part.mark_loops,
    Part.setCabinet_loops]
  rfl

theorem Part.cabinetConfigured_marked :
    Mark.mk .cabinet n.val ∈ (p.cabinetConfigured n after).desk.link.changeSet :=
  (p.cabinetConfigured_after n after).changeSet_subset
    ((p.cabinetConfigured_notice n after).works.changeSet_subset (p.cabinetStored_marked n after))

theorem Part.cabinetConfigured_table : NoticedTable p (p.cabinetConfigured n after) :=
  (p.cabinetConfigured_notice n after).between_table ((p.cabinetStored_works n after).moves.touches.waves rfl)
    ((p.cabinetConfigured_after n after).moves.touches.waves rfl)

theorem Part.cabinetConfigured_judged :
    wavesJudged (fun v => after.ready ≠ (p.cabinets.get n).ready ∧ ofKind after.kind v) (ofPart p)
      (ofPart (p.cabinetConfigured n after)) := by
  have stored := p.cabinetStored_works n after
  have noticed := p.cabinetConfigured_notice n after
  have low := p.cabinetConfigured_after n after
  have quiet := ((p.cabinetStored n after).readinessNotice (p.cabinets.get n) after).evaluateLow_quiet n
  rw [show Part.evaluateLow n _ = p.cabinetConfigured n after from rfl] at quiet
  generalize p.cabinetConfigured n after = r at *
  generalize (p.cabinetStored n after).readinessNotice (p.cabinets.get n) after = q' at *
  generalize p.cabinetStored n after = p' at *
  have pager : p'.desk.pager = p.desk.pager := stored.moves.touches.pager rfl
  have time : p'.uptime = p.uptime := stored.moves.touches.uptime rfl
  refine ⟨noticed.noticedAt (.of_works stored) time (.of_works low) (.of_works low) (fun _ => Iff.rfl),
    fun busy off => ?_⟩
  have busy' : p'.desk.pager.port ≠ .idle := pager ▸ busy
  have off' (k : Fin 16) (other : k ≠ 14) : (p'.desk.pager.routes.get k).enabled = false := pager ▸ off k other
  have sent := noticed.readyTriggers (.of_works stored) time (.of_works low) busy' (off' 7 (by decide))
    (off' 8 (by decide))
  have last : r.desk.pager = q'.desk.pager :=
    quiet (noticed.busy busy' (off' 7 (by decide)) (off' 8 (by decide)))
      (by rw [noticed.works.desk.routes]; exact off' 15 (by decide))
  rw [pager, ← last] at sent
  exact sent

theorem Part.cabinetConfigured_low : lowEvaluated n (ofPart p) (ofPart (p.cabinetConfigured n after)) := by
  have stored := p.cabinetStored_works n after
  have noticed := p.cabinetConfigured_notice n after
  have low := p.cabinetConfigured_after n after
  have pages := ((p.cabinetStored n after).readinessNotice (p.cabinets.get n) after).evaluateLow_pages n
  rw [show Part.evaluateLow n _ = p.cabinetConfigured n after from rfl] at pages
  generalize p.cabinetConfigured n after = r at *
  generalize (p.cabinetStored n after).readinessNotice (p.cabinets.get n) after = q' at *
  generalize p.cabinetStored n after = p' at *
  have pager : p'.desk.pager = p.desk.pager := stored.moves.touches.pager rfl
  have waves : p'.waves = p.waves := stored.moves.touches.waves rfl
  have cabinets : r.cabinets = q'.cabinets := low.moves.touches.cabinets rfl
  have time : q'.uptime = p.uptime := (noticed.works.moves.touches.uptime rfl).trans (stored.moves.touches.uptime rfl)
  intro busy off
  have busy' : p'.desk.pager.port ≠ .idle := pager ▸ busy
  have off' (k : Fin 16) (other : k ≠ 15) : (p'.desk.pager.routes.get k).enabled = false := pager ▸ off k other
  have silent : q'.desk.pager = p.desk.pager :=
    (noticed.silent busy' (off' 7 (by decide)) (off' 8 (by decide)) (off' 14 (by decide))).trans pager
  have serves (w : Fin 12) : (∃ v, q'.waves.get w = some v ∧ v.state = .serving) ↔
      ∃ v, p.waves.get w = some v ∧ v.state = .serving := by
    rw [noticed.serving w, waves]
  have due : q'.LowDue n ↔ (r.cabinets.get n).ready < (r.cabinets.get n).lowMark ∧
      ∃ w, (r.cabinets.get n).waveSlot = some w ∧ ∃ v, p.waves.get w = some v ∧ v.state = .serving := by
    simp only [Part.LowDue, serves, cabinets]
  have sent := pages (silent.symm ▸ busy)
  rw [due, silent, time, ← cabinets] at sent
  exact sent

end Stored

/-! ## SET CABINET MODE (R82) -/

theorem cabinetModeOf_code (b : Byte) {m : CabinetMode} (named : m.code = b.toNat) : cabinetModeOf b = some m := by
  have is : b = BitVec.ofNat 8 m.code := by rw [named, BitVec.ofNat_toNat, BitVec.setWidth_eq]
  rw [is]
  cases m <;> rfl

theorem cabinetModeOf_out {b : Byte} (out : 3 ≤ b.toNat) : cabinetModeOf b = none := by
  have ne (k : Byte) (small : k.toNat < 3) : b ≠ k := by
    intro is
    rw [is] at out
    omega
  unfold cabinetModeOf
  rw [if_neg (ne 0 (by decide)), if_neg (ne 1 (by decide)), if_neg (ne 2 (by decide))]

/-- The setpoint that a cabinet's mode asks its loop for. -/
def CabinetMode.setpoint (m : CabinetMode) (c : Cabinet) : Nat := if m = .service then c.serviceSp else c.standbySp

/-- What a request for a setpoint and one for AUTO make of a loop (R31, R33). -/
theorem Part.askedAuto_carried (p : Part) (n : Fin 16) (sp : Int) : LoopCarried n ((p.loops.get n).asked sp)
    (((p.loops.get n).asked sp).autoAsked (p.reading (loopChannel n))) p ((p.requestSetpoint n sp).ownerAuto n) := by
  have asking := p.requestSetpoint_works [] n sp
  have carried := (p.requestSetpoint n sp).ownerAuto_carried n
  rw [Part.requestSetpoint_loops, Table.get_set_self, asking.reading] at carried
  exact carried.of_work asking (by simp)

section Mode

variable (p : Part) (n : Fin 8) (m : CabinetMode) (waveSet : Bool)

theorem Part.runCabinetLoop_on (on : m ≠ .off) : p.runCabinetLoop n m =
    (p.requestSetpoint (cabinetLoop n) (m.setpoint (p.cabinets.get n))).ownerAuto (cabinetLoop n) := by
  unfold Part.runCabinetLoop
  cases m with
  | off => exact absurd rfl on
  | standby => rfl
  | service => rfl

theorem Part.changeMode_same (same : m = (p.cabinets.get n).mode) :
    p.changeMode n m waveSet = p.setCabinet n { p.cabinets.get n with mode := m, waveSet } := by
  unfold Part.changeMode
  exact if_pos same

theorem Part.changeMode_new (new : m ≠ (p.cabinets.get n).mode) : p.changeMode n m waveSet =
    ((p.setCabinet n { p.cabinets.get n with mode := m, waveSet }).runCabinetLoop n m).classNotice (cabinetLoop n)
      m.heaterClass := by
  unfold Part.changeMode
  exact if_neg new

theorem Part.classNotice_heater (q : Part) (x i : Fin 16) (c : HeaterClass) :
    (q.classNotice x c).feeder.heaters.get i =
      if i = x then { q.feeder.heaters.get x with cls := c } else q.feeder.heaters.get i := by
  simp [Part.classNotice, Table.get_set]

theorem Part.runCabinetLoop_feeder : (p.runCabinetLoop n m).feeder = p.feeder :=
  (Part.runCabinetLoop_works p n m).moves.touches.feeder rfl

theorem Part.runCabinetLoop_others {x : Fin 16} (other : x ≠ cabinetLoop n) :
    (p.runCabinetLoop n m).loops.get x = p.loops.get x := by
  by_cases off : m = .off
  · subst off
    simp [Part.runCabinetLoop, Part.ownerOff_loops, Table.get_set_ne _ _ other]
  · rw [p.runCabinetLoop_on n m off, Part.ownerAuto_others _ _ _ other, Part.requestSetpoint_loops,
      Table.get_set_ne _ _ other]

theorem Part.changeMode_feeder : (p.changeMode n m waveSet).feeder =
    { p.feeder with heaters := (p.changeMode n m waveSet).feeder.heaters } := by
  by_cases same : m = (p.cabinets.get n).mode
  · rw [p.changeMode_same n m waveSet same, Part.setCabinet_feeder]
  · have stored := Part.setCabinet_feeder p n { p.cabinets.get n with mode := m, waveSet }
    have ran := Part.runCabinetLoop_feeder (p.setCabinet n { p.cabinets.get n with mode := m, waveSet }) n m
    rw [p.changeMode_new n m waveSet same]
    exact ((NoticesOnly.ofSame (ran.trans stored)).trans (Part.classNotice_notices _ _ _)).feeder

theorem Part.changeMode_heater (new : m ≠ (p.cabinets.get n).mode) (i : Fin 16) :
    (p.changeMode n m waveSet).feeder.heaters.get i =
      if i = cabinetLoop n then { p.feeder.heaters.get (cabinetLoop n) with cls := m.heaterClass }
      else p.feeder.heaters.get i := by
  rw [p.changeMode_new n m waveSet new, Part.classNotice_heater, Part.runCabinetLoop_feeder, Part.setCabinet_feeder]

theorem Part.changeMode_loops_others {x : Fin 16} (other : x ≠ cabinetLoop n) :
    (p.changeMode n m waveSet).loops.get x = p.loops.get x := by
  by_cases same : m = (p.cabinets.get n).mode
  · rw [p.changeMode_same n m waveSet same, Part.setCabinet_loops]
  · rw [p.changeMode_new n m waveSet same, show (Part.classNotice _ _ _).loops = _ from
      (Part.classNotice_works _ [] _ _).moves.touches.loops rfl, Part.runCabinetLoop_others _ _ _ other,
      Part.setCabinet_loops]

theorem Part.changeMode_off (new : CabinetMode.off ≠ (p.cabinets.get n).mode) :
    (p.changeMode n .off waveSet).loops.get (cabinetLoop n) = (p.loops.get (cabinetLoop n)).stopped := by
  rw [p.changeMode_new n _ waveSet new, show (Part.classNotice _ _ _).loops = _ from
    (Part.classNotice_works _ [] _ _).moves.touches.loops rfl]
  simp [Part.runCabinetLoop, Part.ownerOff_loops]

theorem Part.changeMode_auto (new : m ≠ (p.cabinets.get n).mode) (on : m ≠ .off) :
    LoopCarried (cabinetLoop n) ((p.loops.get (cabinetLoop n)).asked (m.setpoint (p.cabinets.get n)))
      (((p.loops.get (cabinetLoop n)).asked (m.setpoint (p.cabinets.get n))).autoAsked
        (p.reading (loopChannel (cabinetLoop n)))) p (p.changeMode n m waveSet) := by
  have store : Works { cabinets := true } [] p (p.setCabinet n { p.cabinets.get n with mode := m, waveSet }) :=
    Part.setCabinet_works p _ _ _
  have cabinet : ((p.setCabinet n { p.cabinets.get n with mode := m, waveSet }).cabinets.get n) =
      { p.cabinets.get n with mode := m, waveSet } := by
    rw [Part.setCabinet_cabinets, Table.get_set_self]
  have loops := Part.setCabinet_loops p n { p.cabinets.get n with mode := m, waveSet }
  have setpoint : m.setpoint { p.cabinets.get n with mode := m, waveSet } = m.setpoint (p.cabinets.get n) := rfl
  rw [p.changeMode_new n m waveSet new, Part.runCabinetLoop_on _ n m on, cabinet, setpoint]
  have started := Part.askedAuto_carried (p.setCabinet n { p.cabinets.get n with mode := m, waveSet }) (cabinetLoop n)
    (m.setpoint (p.cabinets.get n))
  rw [loops, store.reading] at started
  have cls := fun q : Part => Part.classNotice_works q [] (cabinetLoop n) m.heaterClass
  exact (started.of_work store (by simp)).then_work (cls _) (by rw [(cls _).moves.touches.loops rfl]) (by simp)

end Mode

theorem CabinetMode.setpoint_cast (m : CabinetMode) (c : Cabinet) :
    ((m.setpoint c : Nat) : Int) = if m = .service then (c.serviceSp : Int) else (c.standbySp : Int) := by
  unfold CabinetMode.setpoint
  split <;> rfl

theorem CabinetMode.heaterClass_eq (m : CabinetMode) :
    m.heaterClass = if m = .service then .service else .standby := by
  cases m <;> rfl

theorem setCabinetMode_taken (p : Part) {cabinet mode : Byte} (inTable : cabinet.toNat < 8) {m : CabinetMode}
    (named : m.code = mode.toNat) :
    setCabinetMode cabinet mode p = (p.changeMode ⟨cabinet.toNat, inTable⟩ m false, { status := .ok }) := by
  unfold setCabinetMode
  rw [index_of_lt inTable, cabinetModeOf_code mode named]

theorem setCabinetMode_outOfRange (p : Part) {cabinet mode : Byte} (out : 8 ≤ cabinet.toNat ∨ 3 ≤ mode.toNat) :
    setCabinetMode cabinet mode p = (p, { status := .range }) := by
  unfold setCabinetMode
  rcases out with cabinetOut | modeOut
  · rw [index_of_le cabinetOut]
  · rw [cabinetModeOf_out modeOut]
    cases index 8 cabinet <;> rfl

/-- Settles O29: the record that each request writes, what its loop is asked for, and the notices of a new ready
count. -/
theorem cabinetFieldsAndModeAreTaken : Obligations.CabinetFieldsAndModeAreTaken := by
  refine ⟨?configure, ?mode⟩
  case configure =>
    intro s tag cabinet f c inRange
    constructor
    · intro out
      simp only [c, exec, execConfigureCabinet, configureCabinet_outOfRange s.part (f := f) out]
    intro inTable within n old l kindChanges held
    constructor
    · intro isHeld
      simp only [c, exec, execConfigureCabinet,
        configureCabinet_held s.part inTable (f := f) within.1 within.2 isHeld]
    intro free
    have taken := configureCabinet_taken s.part inTable within.1 within.2 free
    let after := writtenCabinet f ⟨f.kind.toNat, within.1⟩ old
    have works := s.part.cabinetConfigured_works n after
    have cabinets := s.part.cabinetConfigured_cabinets n after
    have loops := s.part.cabinetConfigured_written n f ⟨f.kind.toNat, within.1⟩
    have marked := s.part.cabinetConfigured_marked n after
    have table := s.part.cabinetConfigured_table n after
    have judged := s.part.cabinetConfigured_judged n after
    have low := s.part.cabinetConfigured_low n after
    refine ⟨_, rfl, ?_⟩
    rw [show configureCabinet cabinet f s.part = (s.part.cabinetConfigured n after, { status := .ok }) from taken]
    rw [show s.part.cabinetConfigured n (writtenCabinet f ⟨f.kind.toNat, within.1⟩ (s.part.cabinets.get n)) =
      s.part.cabinetConfigured n after from rfl] at loops
    generalize s.part.cabinetConfigured n after = q at *
    have found : q.cabinets.get n = after := by rw [cabinets, Table.get_set_self]
    have shown : (s.answer 0x50 tag (q, { status := .ok })).cabinet n = after := found
    refine ⟨works.answered_part 0x50 tag { status := .ok }, noticed_answer table works, ?_, low, fun x other => ?_,
      fun x other => ?_, fun k isKind => ?_, ?_, ?_⟩
    · rw [shown]
      exact wavesJudged_answer judged
    · exact (congrArg (·.get x) cabinets).trans (Table.get_set_ne _ _ other)
    · rw [State.answer_loop, loops]
      split
      · exact Table.get_set_ne _ _ other
      · split
        · exact Table.get_set_ne _ _ other
        · rfl
    · have same : k = ⟨f.kind.toNat, within.1⟩ := Fin.ext isKind
      rw [shown, same]
      rfl
    · rw [State.answer_loop, loops]
      split
      · rw [Table.get_set_self]
        rfl
      · split
        · rw [Table.get_set_self]
          rfl
        · rfl
    · rw [State.answer_changeSet]
      exact marked
  case mode =>
    intro s tag cabinet mode c
    constructor
    · intro out
      simp only [c, exec, execSetCabinetMode, setCabinetMode_outOfRange s.part out]
    intro inTable m named n old l
    have taken := setCabinetMode_taken s.part inTable named
    have works := s.part.changeMode_works n m false
    have cabinets := s.part.changeMode_cabinets n m false
    have others {x : Fin 16} := s.part.changeMode_loops_others n m false (x := x)
    have feeder := s.part.changeMode_feeder n m false
    have same (is : m = old.mode) : (s.part.changeMode n m false).loops = s.part.loops ∧
        (s.part.changeMode n m false).feeder = s.part.feeder := by
      rw [s.part.changeMode_same n m false is]
      exact ⟨Part.setCabinet_loops _ _ _, Part.setCabinet_feeder _ _ _⟩
    have heater := s.part.changeMode_heater n m false
    have auto := s.part.changeMode_auto n m false
    have off (new : m ≠ old.mode) (is : m = .off) :
        (s.part.changeMode n m false).loops.get (cabinetLoop n) = (s.part.loops.get (cabinetLoop n)).stopped := by
      subst is
      exact s.part.changeMode_off n false new
    refine ⟨_, rfl, ?_⟩
    rw [show setCabinetMode cabinet mode s.part = (s.part.changeMode n m false, { status := .ok }) from taken]
    rw [← m.heaterClass_eq, ← m.setpoint_cast]
    generalize s.part.changeMode n m false = q at *
    refine ⟨works.answered_part 0x51 tag { status := .ok }, works.kept_part 0x51 tag { status := .ok },
      fun x other => ?_, ?_, fun x => others, fun x other => ?_, feeder, fun is => ?_, fun new => ⟨?_, ?_, ?_⟩⟩
    · exact (congrArg (·.get x) cabinets).trans (Table.get_set_ne _ _ other)
    · exact (congrArg (·.get n) cabinets).trans (Table.get_set_self _ _ _)
    · by_cases is : m = old.mode
      · exact congrArg (·.heaters.get x) (same is).2
      · exact (heater is x).trans (if_neg other)
    · exact ⟨congrArg (·.get (cabinetLoop n)) (same is).1, congrArg (·.heaters.get (cabinetLoop n)) (same is).2⟩
    · exact (heater new (cabinetLoop n)).trans (if_pos rfl)
    · exact off new
    · intro on
      obtain ⟨sp, base, cfg⟩ := (auto new on).asked_auto
      exact ⟨sp, base, cfg, ((auto new on).answer 0x51 tag _).autoStarted⟩

end Sys2Proof.Machine
end

section
/-!
Chapter 9: cancel notices (R172), and the pages that stay cancelled while other blocks raise, return and trigger and the
radio arbiter sends.
-/

namespace Sys2Proof.Machine

/-! ## The queue -/

/-- A page to be CANCELLED when its transmission ends. -/
def Page.Cancelled (page : Page) : Prop := page.state = .onAir ∧ page.cancelMark = true ∧ page.latch = none

/-- A queue of at most 32 pages under different ids, at most one of each source but the host, in which the pages of the
listed sources are cancelled. -/
structure QueueCleared (S : Source → Prop) (queue : List Page) : Prop where
  length : queue.length ≤ 32
  ids : (queue.map Page.id).Nodup
  sources : ∀ a ∈ queue, ∀ b ∈ queue, a.source = b.source → a.id ≠ b.id → ∃ tag, a.source = .host tag
  pages : ∀ page ∈ queue, S page.source → page.Cancelled

theorem PagesKept.cleared {g : Pager} (kept : PagesKept g) : QueueCleared (fun _ => False) g.queue := by
  refine ⟨kept.length, kept.ids, ?_, fun _ _ => False.elim⟩
  have symm : Std.Symm fun a b : Page => a.source = b.source → a.id ≠ b.id → ∃ tag, a.source = .host tag := by
    refine ⟨fun a b h same apart => ?_⟩
    obtain ⟨tag, host⟩ := h same.symm apart.symm
    exact ⟨tag, same.trans host⟩
  intro a memA b memB
  exact List.Pairwise.forall_of_forall (fun _ _ _ apart => absurd rfl apart)
    (kept.sources.imp (S := fun a b : Page => a.source = b.source → a.id ≠ b.id → ∃ tag, a.source = .host tag)
      fun h same _ => h same) memA memB

theorem QueueCleared.noPageBut {S : Source → Prop} {g : Pager} (h : QueueCleared S g.queue) {source : Source}
    (listed : S source) : noPageBut source g := by
  intro page mem is
  exact h.pages page mem (is ▸ listed)

namespace QueueCleared

variable {S : Source → Prop} {queue : List Page} (h : QueueCleared S queue)
include h

theorem eq_of_id {a b : Page} (memA : a ∈ queue) (memB : b ∈ queue) (same : a.id = b.id) : a = b :=
  List.inj_on_of_nodup_map h.ids memA memB same

theorem update {id : Half} {f : Page → Page} (keeps : ∀ page ∈ queue, page.id = id →
    (f page).id = page.id ∧ (f page).source = page.source ∧ (S page.source → (f page).Cancelled)) :
    QueueCleared S (updatePage id f queue) := by
  have same (page : Page) (mem : page ∈ queue) : (if page.id = id then f page else page).id = page.id ∧
      (if page.id = id then f page else page).source = page.source := by
    split
    · next is => exact ⟨(keeps page mem is).1, (keeps page mem is).2.1⟩
    · exact ⟨rfl, rfl⟩
  refine ⟨(length_updatePage id f queue).trans_le h.length, ?_, ?_, ?_⟩
  · have ids : (updatePage id f queue).map Page.id = queue.map Page.id := by
      rw [updatePage, List.map_map]
      exact List.map_congr_left fun page mem => (same page mem).1
    rw [ids]
    exact h.ids
  · intro a memA b memB
    obtain ⟨a', memA', isA⟩ := List.mem_map.mp memA
    obtain ⟨b', memB', isB⟩ := List.mem_map.mp memB
    rw [← isA, ← isB, (same a' memA').1, (same a' memA').2, (same b' memB').1, (same b' memB').2]
    exact h.sources a' memA' b' memB'
  · intro page mem
    obtain ⟨old, memOld, is⟩ := List.mem_map.mp mem
    rw [← is, (same old memOld).2]
    intro listed
    split
    · next own => exact (keeps old memOld own).2.2 listed
    · exact h.pages old memOld listed

theorem remove (id : Half) : QueueCleared S (removePage id queue) := by
  have sub := (List.filter_sublist (l := queue) (p := fun page => decide (page.id ≠ id)))
  exact ⟨sub.length_le.trans h.length, (sub.map Page.id).nodup h.ids,
    fun a memA b memB => h.sources a (sub.mem memA) b (sub.mem memB), fun page mem => h.pages page (sub.mem mem)⟩

theorem join {page : Page} (room : queue.length < 32) (fresh : page.id ∉ queue.map Page.id)
    (new : ∀ q ∈ queue, q.source = page.source → ∃ tag, q.source = .host tag) (free : ¬ S page.source) :
    QueueCleared S (joinQueue page queue) := by
  refine ⟨by rw [length_joinQueue]; exact room, ?_, ?_, ?_⟩
  · rw [((joinQueue_perm page queue).map Page.id).nodup_iff, List.map_cons, List.nodup_cons]
    exact ⟨fresh, h.ids⟩
  · intro a memA b memB same apart
    rcases (mem_joinQueue page a queue).mp memA with isA | inA <;>
      rcases (mem_joinQueue page b queue).mp memB with isB | inB
    · exact absurd (isA.trans isB.symm ▸ rfl) apart
    · obtain ⟨tag, host⟩ := new b inB (same.symm.trans (isA ▸ rfl))
      exact ⟨tag, same.trans host⟩
    · exact new a inA (same.trans (isB ▸ rfl))
    · exact h.sources a inA b inB same apart
  · intro q mem listed
    rcases (mem_joinQueue page q queue).mp mem with is | mem
    · exact absurd (is ▸ listed) free
    · exact h.pages q mem listed

theorem widen_to {S' : Source → Prop} (pages : ∀ page ∈ queue, S' page.source → page.Cancelled) :
    QueueCleared S' queue := ⟨h.length, h.ids, h.sources, pages⟩

end QueueCleared

/-! ## The desk's operations -/

/-- A desk with such a queue. -/
def Desk.Clears (S : Source → Prop) (d : Desk) : Prop := QueueCleared S d.pager.queue

theorem Desk.finish_unlatched (d : Desk) (now : Word) {page : Page} (unlatched : page.latch = none)
    (outcome : PageOutcome) (answerer : Option (Fin 64)) :
    (d.finish now page outcome answerer).pager.queue = removePage page.id d.pager.queue := by
  unfold Desk.finish
  rw [unlatched]
  rfl

theorem Desk.releaseTarget_queue (d : Desk) (page : Page) : (d.releaseTarget page).pager.queue = d.pager.queue := by
  unfold Desk.releaseTarget
  split <;> rfl

namespace Desk.Clears

variable {S : Source → Prop} {d : Desk} (h : d.Clears S) (now : Word)
include h

theorem of_queue {e : Desk} (same : e.pager.queue = d.pager.queue) : e.Clears S := by
  rw [Desk.Clears, same]
  exact h

theorem createPage {source : Source} (free : ¬ S source)
    (new : ∀ q ∈ d.pager.queue, q.source = source → ∃ tag, q.source = .host tag) (group : Fin 8) (priority : Fin 4)
    (code : Byte) (param : Half) : (d.createPage now source group priority code param).Clears S := by
  have fresh : d.pager.nextId ∉ d.pager.queue.map Page.id := by
    obtain ⟨-, -, -, free, -⟩ := nextPageId_nextFree (d.pager.queue.map Page.id) (by simpa using h.length)
      d.pager.pageCounter
    exact free
  unfold Desk.Clears
  by_cases room : d.pager.queue.length < 32
  · rw [d.createPage_room now source param _ _ _ room]
    exact QueueCleared.join h room fresh new free
  · by_cases worse : ∃ worst, worstQueued d.pager.queue = some worst ∧ priority < worst.priority
    · obtain ⟨worst, found, less⟩ := worse
      rw [d.createPage_drops now source param _ _ _ room found less]
      obtain ⟨mem, -⟩ := worstQueued_some _ _ found
      refine QueueCleared.join (QueueCleared.remove h worst.id) ?_ (fun held => fresh ?_) (fun q mem => new q ?_) free
      · refine lt_of_lt_of_le ?_ h.length
        exact List.length_filter_lt_length_iff_exists.mpr ⟨worst, mem, by simp⟩
      · exact (List.filter_sublist.map Page.id).mem held
      · exact ((mem_removePage _ _ _).mp mem).1
    · have noWorse (worst : Page) (found : worstQueued d.pager.queue = some worst) : ¬ priority < worst.priority :=
        fun less => worse ⟨worst, found, less⟩
      rw [d.createPage_refused now source param _ _ _ room noWorse]
      exact h

theorem createRouted {source : Source} (free : ¬ S source)
    (new : ∀ q ∈ d.pager.queue, q.source = source → ∃ tag, q.source = .host tag) (param : Half) :
    (d.createRouted now source param).Clears S := by
  unfold Desk.createRouted
  split
  · exact h
  · dsimp only
    split
    · exact h.createPage now free new _ _ _ _
    · exact h

theorem triggerCore {source : Source} (free : ¬ S source) (param : Half) :
    (d.triggerCore now source param).Clears S := by
  unfold Desk.triggerCore
  split
  · exact h
  · split
    · split
      · next page found =>
        obtain ⟨mem, is⟩ := findSource_some _ _ _ found
        refine QueueCleared.update h fun q memQ own => ⟨rfl, rfl, fun listed => ?_⟩
        rw [QueueCleared.eq_of_id h memQ mem own, is] at listed
        exact absurd listed free
      · next none =>
        refine h.createRouted now free (fun q mem is => ?_) param
        have := List.find?_eq_none.mp none q mem
        exact absurd is (by simpa using this)
    · exact h

theorem raiseCore {slot : Fin 87} (free : ¬ S (.slot slot)) (param : Half) :
    (d.raiseCore now slot param).Clears S := by
  unfold Desk.raiseCore
  dsimp only
  have stored (c : Slot) : (d.setSlot slot c).Clears S := h.of_queue (by rw [Desk.setSlot_pager])
  split
  · exact (stored _).triggerCore now free param
  · exact stored _

/-- A page ends: its latch makes a page where it is set, which that of a cancelled source is not. -/
theorem finish {page : Page} (held : ∃ q ∈ d.pager.queue, q.id = page.id ∧ q.source = page.source)
    (free : ¬ S page.source ∨ page.latch = none) (outcome : PageOutcome) (answerer : Option (Fin 64)) :
    (d.finish now page outcome answerer).Clears S := by
  obtain ⟨held, memHeld, sameId, sameSource⟩ := held
  have gone (r : OutcomeRecord) :
      ((d.record r).onPager fun g => { g with queue := removePage page.id g.queue }).Clears S :=
    QueueCleared.remove h page.id
  unfold Desk.finish
  dsimp only
  split
  · exact gone _
  · next param latched =>
    refine (gone _).createRouted now (free.resolve_right (by simp [latched])) (fun q mem is => ?_) param
    obtain ⟨memQ, apart⟩ := (mem_removePage _ _ _).mp mem
    exact h.sources q memQ held memHeld (is.trans sameSource.symm) (sameId.symm ▸ apart)

/-- The one page of a source loses its latch and is cancelled by its state. -/
theorem cancelPage {page : Page}
    (only : ∀ q ∈ d.pager.queue, q.source = page.source → q = page) :
    ((d.updatePage page.id fun q => { q with latch := none }).cancelPage now { page with latch := none }).Clears
      fun σ => S σ ∨ σ = page.source := by
  have cleared : (d.updatePage page.id fun q => { q with latch := none }).Clears S := by
    refine QueueCleared.update h fun q memQ own => ⟨rfl, rfl, fun listed => ?_⟩
    obtain ⟨onAir, marked, -⟩ := h.pages q memQ listed
    exact ⟨onAir, marked, rfl⟩
  have from_old (q : Page) (memQ : q ∈ Machine.updatePage page.id (fun q => { q with latch := none }) d.pager.queue)
      (own : q.source = page.source) : q = { page with latch := none } := by
    obtain ⟨old, memOld, isOld⟩ := List.mem_map.mp memQ
    have same : old.source = page.source := by
      rw [← own, ← isOld]
      split <;> rfl
    rw [← isOld, only old memOld same, if_pos rfl]
  have gone : QueueCleared (fun σ => S σ ∨ σ = page.source)
      (removePage page.id (Machine.updatePage page.id (fun q => { q with latch := none }) d.pager.queue)) := by
    refine QueueCleared.widen_to (QueueCleared.remove cleared page.id) fun q memQ listed => ?_
    rcases listed with listed | own
    · exact (QueueCleared.remove cleared page.id).pages q memQ listed
    · obtain ⟨memUpdated, apart⟩ := (mem_removePage _ _ _).mp memQ
      rw [from_old q memUpdated own] at apart
      exact absurd rfl apart
  have ended (e : Desk) (queue : e.pager.queue = (d.updatePage page.id fun q => { q with latch := none }).pager.queue) :
      (e.finish now { page with latch := none } .cancelled none).Clears fun σ => S σ ∨ σ = page.source := by
    unfold Desk.Clears
    rw [Desk.finish_unlatched _ _ rfl, queue]
    exact gone
  unfold Desk.cancelPage
  split
  · exact ended _ (Desk.releaseTarget_queue _ _)
  · exact ended _ (Desk.releaseTarget_queue _ _)
  · next onAir =>
    have marked : QueueCleared S (Machine.updatePage page.id (fun q => { q with cancelMark := true })
        (Machine.updatePage page.id (fun q => { q with latch := none }) d.pager.queue)) := by
      refine QueueCleared.update cleared fun q memQ _ => ⟨rfl, rfl, fun listed => ?_⟩
      obtain ⟨onAir, -, latch⟩ := cleared.pages q memQ listed
      exact ⟨onAir, rfl, latch⟩
    refine QueueCleared.widen_to marked fun q memQ listed => ?_
    rcases listed with listed | own
    · exact marked.pages q memQ listed
    · obtain ⟨old, memOld, isOld⟩ := List.mem_map.mp memQ
      have same : old.source = page.source := by
        rw [← own, ← isOld]
        split <;> rfl
      rw [← isOld, from_old old memOld same, if_pos rfl]
      exact ⟨onAir, rfl, rfl⟩

end Desk.Clears

section Arbiter

variable {S : Source → Prop} (slots : ∀ i, ¬ S (.slot i)) (now : Word)
include slots

omit slots in
/-- The arbiter works on QUEUED pages, and a cancelled page stands ON_AIR. -/
theorem Desk.Clears.not_listed {d : Desk} (h : d.Clears S) {page : Page}
    (first : firstQueued d.pager.queue = some page) : page ∈ d.pager.queue ∧ ¬ S page.source := by
  obtain ⟨mem, queued⟩ := firstQueued_some _ _ first
  refine ⟨mem, fun listed => ?_⟩
  have onAir := (h.pages page mem listed).1
  rw [queued] at onAir
  exact PageState.noConfusion onAir

theorem Desk.Clears.escalateOrEnd {d : Desk} (h : d.Clears S) {page : Page} (mem : page ∈ d.pager.queue)
    (free : ¬ S page.source) (outcome : PageOutcome) : (d.escalateOrEnd now page outcome).Clears S := by
  have ended := h.finish now ⟨page, mem, rfl, rfl⟩ (.inl free) outcome none
  unfold Desk.escalateOrEnd
  split
  · next moved escalates =>
    have same : moved.id = page.id ∧ moved.source = page.source := by
      unfold Page.escalate at escalates
      split at escalates
      · cases escalates
      · split at escalates
        · cases escalates
        · cases escalates
          exact ⟨rfl, rfl⟩
    refine QueueCleared.update h fun q memQ own => ?_
    rw [QueueCleared.eq_of_id h memQ mem own]
    exact ⟨same.1, same.2, fun listed => absurd listed free⟩
  · unfold Desk.endUnanswered
    dsimp only
    split
    · exact ended
    · exact ended.raiseCore now (slots _) _

omit slots in
theorem Desk.Clears.transmit {d : Desk} (h : d.Clears S) {page shown : Page} (mem : page ∈ d.pager.queue)
    (free : ¬ S page.source) (same : shown.id = page.id ∧ shown.source = page.source) (address : Nat) (group : Byte) :
    (d.transmit shown address group).Clears S := by
  refine QueueCleared.update h fun q memQ own => ?_
  rw [QueueCleared.eq_of_id h memQ mem (own.trans same.1)]
  exact ⟨same.1, same.2, fun listed => absurd listed free⟩

omit slots in
theorem Desk.Clears.send? {d sent : Desk} (h : d.Clears S) {page : Page} (mem : page ∈ d.pager.queue)
    (free : ¬ S page.source) (sends : d.send? page = some sent) : sent.Clears S := by
  unfold Desk.send? at sends
  split at sends
  · split at sends
    · cases sends
    · cases sends
      unfold Desk.transmitAll
      refine h.transmit mem free ?_ _ _
      exact ⟨rfl, rfl⟩
  · split at sends
    · cases sends
    · next e _ =>
      cases sends
      have moved : (d.onPager fun g => { g with
          groups := g.groups.set page.current { g.groups.get page.current with pointer := e } }).Clears S :=
        h.of_queue rfl
      unfold Desk.transmitTo
      refine moved.transmit mem free ?_ _ _
      exact ⟨rfl, rfl⟩

theorem Desk.Clears.arbitrate (fuel : Nat) {d : Desk} (h : d.Clears S) : (Machine.arbitrate now fuel d).Clears S := by
  induction fuel generalizing d with
  | zero => exact h
  | succ fuel ih =>
    unfold Machine.arbitrate
    split
    · split
      · exact h
      · next page first =>
        obtain ⟨mem, free⟩ := h.not_listed first
        split
        · next sent sends => exact h.send? mem free sends
        · exact ih (Desk.Clears.escalateOrEnd slots now h mem free _)
    all_goals exact h

theorem Desk.Clears.trigger {d : Desk} (h : d.Clears S) {source : Source} (free : ¬ S source) (param : Half) :
    (d.trigger now source param).Clears S :=
  Desk.Clears.arbitrate slots now 300 (h.triggerCore now free param)

theorem Desk.Clears.raise {d : Desk} (h : d.Clears S) (slot : Fin 87) (param : Half) :
    (d.raise now slot param).Clears S :=
  Desk.Clears.arbitrate slots now 300 (h.raiseCore now (slots slot) param)

/-- A cancel notice adds its source to those whose pages are cancelled (R172). -/
theorem Desk.Clears.cancelNotice {d : Desk} (h : d.Clears S) (source : Source) (notHost : ∀ tag, source ≠ .host tag)
    (notSlot : ∀ i, source ≠ .slot i) : (d.cancelNotice now source).Clears fun σ => S σ ∨ σ = source := by
  have free : ∀ i, ¬ (S (.slot i) ∨ Source.slot i = source) := fun i listed =>
    listed.elim (slots i) fun is => notSlot i is.symm
  unfold Desk.cancelNotice
  split
  · next none =>
    refine QueueCleared.widen_to h fun page mem listed => listed.elim (h.pages page mem) fun is => ?_
    exact absurd is (by simpa using List.find?_eq_none.mp none page mem)
  · next page found =>
    obtain ⟨mem, is⟩ := findSource_some _ _ _ found
    have only (q : Page) (memQ : q ∈ d.pager.queue) (own : q.source = source) : q = page := by
      by_contra apart
      obtain ⟨tag, host⟩ := h.sources q memQ page mem (own.trans is.symm)
        fun sameId => apart (QueueCleared.eq_of_id h memQ mem sameId)
      exact notHost tag (own.symm.trans host)
    dsimp only
    subst is
    exact Desk.Clears.arbitrate free now 300 (h.cancelPage now only)

end Arbiter

/-! ## A cancel notice while the port is busy -/

theorem removePage_updatePage (id : Half) {f : Page → Page} (same : ∀ page, (f page).id = page.id) (queue : List Page) :
    removePage id (updatePage id f queue) = removePage id queue := by
  induction queue with
  | nil => rfl
  | cons first rest ih =>
    simp only [removePage, updatePage, ne_eq, decide_not, List.map_cons, List.filter_cons] at ih ⊢
    by_cases own : first.id = id
    · simp [own, same, ih]
    · simp [own, ih]

theorem updatePage_twice (id : Half) {f g : Page → Page} (same : ∀ page, (f page).id = page.id) (queue : List Page) :
    updatePage id g (updatePage id f queue) = updatePage id (fun page => g (f page)) queue := by
  simp only [updatePage, List.map_map]
  refine List.map_congr_left fun page _ => ?_
  by_cases own : page.id = id
  · simp [own, same]
  · simp [own]

section Notice

variable (d : Desk) (now : Word)

theorem Desk.releaseTarget_port (page : Page) : (d.releaseTarget page).pager.port = d.pager.port := by
  unfold Desk.releaseTarget
  split <;> rfl

theorem Desk.finish_unlatched_pager {page : Page} (unlatched : page.latch = none) (outcome : PageOutcome)
    (answerer : Option (Fin 64)) : (d.finish now page outcome answerer).pager = { d.pager with
      queue := removePage page.id d.pager.queue
      outcomes := appendOutcome { id := page.id, source := page.source, outcome, pager := answerer, uptime := now }
        d.pager.outcomes } := by
  unfold Desk.finish
  rw [unlatched]
  rfl

theorem Desk.cancelPage_port {page : Page} (unlatched : page.latch = none) :
    (d.cancelPage now page).pager.port = d.pager.port := by
  unfold Desk.cancelPage
  split
  · rw [Desk.finish_unlatched_pager _ _ unlatched]
    exact d.releaseTarget_port page
  · rw [Desk.finish_unlatched_pager _ _ unlatched]
    exact d.releaseTarget_port page
  · rfl

/-- A page's latch cleared, and the page cancelled. -/
def Desk.unlatchCancel (page : Page) (d : Desk) : Desk :=
  (d.updatePage page.id fun q => { q with latch := none }).cancelPage now { page with latch := none }

theorem Desk.unlatchCancel_port (page : Page) : (d.unlatchCancel now page).pager.port = d.pager.port :=
  Desk.cancelPage_port _ now rfl

variable (source : Source)

theorem Desk.cancelNotice_none (unpaged : findSource source d.pager.queue = none) : d.cancelNotice now source = d := by
  unfold Desk.cancelNotice
  rw [unpaged]

variable (busy : d.pager.port ≠ .idle)
include busy

theorem Desk.cancelNotice_some {page : Page} (found : findSource source d.pager.queue = some page) :
    d.cancelNotice now source = d.unlatchCancel now page := by
  unfold Desk.cancelNotice
  rw [found]
  dsimp only
  rw [Desk.arbiter, arbitrate_of_busy]
  · rfl
  · rw [show (Desk.cancelPage now _ _).pager.port = d.pager.port from d.unlatchCancel_port now page]
    exact busy

theorem Desk.cancelNotice_port : (d.cancelNotice now source).pager.port = d.pager.port := by
  cases found : findSource source d.pager.queue with
  | none => rw [d.cancelNotice_none now source found]
  | some page => rw [d.cancelNotice_some now source busy found, d.unlatchCancel_port]

/-- What a cancel notice makes of the pager controller (R172). -/
theorem Desk.cancelNotice_cancels : noticeCancels now source d.pager (d.cancelNotice now source).pager := by
  refine ⟨fun unpaged => ?_, fun page found => ?_⟩
  · rw [d.cancelNotice_none now source (by simpa [findSource] using unpaged)]
  rw [d.cancelNotice_some now source busy found, Desk.unlatchCancel]
  have removed := removePage_updatePage page.id (f := fun q => { q with latch := none }) (fun _ => rfl) d.pager.queue
  refine ⟨fun queued => ?_, fun awaiting => ?_, fun onAir => ?_⟩
  · refine ⟨fun _ => ?_, fun param latched => by simp at latched⟩
    simp only [Desk.cancelPage, queued]
    rw [Desk.finish_unlatched_pager _ _ rfl]
    simp only [Desk.releaseTarget, Desk.updatePage, Desk.onPager_pager, removed]
    rfl
  · refine ⟨fun _ => ?_, fun param latched => by simp at latched⟩
    simp only [Desk.cancelPage, awaiting]
    rw [Desk.finish_unlatched_pager _ _ rfl]
    cases page.broadcast <;> cases page.target
    all_goals
      simp only [Desk.releaseTarget, Desk.updatePage, Desk.onPager_pager, removed]
      rfl
  · have twice := updatePage_twice page.id (f := fun q => { q with latch := none })
      (g := fun q => { q with cancelMark := true }) (fun _ => rfl) d.pager.queue
    simp only [Desk.cancelPage, onAir, Desk.updatePage, Desk.onPager_pager, twice]

end Notice

end Sys2Proof.Machine
end

section
/-!
What raises, returns and triggers on the way of a command make of the page queue: nothing while their routes are
disabled, and nothing of the pages that a cancel notice has left.
-/

namespace Sys2Proof.Machine

/-- Work that hands the pager controller occurrences of the listed kinds alone, none of them an oven's. -/
structure Pages (kinds : List (Fin 16)) (p q : Part) : Prop where
  clears : ∀ S : Source → Prop, (∀ i, ¬ S (.slot i)) → (∀ w, ¬ S (.wave w)) → p.desk.Clears S → q.desk.Clears S
  quiet : p.desk.pager.port ≠ .idle → (∀ k ∈ kinds, (p.desk.pager.routes.get k).enabled = false) →
    q.desk.pager = p.desk.pager

namespace Pages

variable {kinds : List (Fin 16)} {p q r : Part}

theorem refl (kinds : List (Fin 16)) (p : Part) : Pages kinds p p := ⟨fun _ _ _ h => h, fun _ _ => rfl⟩

theorem trans (h : Pages kinds p q) (k : Pages kinds q r) : Pages kinds p r := by
  refine ⟨fun S slots waves clear => k.clears S slots waves (h.clears S slots waves clear), fun busy off => ?_⟩
  have same := h.quiet busy off
  rw [k.quiet (same ▸ busy) (same ▸ off), same]

theorem mono {more : List (Fin 16)} (h : Pages kinds p q) (sub : kinds ⊆ more) : Pages more p q :=
  ⟨h.clears, fun busy off => h.quiet busy fun k mem => off k (sub mem)⟩

/-- Work that leaves the pager controller alone. -/
theorem of_same (same : q.desk.pager = p.desk.pager) : Pages kinds p q :=
  ⟨fun _ _ _ h => h.of_queue (by rw [same]), fun _ _ => same⟩

theorem of_works {f : Footprint} {own : List (Fin 87)} (w : Works f own p q) (free : f.pager = false := by rfl) :
    Pages kinds p q := of_same (w.moves.touches.pager free)

theorem foldl {α : Type} (step : Part → α → Part) (each : ∀ q a, Pages kinds q (step q a)) (items : List α) (p : Part) :
    Pages kinds p (items.foldl step p) := by
  induction items generalizing p with
  | nil => exact refl _ _
  | cons a rest ih => exact (each p a).trans (ih _)

theorem raise (p : Part) (slot : Fin 87) (param : Half) (kind : slotKind slot ∈ kinds) :
    Pages kinds p (p.raise slot param) := by
  refine ⟨fun S slots _ h => ?_, fun busy off => ?_⟩
  · rw [Part.raise_desk]
    exact Desk.Clears.raise slots p.uptime h slot param
  · rw [Part.raise_desk]
    exact p.desk.raise_quiet p.uptime busy (off _ kind) param

theorem ret (p : Part) (slot : Fin 87) : Pages kinds p (p.ret slot) := of_same (by simp)

theorem ready (p : Part) (w : Fin 12) (param : Half) (kind : 14 ∈ kinds) :
    Pages kinds p (p.trigger (.wave w) param) := by
  refine ⟨fun S slots waves h => ?_, fun busy off => ?_⟩
  · rw [Part.trigger_desk]
    exact Desk.Clears.trigger slots p.uptime h (waves w) param
  · rw [Part.trigger_desk]
    exact p.desk.trigger_quiet p.uptime busy rfl (off _ kind) param

end Pages

/-! ## The loops' requests: OVERTEMP -/

section Loops

variable (p : Part) (n : Fin 16)

theorem slotKind_overtemp : slotKind (overtempSlot n) = 1 := by
  revert n
  decide

theorem Part.setLoop_pages (l : Loop) : Pages [1] p (p.setLoop n l) := .of_works (Part.setLoop_works p [] n l)

theorem Part.loopCycle_pages : Pages [1] p (p.loopCycle n) := by
  have stored := p.setLoop_pages n ((p.loops.get n).cycle (p.reading (loopChannel n)))
  unfold Part.loopCycle
  dsimp only
  split
  · split
    · exact stored.trans (Pages.raise _ _ _ (by simp [slotKind_overtemp]))
    · exact stored
  · split
    · exact stored.trans (Pages.ret _ _)
    · exact stored

theorem Part.ownerAuto_pages : Pages [1] p (p.ownerAuto n) := by
  unfold Part.ownerAuto
  dsimp only
  split
  · exact Pages.refl _ _
  · exact Pages.refl _ _
  · split
    · split
      · exact (p.setLoop_pages n _).trans (Part.loopCycle_pages _ n)
      · exact (p.setLoop_pages n _).trans (Part.loopCycle_pages _ n)
    all_goals exact p.setLoop_pages n _

theorem Part.releaseLoop_pages : Pages [1] p (p.releaseLoop n) := by
  unfold Part.releaseLoop
  dsimp only
  split
  · exact Pages.refl _ _
  · split
    · exact (p.setLoop_pages n _).trans (Part.loopCycle_pages _ n)
    all_goals exact p.setLoop_pages n _

end Loops

/-! ## Judgements: PLATES_SHORT, WAVE_LATE, WAVE_READY -/

section Notices

variable (p : Part)

theorem Part.setWave_pages (w : Fin 12) (v : Option Wave) : Pages [7, 8, 14] p (p.setWave w v) :=
  .of_works (Part.setWave_works p [] w v)

theorem Part.plateCheck_pages (w : Fin 12) : Pages [7, 8, 14] p (p.plateCheck w) := by
  unfold Part.plateCheck Part.onWave
  split
  · dsimp only
    split
    · split
      · exact (p.setWave_pages w _).trans (Pages.ret _ _)
      · exact Pages.refl _ _
    · split
      · exact (p.setWave_pages w _).trans (Pages.raise _ _ _ (by simp [slotKind_platesShort]))
      · exact Pages.refl _ _
  · exact Pages.refl _ _

theorem Part.enterReady_pages (w : Fin 12) (v : Wave) : Pages [7, 8, 14] p (p.enterReady w v) := by
  unfold Part.enterReady
  dsimp only
  split
  · exact ((p.setWave_pages w _).trans (Pages.ret _ _)).trans (Pages.ready _ _ _ (by simp))
  · exact (p.setWave_pages w _).trans (Pages.ready _ _ _ (by simp))

theorem Part.enterLate_pages (w : Fin 12) (v : Wave) : Pages [7, 8, 14] p (p.enterLate w v) :=
  (p.setWave_pages w _).trans (Pages.raise _ _ _ (by simp [slotKind_waveLate]))

theorem Part.judgeWave_pages (w : Fin 12) {v : Wave} (held : p.waves.get w = some v)
    (judged : v.state = .preparing ∨ v.state = .late ∨ v.state = .ready ∨ v.state = .serving) :
    Pages [7, 8, 14] p (p.judgeWave w) := by
  have checked := p.plateCheck_pages w
  by_cases standing : v.state = .ready ∨ v.state = .serving
  · rw [p.judgeWave_standing w held standing]
    exact checked
  · rw [p.judgeWave_awaiting w held (by
      rcases judged with h | h | h
      · exact .inl h
      · exact .inr h
      · exact absurd h standing)]
    split
    · exact checked.trans (Part.enterReady_pages _ w _)
    · split
      · exact checked.trans (Part.enterLate_pages _ w _)
      · exact checked

theorem Part.ovenNotice_pages (oven : Fin 6) : Pages [7, 8, 14] p (p.ovenNotice oven) := by
  refine Pages.foldl (fun q w => Part.ovenNoticeAt oven w q) (fun q w => ?_) _ p
  cases held : q.waves.get w with
  | none => exact Pages.of_same (by simp only [Part.ovenNoticeAt, Part.onWave, held])
  | some v =>
    rw [Part.ovenNoticeAt, q.onWave_held w held]
    split
    · split
      · next preparing _ => exact q.judgeWave_pages w held (.inl preparing)
      · exact Pages.refl _ _
    · split
      · next late _ => exact q.judgeWave_pages w held (.inr (.inl late))
      · exact Pages.refl _ _
    all_goals exact Pages.refl _ _

theorem Part.plateNotice_pages (kind : Fin 4) : Pages [7, 8, 14] p (p.plateNotice kind) := by
  refine Pages.foldl (fun q w => Part.plateNoticeAt kind w q) (fun q w => ?_) _ p
  cases held : q.waves.get w with
  | none => exact Pages.of_same (by simp only [Part.plateNoticeAt, Part.onWave, held])
  | some v =>
    rw [Part.plateNoticeAt, q.onWave_held w held]
    split
    · split
      · next preparing _ => exact q.judgeWave_pages w held (.inl preparing)
      · exact Pages.refl _ _
    · split
      · next late _ => exact q.judgeWave_pages w held (.inr (.inl late))
      · exact Pages.refl _ _
    · split
      · next ready _ => exact q.judgeWave_pages w held (.inr (.inr (.inl ready)))
      · exact Pages.refl _ _
    · split
      · next serving _ => exact q.judgeWave_pages w held (.inr (.inr (.inr serving)))
      · exact Pages.refl _ _
    all_goals exact Pages.refl _ _

end Notices

/-! ## A change of an oven's state -/

/-- What the cancel notice and the state notice of an oven come to in the page queue (R75, R172). -/
structure OvenPaged (n : Fin 6) (done : Bool) (p q : Part) : Prop where
  clears : ∀ S : Source → Prop, (∀ i, ¬ S (.slot i)) → (∀ w, ¬ S (.wave w)) → p.desk.Clears S →
    q.desk.Clears fun σ => S σ ∨ done = true ∧ σ = .oven n
  busy : p.desk.pager.port ≠ .idle → (∀ k ∈ [7, 8, 14], (p.desk.pager.routes.get k).enabled = false) →
    q.desk.pager.port ≠ .idle
  cancels : p.desk.pager.port ≠ .idle → (∀ k ∈ [7, 8, 14], (p.desk.pager.routes.get k).enabled = false) →
    done = true → noticeCancels p.uptime (.oven n) p.desk.pager q.desk.pager
  quiet : p.desk.pager.port ≠ .idle → (∀ k ∈ [7, 8, 14], (p.desk.pager.routes.get k).enabled = false) →
    done = false → q.desk.pager = p.desk.pager

theorem OvenPaged.not_done {p r : Part} (n : Fin 6) (pages : Pages [7, 8, 14] p r) : OvenPaged n false p r := by
  refine ⟨fun S slots waves h => ?_, fun busy off => ?_, fun _ _ h => absurd h (by simp), fun busy off _ => ?_⟩
  · have kept := pages.clears S slots waves h
    exact QueueCleared.widen_to kept fun page mem listed => kept.pages page mem (listed.resolve_right (by simp))
  · rw [pages.quiet busy off]
    exact busy
  · exact pages.quiet busy off

theorem OvenPaged.done {p r : Part} (n : Fin 6) (pages : Pages [7, 8, 14] (p.cancelNotice (.oven n)) r) :
    OvenPaged n true p r := by
  have routes := (p.cancelNotice_works [] (.oven n)).desk.routes
  have port (busy : p.desk.pager.port ≠ .idle) : (p.cancelNotice (.oven n)).desk.pager.port ≠ .idle := by
    rw [Part.cancelNotice_desk, Desk.cancelNotice_port _ _ _ busy]
    exact busy
  refine ⟨fun S slots waves h => ?_, fun busy off => ?_, fun busy off _ => ?_, fun _ _ h => absurd h (by simp)⟩
  · have cancelled := Desk.Clears.cancelNotice slots p.uptime h (.oven n) (by simp) (by simp)
    rw [← Part.cancelNotice_desk] at cancelled
    have kept := pages.clears _ (fun i => by simpa using slots i) (fun w => by simpa using waves w) cancelled
    simpa using kept
  · rw [pages.quiet (port busy) (routes ▸ off)]
    exact port busy
  · rw [pages.quiet (port busy) (routes ▸ off), Part.cancelNotice_desk]
    exact Desk.cancelNotice_cancels _ _ _ busy

theorem Part.ovenChanged_paged (p : Part) (n : Fin 6) (before : Oven) :
    OvenPaged n before.isDone p (p.ovenChanged n before) := by
  unfold Part.ovenChanged
  cases before.isDone with
  | false => exact .not_done n (Part.ovenNotice_pages _ n)
  | true => exact .done n (Part.ovenNotice_pages _ n)

end Sys2Proof.Machine
end

section
/-!
Chapter 4: STORE PROGRAM and START PROGRAM (R62, R63, R65, R66, R75).
-/

namespace Sys2Proof.Machine

/-! ## STORE PROGRAM (R62, R63) -/

/-- A step as it is stored: a TIMED step without a core target (R194). -/
def storedStep (w : WireStep) : Step :=
  if w.kind.toNat = 0 then .timed w.setpoint.toNat w.duration.toNat
  else .core w.setpoint.toNat w.duration.toNat w.coreTarget.toNat

theorem stepOf_eq_some {w : WireStep} (inRange : stepInRange w) : stepOf w = some (storedStep w) := by
  obtain ⟨setpoint, duration, kinds⟩ := inRange
  unfold stepOf storedStep
  rw [if_neg (by omega)]
  rcases kinds with ⟨timed, least⟩ | ⟨core, least, target⟩
  · have kind : w.kind = 0 := BitVec.eq_of_toNat_eq timed
    rw [if_pos kind, if_pos timed, if_pos ((within_iff _ _ _).mpr ⟨least, duration⟩)]
  · have kind : w.kind = 1 := BitVec.eq_of_toNat_eq core
    have ranges : (within 60 14400 w.duration.toNat && decide (w.coreTarget.toNat ≤ 4000)) = true := by
      rw [Bool.and_eq_true, within_iff, decide_eq_true_eq]
      exact ⟨⟨least, duration⟩, target⟩
    rw [if_neg (by simp [kind]), if_pos kind, if_pos ranges, if_neg (by omega)]

theorem stepOf_eq_none {w : WireStep} (out : ¬ stepInRange w) : stepOf w = none := by
  unfold stepInRange at out
  unfold stepOf
  split
  · rfl
  · split
    · next kind =>
      have timed : w.kind.toNat = 0 := by rw [kind]; rfl
      rw [if_neg]
      rw [within_iff]
      omega
    · split
      · next kind =>
        have core : w.kind.toNat = 1 := by rw [kind]; rfl
        rw [if_neg]
        rw [Bool.and_eq_true, within_iff, decide_eq_true_eq]
        omega
      · rfl

theorem stepsOf_eq_some {steps : List WireStep} (inRange : ∀ w ∈ steps, stepInRange w) :
    stepsOf steps = some (steps.map storedStep) := by
  induction steps with
  | nil => rfl
  | cons w rest ih =>
    rw [stepsOf, stepOf_eq_some (inRange w List.mem_cons_self), ih fun x mem => inRange x (List.mem_cons_of_mem w mem)]
    rfl

theorem stepsOf_eq_none {steps : List WireStep} (out : ¬ ∀ w ∈ steps, stepInRange w) : stepsOf steps = none := by
  induction steps with
  | nil => exact absurd (by simp) out
  | cons w rest ih =>
    rw [stepsOf]
    by_cases first : stepInRange w
    · rw [stepOf_eq_some first, ih fun all => out fun x mem => by
        rcases List.mem_cons.mp mem with is | mem
        · exact is ▸ first
        · exact all x mem]
    · rw [stepOf_eq_none first]

/-- The record that a STORE PROGRAM carries. -/
def storedProgram (hold band : Half) (steps : List WireStep) : Program :=
  { steps := steps.map storedStep, hold := hold.toNat, band := band.toNat }

/-- The ranges of section 4.2. -/
def ProgramInRange (stepCount : Byte) (hold band : Half) (steps : List WireStep) : Prop :=
  stepCount.toNat ≤ 8 ∧ steps.length = stepCount.toNat ∧ (∀ w ∈ steps, stepInRange w) ∧ hold.toNat ≤ 4000 ∧
    band.toNat ≤ 500

section Store

variable {stepCount : Byte} {hold band : Half} {steps : List WireStep}

theorem programOf_eq_some (inRange : ProgramInRange stepCount hold band steps) :
    programOf stepCount hold band steps = some (storedProgram hold band steps) := by
  obtain ⟨count, length, each, holds, bands⟩ := inRange
  unfold programOf
  rw [if_pos (by simp [count, length, holds, bands]), stepsOf_eq_some each]
  rfl

theorem programOf_eq_none (out : ¬ ProgramInRange stepCount hold band steps) :
    programOf stepCount hold band steps = none := by
  unfold programOf
  split
  · next fields =>
    simp only [Bool.and_eq_true, decide_eq_true_eq] at fields
    obtain ⟨⟨⟨count, length⟩, holds⟩, bands⟩ := fields
    rw [stepsOf_eq_none fun each => out ⟨count, length, each, holds, bands⟩]
  · rfl

theorem Oven.runs_iff (g : Fin 16) (o : Oven) :
    o.runs g = true ↔ o.program.val = g.val ∧ o.state ≠ .idle ∧ o.state ≠ .finished := by
  rw [Oven.runs, Bool.and_eq_true, decide_eq_true_eq, Fin.ext_iff]
  refine and_congr_right fun _ => ?_
  cases o.state <;> simp

variable (p : Part) {program : Byte} (inTable : program.toNat < 16)

theorem storeProgram_outOfRange (out : 16 ≤ program.toNat ∨ ¬ ProgramInRange stepCount hold band steps) :
    storeProgram program stepCount hold band steps p = (p, { status := .range }) := by
  unfold storeProgram
  by_cases inTable : program.toNat < 16
  · rw [programOf_eq_none (out.resolve_left (by omega))]
    cases index 16 program <;> rfl
  · rw [index_of_le (by omega)]

variable (inRange : ProgramInRange stepCount hold band steps)
include inRange

theorem storeProgram_busy {n : Fin 6} (runs : (p.ovens.get n).runs ⟨program.toNat, inTable⟩ = true) :
    storeProgram program stepCount hold band steps p = (p, { status := .busy }) := by
  unfold storeProgram
  rw [index_of_lt inTable, programOf_eq_some inRange]
  exact if_pos (Part.running_pos n runs)

theorem storeProgram_taken (unused : ∀ n, ¬ (p.ovens.get n).runs ⟨program.toNat, inTable⟩ = true) :
    storeProgram program stepCount hold band steps p =
      (({ p with programs := p.programs.set ⟨program.toNat, inTable⟩ (storedProgram hold band steps) } : Part).mark
        .program program.toNat, { status := .ok }) := by
  have none : p.running ⟨program.toNat, inTable⟩ = 0 := by
    rw [Part.running_eq, List.length_eq_zero_iff, List.filter_eq_nil_iff]
    exact fun n _ => unused n
  unfold storeProgram
  rw [index_of_lt inTable, programOf_eq_some inRange]
  dsimp only
  rw [if_neg (by omega)]

end Store

theorem Part.setPrograms_works (p : Part) (programs : Table Program 16) :
    Works { programs := true } [] p { p with programs } :=
  Works.ofTouches [] (by constructor <;> simp) rfl

/-! ## START PROGRAM (R65, R66) -/

/-- A START PROGRAM's work on the oven and its loop, ahead of the notices. -/
def Part.ovenStarting (n : Fin 6) (g : Fin 16) (first : Step) (p : Part) : Part :=
  let o := { p.ovens.get n with program := g, step := 1, elapsed := 0, stepEnd := .none, start := p.uptime }
  let asked := (p.setOven n o).requestSetpoint (ovenLoop n) first.setpoint
  let inhibited := if o.doorOpen then asked.inhibitLoop (ovenLoop n) else asked
  (inhibited.ownerAuto (ovenLoop n)).setOven n { o with state := .preheating }

theorem overtempSlot_not_wave (n : Fin 16) : overtempSlot n ∉ waveSlots := by
  revert n
  decide

section Changed

variable (p : Part) (n : Fin 6) (before : Oven)

theorem Part.ovenChanged_ahead : Works deskFoot [] p (if before.isDone then p.cancelNotice (.oven n) else p) := by
  split
  · exact Part.cancelNotice_works p _ _
  · exact Works.refl _ _ _

theorem Part.ovenChanged_noticed (w : Fin 12) :
    noticedAt (awaits n) (ofPart p) (ofPart (p.ovenChanged n before)) w := by
  have ahead := p.ovenChanged_ahead n before
  have noticed := (if before.isDone then p.cancelNotice (.oven n) else p).ovenNotice_noticed n
  exact noticed.noticedAt (.of_works ahead) (ahead.moves.touches.uptime rfl) (fun _ => ⟨rfl, rfl, rfl⟩) ⟨rfl, rfl, rfl⟩
    (fun _ => Iff.rfl) w

theorem Part.ovenChanged_table : NoticedTable p (p.ovenChanged n before) := by
  have ahead := p.ovenChanged_ahead n before
  have noticed := (if before.isDone then p.cancelNotice (.oven n) else p).ovenNotice_noticed n
  exact noticed.between_table (ahead.moves.touches.waves rfl) rfl

end Changed

section Start

variable (p : Part) (n : Fin 6) (g : Fin 16) (first : Step)

theorem Part.startOven_eq : p.startOven n g first = (p.ovenStarting n g first).ovenChanged n (p.ovens.get n) := rfl

/-- The loop's record when a start asks it for AUTO. -/
def Loop.startAsked (sp : Int) (doorOpen : Bool) (l : Loop) : Loop :=
  if doorOpen then (l.asked sp).inhibited else l.asked sp

theorem Loop.startAsked_eq (sp : Int) (doorOpen : Bool) (l : Loop) : l.startAsked sp doorOpen = { l with
    sp := clamp 0 l.cfg.maxSetpoint sp, inhibit := l.inhibit || doorOpen
    demand := if doorOpen = true ∧ l.inhibit = false ∧ l.chFault = false then 0 else l.demand } := by
  unfold Loop.startAsked Loop.inhibited
  cases doorOpen with
  | false => simp [Loop.asked, LoopConfig.takenSetpoint]
  | true =>
    cases inhibit : l.inhibit <;> cases fault : l.chFault <;>
      simp [Loop.asked, LoopConfig.takenSetpoint, inhibit, fault]

/-- The requests ahead of AUTO. -/
theorem Part.ovenStarting_asked : ∃ q : Part, Works { ovens := true, loops := true } [] p q ∧
    q.loops.get (ovenLoop n) = (p.loops.get (ovenLoop n)).startAsked first.setpoint (p.ovens.get n).doorOpen ∧
    Pages [1] p q ∧ ∃ o, p.ovenStarting n g first = (q.ownerAuto (ovenLoop n)).setOven n o := by
  let o := { p.ovens.get n with program := g, step := 1, elapsed := 0, stepEnd := .none, start := p.uptime }
  have asked : Works { ovens := true, loops := true } [] p
      ((p.setOven n o).requestSetpoint (ovenLoop n) first.setpoint) :=
    (Part.setOven_works p _ _ _).widen.trans (Part.requestSetpoint_works _ _ _ _).widen
  have loops : ((p.setOven n o).requestSetpoint (ovenLoop n) first.setpoint).loops.get (ovenLoop n) =
      (p.loops.get (ovenLoop n)).asked first.setpoint := by
    rw [Part.requestSetpoint_loops, Table.get_set_self, Part.setOven_loops]
  unfold Part.ovenStarting Loop.startAsked
  dsimp only
  split
  · have works := asked.trans (Part.inhibitLoop_works _ [] (ovenLoop n)).widen
    refine ⟨_, works, ?_, .of_works works, _, rfl⟩
    rw [Part.inhibitLoop_loops, Table.get_set_self]
    exact congrArg Loop.inhibited loops
  · exact ⟨_, asked, loops, .of_works asked, _, rfl⟩

theorem Part.ovenStarting_carried : LoopCarried (ovenLoop n)
    ((p.loops.get (ovenLoop n)).startAsked first.setpoint (p.ovens.get n).doorOpen)
    (((p.loops.get (ovenLoop n)).startAsked first.setpoint (p.ovens.get n).doorOpen).autoAsked
      (p.reading (loopChannel (ovenLoop n)))) p (p.ovenStarting n g first) := by
  obtain ⟨q, works, loop, -, o, starting⟩ := p.ovenStarting_asked n g first
  have carried := q.ownerAuto_carried (ovenLoop n)
  rw [loop, works.reading] at carried
  rw [starting]
  exact (carried.of_work works (by simp)).then_work (Part.setOven_works _ [] n o) (by rw [Part.setOven_loops]) (by simp)

theorem Part.ovenStarting_pages : Pages [1] p (p.ovenStarting n g first) := by
  obtain ⟨q, -, -, pages, o, starting⟩ := p.ovenStarting_asked n g first
  rw [starting]
  exact (pages.trans (q.ownerAuto_pages _)).trans (.of_works (Part.setOven_works _ [] n o))

theorem Part.ovenStarting_works :
    Works { ovens := true, loops := true, conds := true, pager := true } [overtempSlot (ovenLoop n)] p
      (p.ovenStarting n g first) := by
  obtain ⟨q, works, -, -, o, starting⟩ := p.ovenStarting_asked n g first
  rw [starting]
  exact ((works.mono rfl (List.nil_subset _)).trans (Part.ownerAuto_works q _).widen).trans
    (Part.setOven_works _ _ n o).widen

/-- The loop and its slot, the notices included. -/
theorem Part.startOven_carried : LoopCarried (ovenLoop n)
    ((p.loops.get (ovenLoop n)).startAsked first.setpoint (p.ovens.get n).doorOpen)
    (((p.loops.get (ovenLoop n)).startAsked first.setpoint (p.ovens.get n).doorOpen).autoAsked
      (p.reading (loopChannel (ovenLoop n)))) p (p.startOven n g first) := by
  have notices := (p.ovenStarting n g first).ovenChanged_works n (p.ovens.get n)
  rw [Part.startOven_eq]
  exact (p.ovenStarting_carried n g first).then_work notices (by rw [notices.moves.touches.loops rfl])
    (overtempSlot_not_wave _)

theorem Part.startOven_noticed (w : Fin 12) : noticedAt (awaits n) (ofPart p) (ofPart (p.startOven n g first)) w := by
  have starting := p.ovenStarting_works n g first
  have noticed := (p.ovenStarting n g first).ovenChanged_noticed n (p.ovens.get n) w
  rw [Part.startOven_eq]
  generalize Part.ovenChanged n _ _ = r at *
  have before : WaveKept w p (p.ovenStarting n g first) := .of_works starting rfl (fun i mem => by
    rw [List.mem_singleton.mp mem]
    exact overtempSlot_not_wave _) w
  exact noticedAt_between noticed before (starting.moves.touches.uptime rfl) ⟨rfl, rfl, rfl⟩ ⟨rfl, rfl, rfl⟩
    fun _ _ => Iff.rfl

theorem Part.startOven_table : NoticedTable p (p.startOven n g first) := by
  have table := (p.ovenStarting n g first).ovenChanged_table n (p.ovens.get n)
  rw [← Part.startOven_eq] at table
  have waves := (p.ovenStarting_works n g first).moves.touches.waves rfl
  exact ⟨fun w none => table.absent w (by rwa [waves]), fun w v stands => table.record w v (by rwa [waves])⟩

/-- A run that starts from FINISHED leaves no page of the oven but one to be CANCELLED (R172). -/
theorem Part.startOven_noPage (finished : (p.ovens.get n).state = .finished) (kept : PagesKept p.desk.pager) :
    noPageBut (.oven n) (p.startOven n g first).desk.pager := by
  have started := (p.ovenStarting_pages n g first).clears _ (by simp) (by simp) kept.cleared
  have paged := (p.ovenStarting n g first).ovenChanged_paged n (p.ovens.get n)
  rw [← Part.startOven_eq] at paged
  exact (paged.clears _ (by simp) (by simp) started).noPageBut (.inr ⟨by simp [Oven.isDone, finished], rfl⟩)

/-- The pages of a run's start while the port is busy and no wave or OVERTEMP page can come. -/
theorem Part.startOven_pages (busy : p.desk.pager.port ≠ .idle)
    (off : ∀ k, k = 1 ∨ k = 7 ∨ k = 8 ∨ k = 14 → (p.desk.pager.routes.get k).enabled = false) :
    ((p.ovens.get n).state = .finished →
      noticeCancels p.uptime (.oven n) p.desk.pager (p.startOven n g first).desk.pager) ∧
    ((p.ovens.get n).state = .idle → (p.startOven n g first).desk.pager = p.desk.pager) := by
  have same := (p.ovenStarting_pages n g first).quiet busy (by simpa using off 1 (.inl rfl))
  have time := (p.ovenStarting_works n g first).moves.touches.uptime rfl
  have paged := (p.ovenStarting n g first).ovenChanged_paged n (p.ovens.get n)
  rw [← Part.startOven_eq] at paged
  have off' : ∀ k ∈ [7, 8, 14], (p.desk.pager.routes.get k).enabled = false := fun k mem => off k (by
    simp only [List.mem_cons, List.not_mem_nil, or_false] at mem
    exact .inr mem)
  have cancels := paged.cancels
  have quiet := paged.quiet
  rw [same, time] at cancels
  rw [same] at quiet
  exact ⟨fun finished => cancels busy off' (by simp [Oven.isDone, finished]),
    fun idle => quiet busy off' (by simp [Oven.isDone, idle])⟩

end Start

/-! ### The checks (R65) -/

section Checks

variable (p : Part) {oven program : Byte}

theorem startProgram_outOfRange (out : 6 ≤ oven.toNat ∨ 16 ≤ program.toNat) :
    startProgram oven program p = (p, { status := .range }) := by
  unfold startProgram
  rcases out with ovenOut | programOut
  · rw [index_of_le ovenOut]
  · rw [index_of_le programOut]
    cases index 6 oven <;> rfl

variable (ovenIn : oven.toNat < 6) (programIn : program.toNat < 16)

include programIn in
theorem startProgram_busy (running : (p.ovens.get ⟨oven.toNat, ovenIn⟩).state ≠ .idle)
    (unfinished : (p.ovens.get ⟨oven.toNat, ovenIn⟩).state ≠ .finished) :
    startProgram oven program p = (p, { status := .busy }) := by
  unfold startProgram
  rw [index_of_lt ovenIn, index_of_lt programIn]
  dsimp only
  split
  iterate 4 rfl
  · next idle => exact absurd idle running
  · next finished => exact absurd finished unfinished

variable (resting : (p.ovens.get ⟨oven.toNat, ovenIn⟩).state = .idle ∨
  (p.ovens.get ⟨oven.toNat, ovenIn⟩).state = .finished)
include resting

theorem startProgram_empty (empty : (p.programs.get ⟨program.toNat, programIn⟩).steps = []) :
    startProgram oven program p = (p, { status := .empty }) := by
  unfold startProgram
  rw [index_of_lt ovenIn, index_of_lt programIn]
  rcases resting with idle | finished
  · simp only [idle, empty]
  · simp only [finished, empty]

/-- The slots of the cavity's probe and of OVERTEMP refuse a start (R65). -/
def Part.startGated (n : Fin 6) (p : Part) : Bool :=
  p.isPending (probeSlot (cavityChannel n)) || p.isPending (overtempSlot (ovenLoop n))

variable {first : Step} {rest : List Step}
  (stepped : (p.programs.get ⟨program.toNat, programIn⟩).steps = first :: rest)
include stepped

/-- The state and the program pass: the slots and the trip state decide. -/
theorem startProgram_ready : startProgram oven program p =
    if p.startGated ⟨oven.toNat, ovenIn⟩ then (p, { status := .faultPending })
    else if p.interlock.trip then (p, { status := .tripped })
    else (p.startOven ⟨oven.toNat, ovenIn⟩ ⟨program.toNat, programIn⟩ first, { status := .ok }) := by
  unfold startProgram
  rw [index_of_lt ovenIn, index_of_lt programIn]
  rcases resting with idle | finished
  · simp only [idle, stepped]
    rfl
  · simp only [finished, stepped]
    rfl

end Checks

/-- What START PROGRAM leaves of the ovens: its own takes the program. -/
theorem Part.startOven_oven (p : Part) (n : Fin 6) (g : Fin 16) (first : Step) (m : Fin 6) :
    (p.startOven n g first).ovens.get m = if m = n then { p.ovens.get n with
      program := g, step := 1, elapsed := 0, stepEnd := .none, start := p.uptime, state := .preheating }
    else p.ovens.get m := by
  rw [Part.startOven_ovens, Table.get_set]

/-- Settles O26: the program stored and the oven started, with its loop, the notices and the cancelled page. -/
theorem programsAreStoredAndStarted : Obligations.ProgramsAreStoredAndStarted := by
  refine ⟨?store, ?start⟩
  case store =>
    intro s tag program stepCount hold band steps c inRange runs stored
    refine ⟨?_, ?_, ?_⟩
    · intro inTable within unused
      have taken := storeProgram_taken s.part inTable (hold := hold) (band := band) (steps := steps) within
        fun n isRunning => unused n ((Oven.runs_iff _ _).mp isRunning)
      have works := (s.part.setPrograms_works (s.part.programs.set ⟨program.toNat, inTable⟩
        (storedProgram hold band steps))).trans (Works.mark _ _ .program program.toNat rfl)
      refine ⟨_, rfl, ?_⟩
      rw [taken]
      refine ⟨works.answered_part 0x40 tag { status := .ok }, fun m other => ?_, ?_, ?_⟩
      · exact Table.get_set_ne _ _ other
      · exact Table.get_set_self _ _ _
      · rw [State.answer_changeSet]
        exact Link.mem_mark_changeSet _ _ _
    · intro inTable within isRun
      obtain ⟨n, isRunning⟩ := isRun
      simp only [c, exec, execStoreProgram,
        storeProgram_busy s.part inTable (hold := hold) (band := band) within ((Oven.runs_iff _ _).mpr isRunning)]
    · intro out
      simp only [c, exec, execStoreProgram, storeProgram_outOfRange s.part (hold := hold) (band := band) out]
  case start =>
    intro s tag oven program c refused
    refine ⟨?_, ?_⟩
    · intro out
      simp only [refused, c, exec, execStartProgram, startProgram_outOfRange s.part out]
    intro ovenIn programIn n o l steps gated
    refine ⟨fun running unfinished => ?_, fun resting => ⟨fun empty => ?_, fun some isGated => ?_,
      fun some free trip => ?_, ?_⟩⟩
    · simp only [refused, c, exec, execStartProgram, startProgram_busy s.part ovenIn programIn running unfinished]
    · simp only [refused, c, exec, execStartProgram, startProgram_empty s.part ovenIn programIn resting empty]
    · obtain ⟨first, rest, stepped⟩ := List.exists_cons_of_ne_nil some
      have ready := startProgram_ready s.part ovenIn programIn resting stepped
      rw [if_pos (show s.part.startGated n = true from isGated)] at ready
      simp only [refused, c, exec, execStartProgram, ready]
    · obtain ⟨first, rest, stepped⟩ := List.exists_cons_of_ne_nil some
      have ready := startProgram_ready s.part ovenIn programIn resting stepped
      rw [if_neg (show ¬ s.part.startGated n = true from by rw [show s.part.startGated n = false from free]; simp),
        if_pos trip] at ready
      simp only [refused, c, exec, execStartProgram, ready]
    intro first rest stepped free clear
    have ready := startProgram_ready s.part ovenIn programIn resting stepped
    rw [if_neg (show ¬ s.part.startGated n = true from by rw [show s.part.startGated n = false from free]; simp),
      if_neg (by simp [clear])] at ready
    have works := s.part.startOven_works n ⟨program.toNat, programIn⟩ first
    have ovens := s.part.startOven_oven n ⟨program.toNat, programIn⟩ first
    have loops := s.part.startOven_loops n ⟨program.toNat, programIn⟩ first
    have carried := s.part.startOven_carried n ⟨program.toNat, programIn⟩ first
    have noticed := s.part.startOven_noticed n ⟨program.toNat, programIn⟩ first
    have table := s.part.startOven_table n ⟨program.toNat, programIn⟩ first
    have noPage := s.part.startOven_noPage n ⟨program.toNat, programIn⟩ first
    have pages := s.part.startOven_pages n ⟨program.toNat, programIn⟩ first
    refine ⟨_, rfl, ?_⟩
    rw [ready]
    rw [← Loop.startAsked_eq first.setpoint o.doorOpen l]
    generalize s.part.startOven n ⟨program.toNat, programIn⟩ first = q at *
    have loop := carried.loop
    rw [Loop.startAsked_eq] at loop
    refine ⟨works.answered_part 0x42 tag { status := .ok }, noticed_answer table works,
      fun w => noticedAt_answer (noticed w), fun m other => ?_, ?_, fun m other => ?_, ?_, ?_, ?_, ?_, (carried.answer 0x42 tag _).autoStarted, noPage, pages⟩
    · exact (ovens m).trans (if_neg other)
    · exact (ovens n).trans (if_pos rfl)
    · rw [State.answer_loop, loops]
      exact Table.get_set_ne _ _ other
    · rw [State.answer_loop, loop, Loop.autoAsked_sp]
    · rw [State.answer_loop, loop, Loop.autoAsked_base]
    · rw [State.answer_loop, loop, Loop.autoAsked_inhibit]
    · rw [State.answer_loop, loop, Loop.autoAsked_cfg]

end Sys2Proof.Machine
end

section
/-!
Chapter 10: the ovens at trip entry (R77), and what their notices together make of the waves (R141).
-/

namespace Sys2Proof.Machine

/-! ## Notices one after another -/

/-- The state in which a judgement leaves a wave, by its countdown and its readiness (R130). -/
def WaveState.judged (early due ready : Bool) (state : WaveState) : WaveState :=
  if state = .serving then .serving
  else if state = .planned ∧ early = true then .planned
  else if state = .ready then .ready
  else if ready then .ready
  else if state = .late ∨ due = true then .late
  else .preparing

theorem WaveState.judged_idem (early due ready : Bool) (state : WaveState) :
    (state.judged early due ready).judged early due ready = state.judged early due ready := by
  cases state <;> cases early <;> cases due <;> cases ready <;> rfl

theorem judgedOn_state (t : State) (v : Wave) : (judgedOn t v).state =
    v.state.judged (decide (v.lead < v.due)) (decide (v.due = 0)) (waveReadyNow t v.covers v) := by
  simp only [judgedOn, judgedState, WaveState.judged, decide_eq_true_eq]

theorem judgedOn_settled {t : State} {u : Wave} (same : (judgedOn t u).state = u.state)
    (short : u.short = decide (potentialOf t u < u.covers - u.issued)) : judgedOn t u = u := by
  have apart : (decide (u.state = .ready) && decide (u.state = .late)) = false := by cases u.state <;> rfl
  unfold judgedOn at same ⊢
  dsimp only at same ⊢
  rw [same, ← short, if_neg fun h => h.2 h.1, if_neg fun h => h.2 h.1, apart, Bool.or_false]

/-- A judgement repeated on the same records changes nothing more. -/
theorem judgedOn_idem (t : State) (v : Wave) : judgedOn t (judgedOn t v) = judgedOn t v := by
  have again := judgedOn_state t (judgedOn t v)
  rw [judgedOn_state t v] at again
  refine judgedOn_settled ?_ rfl
  rw [again, judgedOn_state t v]
  exact WaveState.judged_idem _ _ _ _

/-- Two sets of records make the same of a wave where they agree on its readiness and on its plates. -/
theorem judgedOn_agree {s t : State} {v : Wave} (ready : waveReadyNow t v.covers v = waveReadyNow s v.covers v)
    (potential : potentialOf t v = potentialOf s v) : judgedOn t v = judgedOn s v := by
  unfold judgedOn judgedState
  rw [ready, potential]

/-- Records that a later notice reads as the earlier one did, for the waves that the earlier one concerned. -/
def RecordsAgree (concerns : Wave → Prop) (p q : Part) : Prop :=
  ∀ v, concerns v → waveReadyNow (ofPart q) v.covers v = waveReadyNow (ofPart p) v.covers v ∧
    potentialOf (ofPart q) v = potentialOf (ofPart p) v

/-- Notices one after another judge a wave once, where the records that they read agree. -/
theorem noticedAt_then {first second : Wave → Prop} {p q r : Part} {w : Fin 12}
    (one : noticedAt first (ofPart p) (ofPart q) w) (two : noticedAt second (ofPart q) (ofPart r) w)
    (time : q.uptime = p.uptime) (agree : RecordsAgree first q r) :
    noticedAt (fun v => first v ∨ second v) (ofPart p) (ofPart r) w := by
  intro v stands
  obtain ⟨judged, left⟩ := one v stands
  by_cases concerned : first v
  · obtain ⟨ready, potential⟩ := agree v concerned
    have same := judgedOn_agree ready potential
    obtain ⟨wave, short, late⟩ := judged concerned
    dsimp only
    rw [same, potential]
    refine ⟨fun _ => ?_, fun free => absurd (.inl concerned) free⟩
    obtain ⟨judgedAgain, leftAgain⟩ := two _ wave
    by_cases again : second (judgedOn (ofPart q) v)
    · obtain ⟨wave', short', late'⟩ := judgedAgain again
      have idem : judgedOn (ofPart r) (judgedOn (ofPart q) v) = judgedOn (ofPart q) v := by
        rw [← same]
        exact judgedOn_idem _ v
      rw [idem] at wave' short' late'
      refine ⟨wave', ?_, ?_⟩
      · rw [short', ← short]
        exact if_pos rfl
      · rw [late', if_neg fun h => h.2 h.1, if_neg fun h => h.2.1 h.1, ← late]
    · obtain ⟨wave', short', late'⟩ := leftAgain again
      exact ⟨wave', short'.trans short, late'.trans late⟩
  · obtain ⟨wave, short, late⟩ := left concerned
    have both := noticedAt_between two ⟨wave.trans stands.symm, short, late⟩ time ⟨rfl, rfl, rfl⟩ ⟨rfl, rfl, rfl⟩
      (concerns' := fun v => first v ∨ second v) fun u isU => by
        have same : v = u := Option.some.inj (stands.symm.trans isU)
        subst same
        exact ⟨fun h => h.resolve_left concerned, .inr⟩
    exact both v stands

/-! ## One oven at trip entry (R77) -/

/-- An oven's turn at trip entry. -/
def Part.tripOven (n : Fin 6) (p : Part) : Part :=
  if (p.ovens.get n).state = .idle then p else p.endRun n .tripped true

theorem Part.tripOvens_eq (p : Part) : p.tripOvens = (List.finRange 6).foldl (fun q n => q.tripOven n) p := rfl

/-- The record of an oven after its turn. -/
def Oven.cut (o : Oven) : Oven := if o.state = .idle then o else { o with state := .idle, outcome := .tripped }

/-- The record of its loop. -/
def Loop.cut (o : Oven) (l : Loop) : Loop :=
  if o.state = .idle then l else { l.stopped with inhibit := if o.doorOpen then false else l.inhibit }

section Turn

variable (p : Part) (n : Fin 6)

/-- A run cut, ahead of the notices. -/
def Part.runCut : Part :=
  let o := p.ovens.get n
  let off := (p.setOven n { o with state := .idle, outcome := .tripped }).ownerOff (ovenLoop n)
  if o.doorOpen then off.releaseLoop (ovenLoop n) else off

theorem Part.endRun_cut : p.endRun n .tripped true = (p.runCut n).ovenChanged n (p.ovens.get n) := rfl

/-- The release of a loop that is OFF starts no cycle. -/
theorem Part.releaseLoop_off_works (q : Part) (x : Fin 16) (off : (q.loops.get x).base = .off) :
    Works { loops := true } [] q (q.releaseLoop x) := by
  unfold Part.releaseLoop
  dsimp only
  split
  · exact Works.refl _ _ _
  · split
    · next auto => exact absurd auto (Loop.rests_of_off (l := { q.loops.get x with inhibit := false }) off).1
    all_goals exact Part.setLoop_works _ _ _ _

theorem Part.runCut_works : Works { ovens := true, loops := true } [] p (p.runCut n) := by
  have off : Works { ovens := true, loops := true } [] p
      ((p.setOven n { p.ovens.get n with state := .idle, outcome := .tripped }).ownerOff (ovenLoop n)) :=
    (Part.setOven_works p _ _ _).widen.trans (Part.ownerOff_works _ _ _).widen
  unfold Part.runCut
  dsimp only
  split
  · exact off.trans (Part.releaseLoop_off_works _ _ (by rw [Part.ownerOff_loops, Table.get_set_self]; rfl)).widen
  · exact off

theorem Loop.runEnded_stopped (doorOpen : Bool) (reading : Option Int) (l : Loop) :
    l.runEnded true doorOpen reading = { l.stopped with inhibit := if doorOpen then false else l.inhibit } := by
  unfold Loop.runEnded
  cases doorOpen with
  | false => rfl
  | true =>
    cases set : l.inhibit with
    | false => exact (Loop.released_of_free (l := l.stopped) set).trans (by rw [← set]; rfl)
    | true => exact Loop.released_of_stopped (l := l.stopped) set (.inr rfl)

end Turn

/-- What an oven's turn at trip entry comes to. -/
structure OvenTripped (n : Fin 6) (p q : Part) : Prop where
  works : Works ovenFoot waveSlots p q
  ovens : q.ovens = p.ovens.set n (p.ovens.get n).cut
  loops : q.loops = p.loops.set (ovenLoop n) ((p.loops.get (ovenLoop n)).cut (p.ovens.get n))
  waves : ∀ w, noticedAt (fun v => (p.ovens.get n).state ≠ .idle ∧ awaits n v) (ofPart p) (ofPart q) w
  table : NoticedTable p q
  paged : OvenPaged n (p.ovens.get n).isDone p q

theorem Part.tripOven_tripped (p : Part) (n : Fin 6) : OvenTripped n p (p.tripOven n) := by
  unfold Part.tripOven
  by_cases idle : (p.ovens.get n).state = .idle
  · have notDone : (p.ovens.get n).isDone = false := by simp [Oven.isDone, idle]
    rw [if_pos idle]
    refine ⟨Works.refl _ _ _, ?_, ?_, fun w => noticedAt_none fun v _ h => h.1 idle,
      ⟨fun _ h => h, fun _ v h => ⟨v, h, .refl v, fun _ => rfl⟩⟩, ?_⟩
    · rw [Oven.cut, if_pos idle, Table.set_get_self]
    · rw [Loop.cut, if_pos idle, Table.set_get_self]
    · rw [notDone]
      exact .not_done n (Pages.refl _ _)
  · have cut := p.runCut_works n
    have ovens := p.endRun_ovens n .tripped true
    have loops := p.endRun_loops n .tripped true
    have works := (p.runCut n).ovenChanged_works n (p.ovens.get n)
    have noticed := (p.runCut n).ovenChanged_noticed n (p.ovens.get n)
    have table := (p.runCut n).ovenChanged_table n (p.ovens.get n)
    have paged := (p.runCut n).ovenChanged_paged n (p.ovens.get n)
    rw [← p.endRun_cut n] at works noticed table paged
    rw [if_neg idle]
    generalize p.endRun n .tripped true = q at *
    have uptime : (p.runCut n).uptime = p.uptime := cut.moves.touches.uptime rfl
    have pager : (p.runCut n).desk.pager = p.desk.pager := cut.moves.touches.pager rfl
    have waves : (p.runCut n).waves = p.waves := cut.moves.touches.waves rfl
    refine ⟨(cut.mono rfl (List.nil_subset _)).trans works.widen, ?_, ?_, fun w => ?_, ?_, ?_⟩
    · rw [ovens, Oven.cut, if_neg idle]
    · rw [loops, Loop.cut, if_neg idle, Loop.runEnded_stopped]
    · exact noticedAt_between (noticed w) (.of_works cut rfl (by simp) w) uptime ⟨rfl, rfl, rfl⟩ ⟨rfl, rfl, rfl⟩
        fun v _ => ⟨fun h => h.2, fun h => ⟨idle, h⟩⟩
    · exact ⟨fun w none => table.absent w (by rwa [waves]), fun w v stands => table.record w v (by rwa [waves])⟩
    · obtain ⟨clears, busy, cancels, quiet⟩ := paged
      rw [pager] at busy cancels quiet
      rw [uptime] at cancels
      exact ⟨fun S slots unwaved h => clears S slots unwaved (h.of_queue (by rw [pager])), busy, cancels, quiet⟩

/-! ## The ovens in order -/

theorem noticesCancel_cons {now : Word} {source : Source} {rest : List Source} {g next h : Pager}
    (first : noticeCancels now source g next) (later : noticesCancel now rest next h) :
    noticesCancel now (source :: rest) g h := ⟨next, first, later⟩

/-- What the turns of some ovens come to, one after another. -/
structure OvensTripped (items : List (Fin 6)) (p q : Part) : Prop where
  works : Works ovenFoot waveSlots p q
  oven : ∀ m, q.ovens.get m = if m ∈ items then (p.ovens.get m).cut else p.ovens.get m
  loop : ∀ m, q.loops.get (ovenLoop m) =
    if m ∈ items then (p.loops.get (ovenLoop m)).cut (p.ovens.get m) else p.loops.get (ovenLoop m)
  others : ∀ x, (∀ m, x ≠ ovenLoop m) → q.loops.get x = p.loops.get x
  waves : ∀ w, noticedAt (fun v => ∃ m ∈ items, (p.ovens.get m).state ≠ .idle ∧ awaits m v) (ofPart p) (ofPart q) w
  table : NoticedTable p q
  clears : ∀ S : Source → Prop, (∀ i, ¬ S (.slot i)) → (∀ w, ¬ S (.wave w)) → p.desk.Clears S →
    q.desk.Clears fun σ => S σ ∨ ∃ m ∈ items, (p.ovens.get m).isDone = true ∧ σ = .oven m
  cancels : p.desk.pager.port ≠ .idle → (∀ k, (p.desk.pager.routes.get k).enabled = false) →
    q.desk.pager.port ≠ .idle ∧ noticesCancel p.uptime
      ((items.filter fun m => (p.ovens.get m).isDone).map Source.oven) p.desk.pager q.desk.pager

theorem NoticedTable.trans {p q r : Part} (h : NoticedTable p q) (k : NoticedTable q r) : NoticedTable p r := by
  refine ⟨fun w none => k.absent w (h.absent w none), fun w v stands => ?_⟩
  obtain ⟨u, ends, judges, same⟩ := h.record w v stands
  obtain ⟨u', ends', judges', same'⟩ := k.record w u ends
  refine ⟨u', ends', judges.trans judges', fun out => ?_⟩
  have is := same out
  subst is
  exact same' out

theorem OvensTripped.nil (p : Part) : OvensTripped [] p p := by
  refine ⟨Works.refl _ _ _, fun _ => by simp, fun _ => by simp, fun _ _ => rfl,
    fun w => noticedAt_none fun v _ => by simp, ⟨fun _ h => h, fun _ v h => ⟨v, h, .refl v, fun _ => rfl⟩⟩,
    fun S _ _ h => ?_, fun busy _ => ⟨busy, rfl⟩⟩
  exact QueueCleared.widen_to h fun page mem listed => h.pages page mem (listed.resolve_right (by simp))

theorem Oven.cut_idle (o : Oven) : o.cut.state = .idle := by
  unfold Oven.cut
  split
  · assumption
  · rfl

/-- A wave that awaits an oven in IDLE is not ready (R134). -/
theorem waveReadyNow_of_idle {p : Part} {n : Fin 6} {v : Wave} (awaiting : awaits n v)
    (idle : (p.ovens.get n).state = .idle) : waveReadyNow (ofPart p) v.covers v = false := by
  have notDone : (p.ovens.get n).isDone = false := by simp [Oven.isDone, idle]
  rw [← ready_eq, Part.isReady]
  have some : (v.ovens.all fun m => (p.ovens.get m).isDone) = false :=
    List.all_eq_false.mpr ⟨n, awaiting.1, by simp [notDone]⟩
  rw [some, Bool.false_and]

section Cons

variable {n : Fin 6} {rest : List (Fin 6)} {p q r : Part} (one : OvenTripped n p q) (later : OvensTripped rest q r)
  (new : n ∉ rest)
include one later new

omit later in
/-- The ovens to come stand as they stood. -/
theorem OvenTripped.next {m : Fin 6} (mem : m ∈ rest) : q.ovens.get m = p.ovens.get m := by
  have apart : m ≠ n := fun same => new (same ▸ mem)
  rw [one.ovens, Table.get_set_ne _ _ apart]

theorem OvensTripped.cons_waves (w : Fin 12) :
    noticedAt (fun v => ∃ m ∈ n :: rest, (p.ovens.get m).state ≠ .idle ∧ awaits m v) (ofPart p) (ofPart r) w := by
  have agree : RecordsAgree (fun v => (p.ovens.get n).state ≠ .idle ∧ awaits n v) q r := by
    intro v concerned
    have idle : (q.ovens.get n).state = .idle := by rw [one.ovens, Table.get_set_self, Oven.cut_idle]
    have idle' : (r.ovens.get n).state = .idle := by rw [later.oven n, if_neg new, idle]
    rw [waveReadyNow_of_idle concerned.2 idle, waveReadyNow_of_idle concerned.2 idle']
    have kept := later.works.moves.touches
    exact ⟨rfl, Part.potential_congr (kept.cabinets rfl) (kept.stock rfl) v⟩
  have both := noticedAt_then (one.waves w) (later.waves w) (one.works.moves.touches.uptime rfl) agree
  refine noticedAt_between both ⟨rfl, rfl, rfl⟩ rfl ⟨rfl, rfl, rfl⟩ ⟨rfl, rfl, rfl⟩ fun v _ => ?_
  rw [List.exists_mem_cons_iff]
  refine or_congr_right (exists_congr fun m => and_congr_right fun mem => ?_)
  rw [one.next new mem]

theorem OvensTripped.cons_clears (S : Source → Prop) (slots : ∀ i, ¬ S (.slot i)) (waves : ∀ w, ¬ S (.wave w))
    (h : p.desk.Clears S) :
    r.desk.Clears fun σ => S σ ∨ ∃ m ∈ n :: rest, (p.ovens.get m).isDone = true ∧ σ = .oven m := by
  have both := later.clears _ (fun i => by simpa using slots i) (fun w => by simpa using waves w)
    (one.paged.clears S slots waves h)
  refine QueueCleared.widen_to both fun page mem listed => both.pages page mem ?_
  rcases listed with listed | ⟨m, memM, done, is⟩
  · exact .inl (.inl listed)
  · rcases List.mem_cons.mp memM with same | memRest
    · exact .inl (.inr ⟨same ▸ done, same ▸ is⟩)
    · exact .inr ⟨m, memRest, by rwa [one.next new memRest], is⟩

theorem OvensTripped.cons_cancels (busy : p.desk.pager.port ≠ .idle)
    (off : ∀ k, (p.desk.pager.routes.get k).enabled = false) :
    r.desk.pager.port ≠ .idle ∧ noticesCancel p.uptime
      (((n :: rest).filter fun m => (p.ovens.get m).isDone).map Source.oven) p.desk.pager r.desk.pager := by
  have routes := one.works.desk.routes
  obtain ⟨busyLast, cancels⟩ := later.cancels (one.paged.busy busy fun k _ => off k) (by rwa [routes])
  have same : (rest.filter fun m => (q.ovens.get m).isDone) = rest.filter fun m => (p.ovens.get m).isDone :=
    List.filter_congr fun m mem => by rw [one.next new mem]
  rw [same, one.works.moves.touches.uptime rfl] at cancels
  refine ⟨busyLast, ?_⟩
  cases done : (p.ovens.get n).isDone with
  | true =>
    rw [List.filter_cons_of_pos (by simp [done]), List.map_cons]
    have first := one.paged.cancels busy (fun k _ => off k) done
    exact ⟨_, first, cancels⟩
  | false =>
    rw [List.filter_cons_of_neg (by simp [done])]
    rwa [one.paged.quiet busy (fun k _ => off k) done] at cancels

theorem OvensTripped.cons : OvensTripped (n :: rest) p r := by
  refine ⟨one.works.trans later.works, fun m => ?_, fun m => ?_, fun x apart => ?_,
    OvensTripped.cons_waves one later new, one.table.trans later.table,
    OvensTripped.cons_clears one later new, OvensTripped.cons_cancels one later new⟩
  · rw [later.oven m]
    by_cases same : m = n
    · subst same
      rw [if_neg new, if_pos List.mem_cons_self, one.ovens, Table.get_set_self]
    · simp only [one.ovens, Table.get_set_ne _ _ same, List.mem_cons, same, false_or]
  · rw [later.loop m]
    by_cases same : m = n
    · subst same
      rw [if_neg new, if_pos List.mem_cons_self, one.loops, Table.get_set_self]
    · simp only [one.ovens, one.loops, Table.get_set_ne _ _ same,
        Table.get_set_ne _ _ fun loops => same (ovenLoop_injective loops),
        List.mem_cons, same, false_or]
  · rw [later.others x apart, one.loops, Table.get_set_ne _ _ (apart n)]

end Cons

theorem tripOvens_each (items : List (Fin 6)) (once : items.Nodup) (p : Part) :
    OvensTripped items p (items.foldl (fun q n => q.tripOven n) p) := by
  induction items generalizing p with
  | nil => exact .nil p
  | cons n rest ih =>
    obtain ⟨new, once⟩ := List.nodup_cons.mp once
    exact .cons (p.tripOven_tripped n) (ih once _) new

theorem Part.tripOvens_tripped (p : Part) : OvensTripped (List.finRange 6) p p.tripOvens :=
  p.tripOvens_eq ▸ tripOvens_each _ (List.nodup_finRange 6) p

end Sys2Proof.Machine
end

section
/-!
Chapter 10: the tunnel at trip entry (R121): its racks leave as UNVERIFIED with their plate notices (R102, R141), and it
stops in HELD.
-/

namespace Sys2Proof.Machine

/-! ## A rack that leaves with its notice -/

/-- The plate notice of a rack's plates. -/
def Part.rackNotice (r : Rack) (p : Part) : Part :=
  match r.kind with
  | none => p
  | some k => if r.count = 0 then p else p.plateNotice k

/-- A rack whose plates a notice tells of. -/
def Rack.tells (r : Rack) (v : Wave) : Prop := r.count ≠ 0 ∧ ∃ k, r.kind = some k ∧ ofKind k v

theorem Part.rackExitMove_notice (p : Part) (r : Rack) (outcome : RackOutcome) :
    p.rackExitMove r.kind r.count outcome true = (p.rackExitMove r.kind r.count outcome false).rackNotice r := by
  unfold Part.rackExitMove Part.rackNotice
  cases r.kind with
  | none => rfl
  | some k =>
    dsimp only
    split <;> rfl

section Notice

variable (p : Part) (r : Rack)

theorem Part.rackNotice_noticed : PartNoticed r.tells p (p.rackNotice r) := by
  unfold Part.rackNotice
  split
  · next none => exact .none fun v tells => by simp [Rack.tells, none] at tells
  · next k is =>
    split
    · next empty => exact .none fun v tells => tells.1 empty
    · next some =>
      have noticed := p.plateNotice_noticed k
      refine ⟨noticed.works, noticed.table, fun w => noticedAt_between (noticed.waves w) ⟨rfl, rfl, rfl⟩ rfl
        ⟨rfl, rfl, rfl⟩ ⟨rfl, rfl, rfl⟩ fun v _ => ?_, noticed.busy, noticed.pages⟩
      simp [Rack.tells, some, is]

theorem Part.rackNotice_pages : Pages [7, 8, 14] p (p.rackNotice r) := by
  unfold Part.rackNotice
  split
  · exact Pages.refl _ _
  · split
    · exact Pages.refl _ _
    · exact p.plateNotice_pages _

end Notice

/-! ## One rack removed (R102) -/

section Removal

variable (p : Part) {r : Rack} {rest : List Rack} (queue : p.dish.queue = r :: rest)

/-- The rack in the ring and its plates moved, ahead of the notice. -/
def Part.rackLeft (r : Rack) (rest : List Rack) (p : Part) : Part :=
  (p.setDish (({ p.dish with queue := rest } : Dish).appendRing (r.unverified p.uptime))).rackExitMove r.kind r.count
    .unverified false

include queue in
theorem Part.removeOldest_noticed :
    p.removeOldest .unverified true = ((p.rackLeft r rest).rackNotice r).judgeGate.judgeValve := by
  unfold Part.removeOldest Part.rackLeft
  rw [queue, ← Part.rackExitMove_notice]
  rfl

theorem Part.rackLeft_works : Works { dish := true, stock := true } [] p (p.rackLeft r rest) :=
  (Part.setDish_works p _ _).widen.trans (Part.rackExitMove_unnoticed_works _ _ _ _ _).widen

theorem Part.rackLeft_dish :
    (p.rackLeft r rest).dish = ({ p.dish with queue := rest } : Dish).appendRing (r.unverified p.uptime) := by
  rw [Part.rackLeft, Part.rackExitMove_dish, Part.setDish_dish]

theorem Part.rackLeft_stock (kind : Fin 4) :
    (p.rackLeft r rest).stock.get kind = (p.stock.get kind).soil (r.plates kind) := by
  rw [Part.rackLeft, Part.rackExitMove_stock, Part.setDish_stock]

theorem Part.rackLeft_feeder : (p.rackLeft r rest).feeder = p.feeder := by
  rw [Part.rackLeft, Part.rackExitMove_feeder, Part.setDish_feeder]

/-- The gate and the valve judged, after the notice. -/
theorem Part.rackJudged_works (q : Part) : Works { dish := true, feeder := true } [] q q.judgeGate.judgeValve :=
  (Part.judgeGate_works _ _).widen.trans (Part.judgeValve_works _ _)

theorem Part.rackJudged_body (q : Part) : q.judgeGate.judgeValve.dish.body = q.dish.body := by
  simp [Part.judgeValve, Part.judgeGate, Dish.body]

end Removal

/-! ## Every rack removed -/

/-- What removals come to, for the racks in the queue: the tunnel's record, the plates, the lock, and the notices. -/
structure RacksLeft (p q : Part) : Prop where
  body : q.dish.body =
    (p.dish.queue.map (Rack.unverified p.uptime)).foldl (fun d r => d.appendRing r) { p.dish.body with queue := [] }
  stock : ∀ kind, q.stock.get kind = (p.stock.get kind).soil (p.dish.plates kind)
  valve : ValveMoves p q
  works : Works rackFoot waveSlots p q
  waves : ∀ w, noticedAt (fun v => ∃ r ∈ p.dish.queue, r.tells v) (ofPart p) (ofPart q) w
  table : NoticedTable p q
  pages : Pages [7, 8, 14] p q

/-- What one removal comes to. -/
structure RackLeft (r : Rack) (rest : List Rack) (p q : Part) : Prop where
  body : q.dish.body = ({ p.dish.body with queue := rest } : Dish).appendRing (r.unverified p.uptime)
  stock : ∀ kind, q.stock.get kind = (p.stock.get kind).soil (r.plates kind)
  valve : ValveMoves p q
  works : Works rackFoot waveSlots p q
  waves : ∀ w, noticedAt r.tells (ofPart p) (ofPart q) w
  table : NoticedTable p q
  pages : Pages [7, 8, 14] p q

/-- Plates that leave the tunnel for soiled are none of those that a wave counts on. -/
theorem records_agree_of_soil {concerns : Wave → Prop} {p q : Part} (ovens : q.ovens = p.ovens)
    (cabinets : q.cabinets = p.cabinets) (clean : ∀ kind, (q.stock.get kind).clean = (p.stock.get kind).clean) :
    RecordsAgree concerns p q := by
  intro v _
  refine ⟨?_, ?_⟩
  · rw [← ready_eq, ← ready_eq]
    exact Part.isReady_congr ovens cabinets v
  · change q.potential v = p.potential v
    unfold Part.potential
    rw [cabinets, clean]

theorem Part.removeOldest_left (p : Part) {r : Rack} {rest : List Rack} (queue : p.dish.queue = r :: rest) :
    RackLeft r rest p (p.removeOldest .unverified true) := by
  have left := p.rackLeft_works (r := r) (rest := rest)
  have dish := p.rackLeft_dish (r := r) (rest := rest)
  have stock := p.rackLeft_stock (r := r) (rest := rest)
  have feeder := p.rackLeft_feeder (r := r) (rest := rest)
  have noticed := (p.rackLeft r rest).rackNotice_noticed r
  have pages := (p.rackLeft r rest).rackNotice_pages r
  have judged := ((p.rackLeft r rest).rackNotice r).rackJudged_works
  have judgedBody := ((p.rackLeft r rest).rackNotice r).rackJudged_body
  have valve := (ValveMoves.judgeGate ((p.rackLeft r rest).rackNotice r)).trans (ValveMoves.judgeValve _)
  rw [← p.removeOldest_noticed queue] at judged judgedBody valve
  generalize p.removeOldest .unverified true = q at *
  generalize (p.rackLeft r rest).rackNotice r = q' at *
  generalize p.rackLeft r rest = p' at *
  have kept := noticed.works.moves.touches
  have sameDish : q'.dish = p'.dish := kept.dish rfl
  refine ⟨?_, fun kind => ?_, ?_, ?_, fun w => ?_, ?_, ?_⟩
  · rw [judgedBody, sameDish, dish, Dish.appendRing_body]
    rfl
  · rw [judged.moves.touches.stock rfl, kept.stock rfl, stock kind]
  · refine (ValveMoves.ofSame ?_ ?_).trans valve
    · rw [kept.feeder rfl, feeder]
    · rw [sameDish, dish, Dish.appendRing_valveOpen]
  · exact ((left.mono rfl (List.nil_subset _)).trans noticed.works.widen).trans (judged.mono rfl (List.nil_subset _))
  · exact noticed.noticedAt (.of_works left) (left.moves.touches.uptime rfl) (.of_works judged) (.of_works judged)
      (fun _ => Iff.rfl) w
  · exact noticed.between_table (left.moves.touches.waves rfl) (judged.moves.touches.waves rfl)
  · exact ((Pages.of_works left).trans pages).trans (.of_works judged)

theorem RacksLeft.nil {p : Part} (empty : p.dish.queue = []) : RacksLeft p p := by
  refine ⟨?_, fun kind => ?_, .ofSame rfl rfl, Works.refl _ _ _, fun w => noticedAt_none fun v _ => by simp [empty],
    ⟨fun _ h => h, fun _ v h => ⟨v, h, .refl v, fun _ => rfl⟩⟩, Pages.refl _ _⟩
  · rw [empty]
    change p.dish.body = { p.dish.body with queue := [] }
    rw [← empty]
    rfl
  · simp [Dish.plates, empty, Stock.soil]

theorem RackLeft.queue {r : Rack} {rest : List Rack} {p q : Part} (one : RackLeft r rest p q) : q.dish.queue = rest :=
  (congrArg Dish.queue one.body).trans (Dish.appendRing_queue _ _)

theorem RacksLeft.cons {r : Rack} {rest : List Rack} {p q s : Part} (queue : p.dish.queue = r :: rest)
    (one : RackLeft r rest p q) (later : RacksLeft q s) : RacksLeft p s := by
  have uptime : q.uptime = p.uptime := one.works.moves.touches.uptime rfl
  have kept := later.works.moves.touches
  refine ⟨?_, fun kind => ?_, one.valve.trans later.valve, one.works.trans later.works, fun w => ?_,
    one.table.trans later.table, one.pages.trans later.pages⟩
  · rw [later.body, one.queue, uptime, one.body, Dish.appendRing_withQueue, queue]
    rfl
  · rw [later.stock, one.stock, Stock.soil_soil]
    simp [Dish.plates, one.queue, queue, Rack.plates]
  · have agree : RecordsAgree r.tells q s :=
      records_agree_of_soil (kept.ovens rfl) (kept.cabinets rfl) fun kind => by rw [later.stock]; rfl
    have both := noticedAt_then (one.waves w) (later.waves w) uptime agree
    refine noticedAt_between both ⟨rfl, rfl, rfl⟩ rfl ⟨rfl, rfl, rfl⟩ ⟨rfl, rfl, rfl⟩ fun v _ => ?_
    rw [queue, List.exists_mem_cons_iff, one.queue]

/-- Every rack of the tunnel removed (R102, R121). -/
theorem Part.clearTunnel_left (p : Part) : RacksLeft p (p.clearTunnel true) := by
  unfold Part.clearTunnel
  generalize held : p.dish.queue = queue
  induction queue generalizing p with
  | nil => exact .nil held
  | cons r rest ih =>
    have one := p.removeOldest_left held
    exact .cons held one (ih _ one.queue)

/-! ## The tunnel stopped (R121) -/

/-- The tunnel's record after trip entry, but for the ring. -/
def Dish.tripped (ring : List Rack) (overwrites : Nat) (d : Dish) : Dish :=
  { d with
    state := .held, conveyor := false, gateOpen := false, valveOpen := false, coldTimer := 0, queue := []
    reasons := if d.state = .held then { d.reasons with trip := true }
      else { door := false, overload := false, lost := false, trip := true }
    ring, overwrites }

/-- What trip entry makes of the tunnel that is not OFF. -/
structure TunnelTripped (p q : Part) : Prop where
  dish : ∃ ring overwrites, q.dish = p.dish.tripped ring overwrites ∧
    (p.dish.ring.length ≤ 64 →
      ring = (p.dish.ring ++ p.unverifiedRacks).drop ((p.dish.ring ++ p.unverifiedRacks).length - 64) ∧
      (p.dish.overwrites ≤ 65535 →
        overwrites = min 65535 (p.dish.overwrites + ((p.dish.ring ++ p.unverifiedRacks).length - 64))))
  stock : ∀ kind, q.stock.get kind = (p.stock.get kind).soil (p.dish.plates kind)
  valve : ValveMoves p q
  loops : q.loops = (p.loops.set 14 (p.loops.get 14).stopped).set 15 (p.loops.get 15).stopped
  works : Works { rackFoot with loops := true } waveSlots p q
  waves : ∀ w, noticedAt (fun v => ∃ r ∈ p.dish.queue, r.tells v) (ofPart p) (ofPart q) w
  table : NoticedTable p q
  pages : Pages [7, 8, 14] p q

theorem Part.dishLoopsOff_loops (p : Part) :
    p.dishLoopsOff.loops = (p.loops.set 14 (p.loops.get 14).stopped).set 15 (p.loops.get 15).stopped := by
  rw [Part.dishLoopsOff, Part.ownerOff_loops, Part.ownerOff_loops,
    Table.get_set_ne _ _ (show (15 : Fin 16) ≠ 14 by decide)]

/-- The tunnel without its racks, in HELD with its loops OFF. -/
def Part.tunnelStopped (p : Part) : Part :=
  let reasons := if p.dish.state = .held then p.dish.reasons else {}
  (p.stopTunnel .held { reasons with trip := true }).dishLoopsOff

theorem Part.tripTunnel_on {p : Part} (on : p.dish.state ≠ .off) :
    p.tripTunnel = (p.clearTunnel true).tunnelStopped := by
  unfold Part.tripTunnel
  exact if_neg on

theorem Part.tripTunnel_off {p : Part} (off : p.dish.state = .off) : p.tripTunnel = p := by
  unfold Part.tripTunnel
  exact if_pos off

section Stopped

variable (p : Part)

theorem Part.tunnelStopped_works : Works { dish := true, feeder := true, loops := true } [] p p.tunnelStopped :=
  (Part.stopTunnel_works _ _ _ _).widen.trans (Part.dishLoopsOff_works _ _).widen

theorem Part.tunnelStopped_dish : p.tunnelStopped.dish = { p.dish with
    state := .held, conveyor := false, gateOpen := false, coldTimer := 0, valveOpen := false
    reasons := if p.dish.state = .held then { p.dish.reasons with trip := true }
      else { door := false, overload := false, lost := false, trip := true } } := by
  have loops := (Part.dishLoopsOff_works (p.stopTunnel .held
    { (if p.dish.state = .held then p.dish.reasons else {}) with trip := true }) []).moves.touches.dish rfl
  refine loops.trans ?_
  rw [Part.stopTunnel_dish]
  split <;> rfl

theorem Part.tunnelStopped_valve : ValveMoves p p.tunnelStopped := by
  unfold Part.tunnelStopped Part.stopTunnel
  dsimp only
  have off (q : Part) : ValveMoves q q.dishLoopsOff :=
    .ofSame ((Part.dishLoopsOff_works q []).moves.touches.feeder rfl)
      (by rw [(Part.dishLoopsOff_works q []).moves.touches.dish rfl])
  refine ((ValveMoves.setDish p _ ?_).trans (ValveMoves.setValve _ _)).trans (off _)
  rfl

theorem Part.tunnelStopped_loops :
    p.tunnelStopped.loops = (p.loops.set 14 (p.loops.get 14).stopped).set 15 (p.loops.get 15).stopped := by
  rw [Part.tunnelStopped, Part.dishLoopsOff_loops]
  simp only [(Part.stopTunnel_works _ [] _ _).moves.touches.loops rfl]

end Stopped

theorem Part.tripTunnel_tripped {p : Part} (on : p.dish.state ≠ .off) : TunnelTripped p p.tripTunnel := by
  have left := p.clearTunnel_left
  have works := (p.clearTunnel true).tunnelStopped_works
  have dish := (p.clearTunnel true).tunnelStopped_dish
  have valve := (p.clearTunnel true).tunnelStopped_valve
  have loops := (p.clearTunnel true).tunnelStopped_loops
  rw [Part.tripTunnel_on on]
  generalize (p.clearTunnel true).tunnelStopped = q at *
  generalize p.clearTunnel true = c at *
  have kept := left.works.moves.touches
  obtain ⟨ring, overwrites, joined⟩ := foldl_appendRing_rest p.unverifiedRacks { p.dish.body with queue := [] }
  have body := left.body.trans joined
  refine ⟨⟨ring, overwrites, ?_, fun held => ⟨?_, fun counted => ?_⟩⟩, fun kind => ?_, left.valve.trans valve, ?_,
    left.works.widen.trans (works.mono rfl (List.nil_subset _)), fun w => ?_, ?_, left.pages.trans (.of_works works)⟩
  · have empty : c.dish.queue = [] := (congrArg Dish.queue body).trans rfl
    have ringIs : c.dish.ring = ring := (congrArg Dish.ring body).trans rfl
    have overwritesIs : c.dish.overwrites = overwrites := (congrArg Dish.overwrites body).trans rfl
    have stopped : q.dish = c.dish.body.tripped ring overwrites := by
      rw [dish, ← ringIs, ← overwritesIs]
      simp [Dish.tripped, Dish.body, empty]
    rw [stopped, body]
    rfl
  · have last := foldl_appendRing_ring p.unverifiedRacks { p.dish.body with queue := [] } held
    rwa [joined] at last
  · have count := foldl_appendRing_overwrites p.unverifiedRacks { p.dish.body with queue := [] } held counted
    rwa [joined] at count
  · rw [works.moves.touches.stock rfl, left.stock]
  · rw [loops, kept.loops rfl]
  · exact noticedAt_between (left.waves w) ⟨rfl, rfl, rfl⟩ rfl (.of_works works rfl (by simp) w) (.of_works works)
      fun _ _ => Iff.rfl
  · exact left.table.trans ⟨fun w none => by rw [works.moves.touches.waves rfl]; exact none,
      fun w v stands => ⟨v, by rw [works.moves.touches.waves rfl]; exact stands, .refl v, fun _ => rfl⟩⟩

end Sys2Proof.Machine
end

section
/-!
Chapter 10: the trip state entered and left (R181, R183, R55, R77, R121).
-/

namespace Sys2Proof.Machine

/-! ## The tunnel, on or off -/

section Tunnel

variable (p : Part)

theorem Part.tripTunnel_waveWorks : Works { rackFoot with loops := true } waveSlots p p.tripTunnel := by
  by_cases off : p.dish.state = .off
  · rw [Part.tripTunnel_off off]
    exact Works.refl _ _ _
  · exact (Part.tripTunnel_tripped off).works

theorem Part.tripTunnel_noticed (w : Fin 12) :
    noticedAt (fun v => p.dish.state ≠ .off ∧ ∃ r ∈ p.dish.queue, r.tells v) (ofPart p) (ofPart p.tripTunnel) w := by
  by_cases off : p.dish.state = .off
  · rw [Part.tripTunnel_off off]
    exact noticedAt_none fun v _ h => h.1 off
  · exact noticedAt_between ((Part.tripTunnel_tripped off).waves w) ⟨rfl, rfl, rfl⟩ rfl ⟨rfl, rfl, rfl⟩ ⟨rfl, rfl, rfl⟩
      fun v _ => ⟨fun h => h.2, fun h => ⟨off, h⟩⟩

theorem Part.tripTunnel_table : NoticedTable p p.tripTunnel := by
  by_cases off : p.dish.state = .off
  · rw [Part.tripTunnel_off off]
    exact ⟨fun _ h => h, fun _ v h => ⟨v, h, .refl v, fun _ => rfl⟩⟩
  · exact (Part.tripTunnel_tripped off).table

theorem Part.tripTunnel_pages : Pages [7, 8, 14] p p.tripTunnel := by
  by_cases off : p.dish.state = .off
  · rw [Part.tripTunnel_off off]
    exact Pages.refl _ _
  · exact (Part.tripTunnel_tripped off).pages

theorem Part.tripTunnel_valve : ValveMoves p p.tripTunnel := by
  by_cases off : p.dish.state = .off
  · rw [Part.tripTunnel_off off]
    exact .ofSame rfl rfl
  · exact (Part.tripTunnel_tripped off).valve

theorem Part.tripTunnel_clean (kind : Fin 4) :
    (p.tripTunnel.stock.get kind).clean = (p.stock.get kind).clean := by
  by_cases off : p.dish.state = .off
  · rw [Part.tripTunnel_off off]
  · rw [(Part.tripTunnel_tripped off).stock]
    rfl

theorem Part.tripTunnel_loop {x : Fin 16} (notWash : x ≠ 14) (notBooster : x ≠ 15) :
    p.tripTunnel.loops.get x = p.loops.get x := by
  by_cases off : p.dish.state = .off
  · rw [Part.tripTunnel_off off]
  · rw [(Part.tripTunnel_tripped off).loops, Table.get_set_ne _ _ notBooster, Table.get_set_ne _ _ notWash]

end Tunnel

/-! ## Trip entry, ahead of the ovens (R181, R55) -/

section Entry

variable (p : Part)

theorem Part.tripSet_works : Works { interlock := true } [] p p.tripSet :=
  Works.ofTouches [] (by constructor <;> simp [Part.tripSet]) rfl

/-- The trip flag, the drive enable and the grants. -/
def Part.tripAhead (p : Part) : Part := p.tripSet.cutGrants

theorem Part.enterTrip_ahead : p.enterTrip = p.tripAhead.tripOvens.tripTunnel := rfl

theorem Part.tripAhead_works : Works { interlock := true, feeder := true } [] p p.tripAhead :=
  p.tripSet_works.widen.trans (Part.cutGrants_works _ _).widen

theorem Part.tripAhead_interlock : p.tripAhead.interlock = { p.interlock with trip := true, driveEnable := false } :=
  (Part.cutGrants_works p.tripSet []).moves.touches.interlock rfl

theorem Part.tripAhead_heater (n : Fin 16) : p.tripAhead.feeder.heaters.get n = (p.feeder.heaters.get n).cut :=
  p.tripSet.cutGrants_heaters n

theorem Part.tripAhead_feeder : p.tripAhead.feeder = { p.feeder with
    heaters := p.tripAhead.feeder.heaters, grantedTotal := 0, deliveredTotal := 0 } := by
  obtain ⟨heaters, feeder⟩ := p.tripSet.cutGrants_feeder
  rw [Part.tripAhead, feeder]
  rfl

/-! ## Trip entry as a whole -/

/-- The waves that the notices of trip entry concern (R141). -/
def TripConcerns (p : Part) (v : Wave) : Prop :=
  (∃ n, (p.ovens.get n).state ≠ .idle ∧ awaits n v) ∨ p.dish.state ≠ .off ∧ ∃ r ∈ p.dish.queue, r.tells v

theorem Part.enterTrip_waveWorks :
    Works { rackFoot with interlock := true, ovens := true, loops := true } waveSlots p p.enterTrip := by
  rw [Part.enterTrip_ahead]
  exact ((p.tripAhead_works.mono rfl (List.nil_subset _)).trans
    (Part.tripOvens_tripped _).works.widen).trans (Part.tripTunnel_waveWorks _).widen

theorem Part.enterTrip_noticed (w : Fin 12) : noticedAt (TripConcerns p) (ofPart p) (ofPart p.enterTrip) w := by
  have ahead := p.tripAhead_works
  have ovens := p.tripAhead.tripOvens_tripped
  have tunnel := p.tripAhead.tripOvens.tripTunnel_noticed w
  have works := p.tripAhead.tripOvens.tripTunnel_waveWorks
  rw [← p.enterTrip_ahead] at tunnel works
  have dish : p.tripAhead.tripOvens.dish = p.dish :=
    (ovens.works.moves.touches.dish rfl).trans (ahead.moves.touches.dish rfl)
  have agree : RecordsAgree (fun v => ∃ m ∈ List.finRange 6, (p.tripAhead.ovens.get m).state ≠ .idle ∧ awaits m v)
      p.tripAhead.tripOvens p.enterTrip :=
    records_agree_of_soil (works.moves.touches.ovens rfl) (works.moves.touches.cabinets rfl)
      p.tripAhead.tripOvens.tripTunnel_clean
  have both := noticedAt_then (ovens.waves w) tunnel (ovens.works.moves.touches.uptime rfl) agree
  refine noticedAt_between both (.of_works ahead rfl (by simp) w) (ahead.moves.touches.uptime rfl) ⟨rfl, rfl, rfl⟩
    ⟨rfl, rfl, rfl⟩ fun v _ => ?_
  rw [dish, ahead.moves.touches.ovens rfl]
  simp [TripConcerns]

theorem Part.enterTrip_table : NoticedTable p p.enterTrip := by
  have ahead : NoticedTable p p.tripAhead :=
    ⟨fun w none => by rw [p.tripAhead_works.moves.touches.waves rfl]; exact none,
      fun w v stands => ⟨v, by rw [p.tripAhead_works.moves.touches.waves rfl]; exact stands, .refl v, fun _ => rfl⟩⟩
  rw [Part.enterTrip_ahead]
  exact (ahead.trans (Part.tripOvens_tripped _).table).trans (Part.tripTunnel_table _)

/-- The ovens whose PROGRAM_DONE pages trip entry cancels (R75). -/
def Part.doneOvens (p : Part) : List (Fin 6) := (List.finRange 6).filter fun n => (p.ovens.get n).isDone

theorem Part.enterTrip_noPage (clear : p.desk.Clears fun _ => False) {n : Fin 6}
    (done : (p.ovens.get n).isDone = true) : noPageBut (.oven n) p.enterTrip.desk.pager := by
  have ahead : p.tripAhead.desk.Clears fun _ => False :=
    clear.of_queue (by rw [p.tripAhead_works.moves.touches.pager rfl])
  have ovens := p.tripAhead.tripOvens_tripped.clears _ (by simp) (by simp) ahead
  have tunnel := p.tripAhead.tripOvens.tripTunnel_pages.clears _ (by simp) (by simp) ovens
  rw [← p.enterTrip_ahead] at tunnel
  refine tunnel.noPageBut (.inr ⟨n, List.mem_finRange n, ?_, rfl⟩)
  rwa [p.tripAhead_works.moves.touches.ovens rfl]

theorem Part.enterTrip_cancels (busy : p.desk.pager.port ≠ .idle)
    (off : ∀ k, (p.desk.pager.routes.get k).enabled = false) :
    noticesCancel p.uptime (p.doneOvens.map Source.oven) p.desk.pager p.enterTrip.desk.pager := by
  have ahead := p.tripAhead_works.moves.touches
  have pager : p.tripAhead.desk.pager = p.desk.pager := ahead.pager rfl
  have ovens := p.tripAhead.tripOvens_tripped
  have routes := ovens.works.desk.routes
  have tunnel := p.tripAhead.tripOvens.tripTunnel_pages.quiet
  rw [← p.enterTrip_ahead] at tunnel
  have cancels := ovens.cancels
  rw [pager, ahead.uptime rfl, ahead.ovens rfl] at cancels
  obtain ⟨busyLast, cancelled⟩ := cancels busy off
  rw [tunnel busyLast fun k _ => by rw [routes, pager]; exact off k]
  exact cancelled

/-! ## The records after trip entry -/

theorem Part.enterTrip_interlock :
    p.enterTrip.interlock = { p.interlock with trip := true, driveEnable := false } := by
  rw [Part.enterTrip_ahead, (Part.tripTunnel_waveWorks _).moves.touches.interlock rfl,
    (Part.tripOvens_tripped _).works.moves.touches.interlock rfl, Part.tripAhead_interlock]

/-- The allocator ahead of the tunnel's valve. -/
theorem Part.tripOvens_feeder (q : Part) : q.tripOvens.feeder = q.feeder :=
  q.tripOvens_tripped.works.moves.touches.feeder rfl

theorem Part.enterTrip_heater {n : Fin 16} (other : n ≠ 15) :
    p.enterTrip.feeder.heaters.get n = (p.feeder.heaters.get n).cut := by
  have valve := p.tripAhead.tripOvens.tripTunnel_valve
  rw [← p.enterTrip_ahead] at valve
  rw [valve.notices.heater n, valve.cls n, valve.locked n other, Part.tripOvens_feeder, Part.tripAhead_heater]

theorem Part.enterTrip_booster : p.enterTrip.feeder.heaters.get 15 =
    { (p.feeder.heaters.get 15).cut with locked := (p.enterTrip.feeder.heaters.get 15).locked } := by
  have valve := p.tripAhead.tripOvens.tripTunnel_valve
  rw [← p.enterTrip_ahead] at valve
  rw [valve.notices.heater 15, valve.cls 15, Part.tripOvens_feeder, Part.tripAhead_heater]

theorem Part.enterTrip_feeder : p.enterTrip.feeder = { p.feeder with
    heaters := p.enterTrip.feeder.heaters, grantedTotal := 0, deliveredTotal := 0 } := by
  have valve := p.tripAhead.tripOvens.tripTunnel_valve.notices.feeder
  rw [← p.enterTrip_ahead, Part.tripOvens_feeder, p.tripAhead_feeder] at valve
  exact valve

theorem Part.enterTrip_oven (n : Fin 6) : p.enterTrip.ovens.get n = (p.ovens.get n).cut := by
  rw [Part.enterTrip_ahead, (Part.tripTunnel_waveWorks _).moves.touches.ovens rfl,
    (Part.tripOvens_tripped _).oven n, if_pos (List.mem_finRange n), p.tripAhead_works.moves.touches.ovens rfl]

theorem Part.enterTrip_loop (n : Fin 6) : p.enterTrip.loops.get (ovenLoop n) =
    (p.loops.get (ovenLoop n)).cut (p.ovens.get n) := by
  have apart : ovenLoop n ≠ 14 ∧ ovenLoop n ≠ 15 := by
    revert n
    decide
  rw [Part.enterTrip_ahead, Part.tripTunnel_loop _ apart.1 apart.2, (Part.tripOvens_tripped _).loop n,
    if_pos (List.mem_finRange n), p.tripAhead_works.moves.touches.ovens rfl, p.tripAhead_works.moves.touches.loops rfl]

/-- The part that the tunnel finds. -/
theorem Part.tripAhead_tunnel : p.tripAhead.tripOvens.dish = p.dish ∧ p.tripAhead.tripOvens.stock = p.stock ∧
    p.tripAhead.tripOvens.uptime = p.uptime := by
  have ahead := p.tripAhead_works.moves.touches
  have ovens := p.tripAhead.tripOvens_tripped.works.moves.touches
  exact ⟨(ovens.dish rfl).trans (ahead.dish rfl), (ovens.stock rfl).trans (ahead.stock rfl),
    (ovens.uptime rfl).trans (ahead.uptime rfl)⟩

theorem Part.enterTrip_off (off : p.dish.state = .off) : p.enterTrip.dish = p.dish ∧ p.enterTrip.stock = p.stock ∧
    (p.enterTrip.feeder.heaters.get 15).locked = (p.feeder.heaters.get 15).locked := by
  obtain ⟨dish, stock, -⟩ := p.tripAhead_tunnel
  rw [Part.enterTrip_ahead, Part.tripTunnel_off ((congrArg Dish.state dish).trans off)]
  refine ⟨dish, stock, ?_⟩
  rw [Part.tripOvens_feeder, Part.tripAhead_heater]
  rfl

theorem Part.enterTrip_on (on : p.dish.state ≠ .off) :
    (∃ ring overwrites, p.enterTrip.dish = p.dish.tripped ring overwrites ∧
      (p.dish.ring.length ≤ 64 →
        ring = (p.dish.ring ++ p.unverifiedRacks).drop ((p.dish.ring ++ p.unverifiedRacks).length - 64) ∧
        (p.dish.overwrites ≤ 65535 →
          overwrites = min 65535 (p.dish.overwrites + ((p.dish.ring ++ p.unverifiedRacks).length - 64))))) ∧
    (∀ kind, p.enterTrip.stock.get kind = (p.stock.get kind).soil (p.dish.plates kind)) ∧
    (∀ m, m = 14 ∨ m = 15 → (p.enterTrip.loops.get m).base = .off ∧ (p.enterTrip.loops.get m).demand = 0) ∧
    ((p.feeder.heaters.get 15).locked = p.dish.valveOpen → (p.enterTrip.feeder.heaters.get 15).locked = false) := by
  obtain ⟨dish, stock, uptime⟩ := p.tripAhead_tunnel
  have feeder := p.tripAhead.tripOvens_feeder
  have booster := p.tripAhead_heater 15
  have tripped := Part.tripTunnel_tripped (p := p.tripAhead.tripOvens)
    fun off => on ((congrArg Dish.state dish).symm.trans off)
  rw [← p.enterTrip_ahead] at tripped
  have record := tripped.dish
  have plates := tripped.stock
  have follows := tripped.valve.follows
  rw [Part.unverifiedRacks, dish, uptime] at record
  rw [dish, stock] at plates
  rw [dish, feeder, booster] at follows
  refine ⟨record, plates, ?_, fun same => ?_⟩
  · rintro m (rfl | rfl)
    · rw [tripped.loops, Table.get_set_ne _ _ (show (14 : Fin 16) ≠ 15 by decide), Table.get_set_self]
      exact ⟨rfl, rfl⟩
    · rw [tripped.loops, Table.get_set_self]
      exact ⟨rfl, rfl⟩
  · obtain ⟨ring, overwrites, is, -⟩ := record
    rw [follows same, is]
    rfl

end Entry

end Sys2Proof.Machine
end

section
/-!
Chapter 10: HOOD_TRIP taken and CLEAR TRIP (R181, R183): the trip state entered and left.
-/

namespace Sys2Proof.Machine

theorem noticed_event {s : State} {q : Part} {f : Footprint} {own : List (Fin 87)} (table : NoticedTable s.part q)
    (works : Works f (own ++ waveSlots) s.part q) : Noticed own s (s.event q) where
  desk := works.event_kept
  absent := table.absent
  judged w v stands := by
    obtain ⟨u, ends, judges, -⟩ := table.record w v stands
    exact ⟨u, ends, judges.record⟩
  standing w v stands out := by
    obtain ⟨u, ends, -, same⟩ := table.record w v stands
    rw [same out] at ends
    exact ends
  serving w v stands on := by
    obtain ⟨u, ends, judges, -⟩ := table.record w v stands
    exact ⟨u, ends, judges.standing on⟩

/-! ## HOOD_TRIP asserted (R181) -/

section Hood

variable (p : Part)

/-- HOOD_TRIP filtered and its condition raised, ahead of trip entry. -/
def Part.hoodRaised (p : Part) : Part :=
  (p.setLine .hoodTrip { raw := true, filtered := true, timing := false }).raise hoodTripSlot 0

theorem Part.filterExpiry_hood
    (is : p.interlock.lines.get (lineIndex .hoodTrip) = { raw := true, filtered := false, timing := true }) :
    p.filterExpiry .hoodTrip = if p.interlock.trip then p.hoodRaised else p.hoodRaised.enterTrip :=
  p.filterExpiry_of_line .hoodTrip (on := true) is

theorem Part.hoodRaised_works : Works { deskFoot with interlock := true } [hoodTripSlot] p p.hoodRaised :=
  (Part.setLine_works p _ _ _).widen.trans (Part.raise_works _ _ _).widen

theorem Part.hoodRaised_slot :
    p.hoodRaised.desk.conds.get hoodTripSlot = (p.desk.conds.get hoodTripSlot).raise p.uptime 0 :=
  (Desk.raise_slot p.desk p.uptime hoodTripSlot 0 (by decide)).trans (if_neg (by decide))

theorem Part.hoodRaised_pages : Pages [11] p p.hoodRaised :=
  (Pages.of_works (Part.setLine_works p [] _ _)).trans (Pages.raise _ _ _ (by decide))

theorem Part.hoodRaised_interlock :
    p.hoodRaised.interlock = { p.interlock with lines := p.hoodRaised.interlock.lines } := rfl

/-- What HOOD_TRIP makes of the part outside the trip state. -/
def Part.hoodTripped (p : Part) : Part := p.hoodRaised.enterTrip

theorem Part.hoodTripped_works : Works { rackFoot with interlock := true, ovens := true, loops := true }
    ([hoodTripSlot, washColdSlot] ++ waveSlots) p p.hoodTripped :=
  (p.hoodRaised_works.mono rfl (by simp)).trans (p.hoodRaised.enterTrip_waveWorks.mono rfl (by simp))

theorem Part.hoodTripped_slot :
    p.hoodTripped.desk.conds.get hoodTripSlot = (p.desk.conds.get hoodTripSlot).raise p.uptime 0 := by
  have kept := p.hoodRaised.enterTrip_waveWorks.desk.slots hoodTripSlot (by decide) (by decide)
  rw [Part.hoodTripped, kept, p.hoodRaised_slot]

theorem Part.hoodTripped_interlock : p.hoodTripped.interlock.trip = true ∧
    p.hoodTripped.interlock.driveEnable = false ∧ p.hoodTripped.interlock.travel = p.interlock.travel := by
  rw [Part.hoodTripped, Part.enterTrip_interlock]
  exact ⟨rfl, rfl, rfl⟩

theorem Part.hoodTripped_noticed (w : Fin 12) : noticedAt (TripConcerns p) (ofPart p) (ofPart p.hoodTripped) w := by
  have raised := p.hoodRaised_works
  have noticed := p.hoodRaised.enterTrip_noticed w
  rw [Part.hoodTripped]
  generalize p.hoodRaised.enterTrip = q at *
  generalize p.hoodRaised = h at *
  refine noticedAt_between noticed (.of_works raised rfl (by decide) w)
    (raised.moves.touches.uptime rfl) ⟨rfl, rfl, rfl⟩ ⟨rfl, rfl, rfl⟩ fun v _ => ?_
  rw [TripConcerns, TripConcerns, raised.moves.touches.ovens rfl, raised.moves.touches.dish rfl]

theorem Part.hoodTripped_table : NoticedTable p p.hoodTripped := by
  have waves : p.hoodRaised.waves = p.waves := p.hoodRaised_works.moves.touches.waves rfl
  have table := p.hoodRaised.enterTrip_table
  exact ⟨fun w none => table.absent w (by rwa [waves]), fun w v stands => table.record w v (by rwa [waves])⟩

theorem Part.hoodTripped_noPage (kept : PagesKept p.desk.pager) {n : Fin 6} (done : (p.ovens.get n).isDone = true) :
    noPageBut (.oven n) p.hoodTripped.desk.pager := by
  have raised := p.hoodRaised_pages.clears _ (by simp) (by simp) kept.cleared
  rw [← p.hoodRaised_works.moves.touches.ovens rfl] at done
  rw [Part.hoodTripped]
  exact p.hoodRaised.enterTrip_noPage raised done

theorem Part.hoodTripped_cancels (busy : p.desk.pager.port ≠ .idle)
    (off : ∀ k, (p.desk.pager.routes.get k).enabled = false) :
    noticesCancel p.uptime (p.doneOvens.map Source.oven) p.desk.pager p.hoodTripped.desk.pager := by
  have same := p.hoodRaised_pages.quiet busy fun k _ => off k
  have raised := p.hoodRaised_works.moves.touches
  have cancels := p.hoodRaised.enterTrip_cancels
  rw [same, raised.uptime rfl, Part.doneOvens, raised.ovens rfl, ← Part.hoodTripped] at cancels
  exact cancels busy off

/-- No heater is driven without the drive enable (R181). -/
theorem Part.heaterPins_of_disabled (disabled : p.interlock.driveEnable = false) :
    p.heaterPins = List.replicate 16 false := by
  rw [Part.heaterPins, disabled, Table.items_eq_map_get, List.map_map]
  simp [Function.comp_def, List.map_const']

end Hood

/-! ## CLEAR TRIP (R183) -/

section Leave

variable (p : Part)

/-- The trip state ended, ahead of the tunnel. -/
def Part.tripEnded (p : Part) : Part :=
  ({ p with interlock := { p.interlock with trip := false, driveEnable := true } } : Part).ret hoodTripSlot

theorem Part.leaveTrip_ended : p.leaveTrip = p.tripEnded.tripTunnelExit := rfl

theorem clearTrip_refused (h : p.interlock.trip = false ∨ p.asserted .hoodTrip = true) :
    clearTrip p = (p, { status := .state }) := by
  refine if_pos ?_
  rcases h with clear | asserted
  · simp [clear]
  · simp [asserted]

theorem clearTrip_taken (trip : p.interlock.trip = true) (released : p.asserted .hoodTrip = false) :
    clearTrip p = (p.leaveTrip, { status := .ok }) :=
  if_neg (by simp [trip, released])

theorem Part.tripEnded_works : Works { interlock := true, conds := true } [hoodTripSlot] p p.tripEnded := by
  refine Works.trans (q := { p with interlock := { p.interlock with trip := false, driveEnable := true } }) ?_
    (Part.ret_works_conds _ _).widen
  exact Works.ofTouches _ (by constructor <;> simp) rfl

theorem Part.tripEnded_slot : p.tripEnded.desk.conds.get hoodTripSlot = (p.desk.conds.get hoodTripSlot).ret := by
  simp [Part.tripEnded]

/-! ### The tunnel at the end of the trip state (R121) -/

theorem Part.tripTunnelExit_apart (apart : p.dish.state ≠ .held ∨ p.dish.reasons.trip = false) :
    p.tripTunnelExit = p := by
  refine if_neg ?_
  rcases apart with notHeld | clear
  · simp [notHeld]
  · simp [clear]

/-- TRIP out of the tunnel's reasons, and its loops started again. -/
def Part.tripReasonLeft (p : Part) : Part :=
  (p.setDish { p.dish with reasons := { p.dish.reasons with trip := false } }).dishLoopsAuto

/-- The hold ended. -/
def Part.holdEnded (p : Part) : Part := (p.setDish { p.dish with state := .ready }).judgeGate.judgeValve

variable {p}

theorem Part.tripTunnelExit_held (held : p.dish.state = .held) (trip : p.dish.reasons.trip = true) :
    p.tripTunnelExit = if p.dish.reasons.door || p.dish.reasons.overload || p.dish.reasons.lost then p.tripReasonLeft
      else p.tripReasonLeft.holdEnded := by
  unfold Part.tripTunnelExit
  rw [if_pos (by simp [held, trip])]
  cases door : p.dish.reasons.door <;> cases overload : p.dish.reasons.overload <;>
    cases lost : p.dish.reasons.lost <;> simp [HoldReasons.isEmpty, door, overload, lost, Part.tripReasonLeft]; rfl

variable (p)

theorem Part.holdEnded_works : Works { dish := true, feeder := true } [] p p.holdEnded :=
  (Part.setDish_works p _ _).widen.trans (Part.rackJudged_works _)

theorem Part.holdEnded_dish : p.holdEnded.dish.reasons = p.dish.reasons ∧ p.holdEnded.dish.state = .ready := by
  have body := (p.setDish { p.dish with state := .ready }).rackJudged_body
  rw [Part.setDish_dish] at body
  exact ⟨(congrArg Dish.reasons body).trans rfl, (congrArg Dish.state body).trans rfl⟩

theorem Part.tripReasonLeft_works :
    Works { dish := true, loops := true, conds := true, pager := true } dishLoopSlots p p.tripReasonLeft :=
  (Part.setDish_works p _ _).widen.trans (Part.dishLoopsAuto_works _).widen

theorem Part.tripReasonLeft_dish :
    p.tripReasonLeft.dish = { p.dish with reasons := { p.dish.reasons with trip := false } } :=
  ((Part.dishLoopsAuto_works _).moves.touches.dish rfl).trans (Part.setDish_dish _ _)

/-- What the end of the trip state makes of a tunnel that it held. -/
structure TunnelFreed (p q : Part) : Prop where
  reasons : q.dish.reasons = { p.dish.reasons with trip := false }
  state : q.dish.state =
    if p.dish.reasons.door || p.dish.reasons.overload || p.dish.reasons.lost then .held else .ready
  wash : LoopCarried 14 ((p.loops.get 14).asked p.dish.cfg.washSp)
    (((p.loops.get 14).asked p.dish.cfg.washSp).autoAsked (p.reading (loopChannel 14))) p q
  booster : LoopCarried 15 ((p.loops.get 15).asked p.dish.cfg.boosterSp)
    (((p.loops.get 15).asked p.dish.cfg.boosterSp).autoAsked (p.reading (loopChannel 15))) p q
  others : ∀ m, m ≠ 14 → m ≠ 15 → q.loops.get m = p.loops.get m

theorem Part.tripReasonLeft_wash : LoopCarried 14 ((p.loops.get 14).asked p.dish.cfg.washSp)
    (((p.loops.get 14).asked p.dish.cfg.washSp).autoAsked (p.reading (loopChannel 14))) p p.tripReasonLeft := by
  have dish := Part.setDish_works p [] { p.dish with reasons := { p.dish.reasons with trip := false } }
  have started :=
    (p.setDish { p.dish with reasons := { p.dish.reasons with trip := false } }).dishLoopsAuto_wash
  rw [Part.setDish_loops, Part.setDish_dish, dish.reading] at started
  exact started.of_work dish (by simp)

theorem Part.tripReasonLeft_booster : LoopCarried 15 ((p.loops.get 15).asked p.dish.cfg.boosterSp)
    (((p.loops.get 15).asked p.dish.cfg.boosterSp).autoAsked (p.reading (loopChannel 15))) p p.tripReasonLeft := by
  have dish := Part.setDish_works p [] { p.dish with reasons := { p.dish.reasons with trip := false } }
  have started :=
    (p.setDish { p.dish with reasons := { p.dish.reasons with trip := false } }).dishLoopsAuto_booster
  rw [Part.setDish_loops, Part.setDish_dish, dish.reading] at started
  exact started.of_work dish (by simp)

theorem Part.tripReasonLeft_others {m : Fin 16} (notWash : m ≠ 14) (notBooster : m ≠ 15) :
    p.tripReasonLeft.loops.get m = p.loops.get m := by
  rw [Part.tripReasonLeft, Part.dishLoopsAuto_others _ notWash notBooster, Part.setDish_loops]

variable {p}

theorem Part.tripTunnelExit_freed (held : p.dish.state = .held) (trip : p.dish.reasons.trip = true) :
    TunnelFreed p p.tripTunnelExit := by
  have dish := p.tripReasonLeft_dish
  have wash := p.tripReasonLeft_wash
  have booster := p.tripReasonLeft_booster
  have others {m : Fin 16} := p.tripReasonLeft_others (m := m)
  rw [Part.tripTunnelExit_held held trip]
  generalize p.tripReasonLeft = q at *
  by_cases stays : (p.dish.reasons.door || p.dish.reasons.overload || p.dish.reasons.lost) = true
  · rw [if_pos stays]
    exact ⟨by rw [dish], by rw [dish, if_pos stays]; exact held, wash, booster, fun _ => others⟩
  · rw [if_neg stays]
    have works := q.holdEnded_works
    obtain ⟨reasons, state⟩ := q.holdEnded_dish
    have loop (m : Fin 16) : q.holdEnded.loops.get m = q.loops.get m := by rw [works.moves.touches.loops rfl]
    exact ⟨by rw [reasons, dish], by rw [state, if_neg stays], wash.then_work works (loop _) (by simp),
      booster.then_work works (loop _) (by simp), fun m wash booster => (loop m).trans (others wash booster)⟩

variable (p)

theorem Part.tripTunnelExit_others {m : Fin 16} (notWash : m ≠ 14) (notBooster : m ≠ 15) :
    p.tripTunnelExit.loops.get m = p.loops.get m := by
  by_cases held : p.dish.state = .held ∧ p.dish.reasons.trip = true
  · exact (Part.tripTunnelExit_freed held.1 held.2).others m notWash notBooster
  · rw [Part.tripTunnelExit_apart]
    by_contra both
    simp only [not_or, not_not, Bool.not_eq_false] at both
    exact held both

/-! ### CLEAR TRIP as a whole -/

theorem Part.leaveTrip_interlock : p.leaveTrip.interlock = { p.interlock with trip := false, driveEnable := true } :=
  (Part.tripTunnelExit_works _).moves.touches.interlock rfl

theorem Part.leaveTrip_slot : p.leaveTrip.desk.conds.get hoodTripSlot = (p.desk.conds.get hoodTripSlot).ret :=
  ((Part.tripTunnelExit_works p.tripEnded).desk.slots hoodTripSlot (by decide) (by decide)).trans p.tripEnded_slot

theorem Part.leaveTrip_others {m : Fin 16} (notWash : m ≠ 14) (notBooster : m ≠ 15) :
    p.leaveTrip.loops.get m = p.loops.get m :=
  p.tripEnded.tripTunnelExit_others notWash notBooster

theorem Part.leaveTrip_apart (apart : p.dish.state ≠ .held ∨ p.dish.reasons.trip = false) :
    p.leaveTrip.dish = p.dish ∧ p.leaveTrip.loops = p.loops ∧ p.leaveTrip.feeder = p.feeder := by
  have works := p.tripEnded_works.moves.touches
  have same := Part.tripTunnelExit_apart p.tripEnded (by rwa [works.dish rfl])
  rw [Part.leaveTrip_ended, same]
  exact ⟨works.dish rfl, works.loops rfl, works.feeder rfl⟩

variable {p}

theorem Part.leaveTrip_freed (held : p.dish.state = .held) (trip : p.dish.reasons.trip = true) :
    TunnelFreed p p.leaveTrip := by
  have works := p.tripEnded_works
  have freed := Part.tripTunnelExit_freed (p := p.tripEnded) held trip
  obtain ⟨reasons, state, wash, booster, others⟩ := freed
  rw [works.reading] at wash booster
  exact ⟨reasons, state, wash.of_work works (by decide), booster.of_work works (by decide), others⟩

end Leave

end Sys2Proof.Machine
end

section
/-!
Chapter 10: the trip state entered and left (R181, R183), as O55 states it.
-/

namespace Sys2Proof.Machine

/-! ## The records that trip entry leaves -/

/-- The records of the blocks after trip entry, from those before it (R55, R77, R121). -/
structure TripEntered (p q : Part) : Prop where
  heater : ∀ n, n ≠ 15 → q.feeder.heaters.get n = (p.feeder.heaters.get n).cut
  booster : q.feeder.heaters.get 15 =
    { (p.feeder.heaters.get 15).cut with locked := (q.feeder.heaters.get 15).locked }
  feeder : q.feeder = { p.feeder with heaters := q.feeder.heaters, grantedTotal := 0, deliveredTotal := 0 }
  oven : ∀ n, q.ovens.get n = (p.ovens.get n).cut
  loop : ∀ n, q.loops.get (ovenLoop n) = (p.loops.get (ovenLoop n)).cut (p.ovens.get n)
  off : p.dish.state = .off → q.dish = p.dish ∧ q.stock = p.stock ∧
    (q.feeder.heaters.get 15).locked = (p.feeder.heaters.get 15).locked
  on : p.dish.state ≠ .off →
    (∃ ring overwrites, q.dish = p.dish.tripped ring overwrites ∧
      (p.dish.ring.length ≤ 64 →
        ring = (p.dish.ring ++ p.unverifiedRacks).drop ((p.dish.ring ++ p.unverifiedRacks).length - 64) ∧
        (p.dish.overwrites ≤ 65535 →
          overwrites = min 65535 (p.dish.overwrites + ((p.dish.ring ++ p.unverifiedRacks).length - 64))))) ∧
    (∀ kind, q.stock.get kind = (p.stock.get kind).soil (p.dish.plates kind)) ∧
    (∀ m, m = 14 ∨ m = 15 → (q.loops.get m).base = .off ∧ (q.loops.get m).demand = 0) ∧
    ((p.feeder.heaters.get 15).locked = p.dish.valveOpen → (q.feeder.heaters.get 15).locked = false)

theorem Part.enterTrip_entered (p : Part) : TripEntered p p.enterTrip :=
  ⟨fun _ => p.enterTrip_heater, p.enterTrip_booster, p.enterTrip_feeder, p.enterTrip_oven, p.enterTrip_loop,
    p.enterTrip_off, p.enterTrip_on⟩

/-- HOOD_TRIP's condition and line are none of the records that trip entry reads. -/
theorem Part.hoodTripped_entered (p : Part) : TripEntered p p.hoodTripped := by
  have raised := p.hoodRaised_works.moves.touches
  obtain ⟨heater, booster, feeder, oven, loop, off, on⟩ := p.hoodRaised.enterTrip_entered
  rw [Part.unverifiedRacks, raised.uptime rfl] at on
  simp only [raised.feeder rfl, raised.ovens rfl, raised.loops rfl, raised.dish rfl, raised.stock rfl] at *
  rw [← Part.hoodTripped] at *
  exact ⟨heater, booster, feeder, oven, loop, off, on⟩

/-- Settles O55: the hood line in the trip state and outside it, and CLEAR TRIP refused and taken. -/
theorem theTripStateIsEnteredAndLeft : Obligations.TheTripStateIsEnteredAndLeft := by
  refine ⟨?entered, ?left⟩
  case entered =>
    intro s is
    have expiry := s.part.filterExpiry_hood is
    rw [exec_filterTimerExpiry, expiry]
    by_cases trip : s.part.interlock.trip = true
    · rw [if_pos trip]
      have works := s.part.hoodRaised_works
      have slot := s.part.hoodRaised_slot
      have interlock := s.part.hoodRaised_interlock
      generalize s.part.hoodRaised = q at *
      refine ⟨_, rfl, slot, (congrArg Interlock.trip interlock).trans trip,
        (congrArg Interlock.travel interlock).trans rfl, fun _ => ⟨works.happened, works.event_kept,
          (congrArg Interlock.driveEnable interlock).trans rfl⟩, fun clear => ?_⟩
      exact absurd trip (by simp [clear])
    · rw [if_neg trip, ← Part.hoodTripped]
      have works := s.part.hoodTripped_works
      have slot := s.part.hoodTripped_slot
      obtain ⟨tripped, disabled, travel⟩ := s.part.hoodTripped_interlock
      have noticed := s.part.hoodTripped_noticed
      have table := s.part.hoodTripped_table
      have noPage (kept : PagesKept s.part.desk.pager) (n : Fin 6) := s.part.hoodTripped_noPage kept (n := n)
      have cancels := s.part.hoodTripped_cancels
      obtain ⟨heater, booster, feeder, oven, loop, off, on⟩ := s.part.hoodTripped_entered
      generalize s.part.hoodTripped = q at *
      refine ⟨_, rfl, slot, tripped, travel, fun isTrip => absurd isTrip trip, fun _ => ?_⟩
      refine ⟨works.happened, noticed_event table works, fun w => noticedAt_event (noticed w), disabled,
        Part.heaterPins_of_disabled q disabled, heater, booster, fun isOff => (off isOff).2.2,
        fun isOn => (on isOn).2.2.2, feeder, oven, fun n runs => ?_, fun n runs => ?_, fun n idle => ?_,
        fun kept n done => ?_, fun busy routes => ?_, fun isOff => ⟨(off isOff).1, (off isOff).2.1⟩, fun isOn => ?_⟩
      · have stopped := (loop n).trans (if_neg runs)
        exact ⟨(congrArg Loop.base stopped).trans rfl, (congrArg Loop.demand stopped).trans rfl⟩
      · exact (loop n).trans (if_neg runs)
      · exact (loop n).trans (if_pos idle)
      · exact noPage kept n (by rw [oven_isDone]; simpa using done)
      · have last := cancels busy routes
        rw [Part.doneOvens] at last
        simp only [oven_isDone] at last
        exact last
      · obtain ⟨⟨ring, overwrites, dish, records⟩, stock, loops, -⟩ := on isOn
        have ringIs : q.dish.ring = ring := congrArg Dish.ring dish
        have overwritesIs : q.dish.overwrites = overwrites := congrArg Dish.overwrites dish
        rw [← ringIs, ← overwritesIs] at dish records
        exact ⟨dish, records, loops, stock⟩
  case left =>
    intro s tag
    refine ⟨fun h => ?_, fun trip released => ?_⟩
    · rw [show exec (.clearTrip tag) s = .next (s.answer 0xA0 tag (clearTrip s.part)) from rfl, clearTrip_refused _ h]
    · have works := s.part.leaveTrip_works
      have interlock := s.part.leaveTrip_interlock
      have slot := s.part.leaveTrip_slot
      have others (m : Fin 16) := s.part.leaveTrip_others (m := m)
      have apart := s.part.leaveTrip_apart
      have freed := Part.leaveTrip_freed (p := s.part)
      refine ⟨_, rfl, ?_⟩
      rw [clearTrip_taken s.part trip released]
      generalize s.part.leaveTrip = q at *
      refine ⟨works.answered_part 0xA0 tag { status := .ok }, works.kept_part 0xA0 tag { status := .ok }, interlock,
        slot, others, apart, fun held isTrip => ?_⟩
      obtain ⟨reasons, state, wash, booster, -⟩ := freed held isTrip
      obtain ⟨washSp, washBase, -⟩ := wash.asked_auto
      obtain ⟨boosterSp, boosterBase, -⟩ := booster.asked_auto
      refine ⟨reasons, state, washSp, boosterSp, ?_, (wash.answer 0xA0 tag _).autoStarted,
        (booster.answer 0xA0 tag _).autoStarted⟩
      rintro m (rfl | rfl)
      · exact washBase
      · exact boosterBase

end Sys2Proof.Machine
end

section
/-!
Chapter 3: CONFIGURE HEATER and CONFIGURE FEEDER (R43, R45 to R47).
-/

namespace Sys2Proof.Machine

/-! ## CONFIGURE HEATER (R43) -/

/-- The heater's entry under a new rating, its share taken out of the totals, with the mark that R43 asks for. -/
def Part.heaterRated (n : Fin 16) (rated : Nat) (p : Part) : Part :=
  let a := p.feeder.heaters.get n
  let q := p.setHeater n { a.cut with rated }
  ({ q with feeder := { q.feeder with
      grantedTotal := q.feeder.grantedTotal - a.assigned
      deliveredTotal := q.feeder.deliveredTotal - a.delivered } } : Part).mark .heater n.val

section Rated

variable (p : Part) {heater : Byte} {rated : Half}

theorem configureHeater_outOfRange (out : 16 ≤ heater.toNat ∨ 60000 < rated.toNat) :
    configureHeater heater rated p = (p, { status := .range }) := by
  unfold configureHeater
  split
  · rfl
  · next n found =>
    rw [index_eq_some] at found
    exact if_pos (out.resolve_left (by omega))

variable (inTable : heater.toNat < 16) (inRange : rated.toNat ≤ 60000)
include inTable inRange

theorem configureHeater_on (on : (p.loops.get ⟨heater.toNat, inTable⟩).base ≠ .off) :
    configureHeater heater rated p = (p, { status := .state }) := by
  simp only [configureHeater, index_of_lt inTable, if_neg (not_lt.mpr inRange)]
  split
  · rfl
  · rfl
  · next off => exact absurd off on

theorem configureHeater_taken (off : (p.loops.get ⟨heater.toNat, inTable⟩).base = .off) :
    configureHeater heater rated p = (p.heaterRated ⟨heater.toNat, inTable⟩ rated.toNat, { status := .ok }) := by
  simp only [configureHeater, index_of_lt inTable, if_neg (not_lt.mpr inRange), off, Part.heaterRated]

end Rated

section Rated

variable (p : Part) (n : Fin 16) (rated : Nat)

theorem Part.heaterRated_works : Works { feeder := true } [] p (p.heaterRated n rated) :=
  ((Part.setHeater_works p _ _ _).trans (Works.feeder _ _ _)).trans (Works.mark _ _ _ _ rfl)

theorem Part.heaterRated_feeder : (p.heaterRated n rated).feeder = { p.feeder with
    heaters := p.feeder.heaters.set n { (p.feeder.heaters.get n).cut with rated }
    grantedTotal := p.feeder.grantedTotal - (p.feeder.heaters.get n).assigned
    deliveredTotal := p.feeder.deliveredTotal - (p.feeder.heaters.get n).delivered } := by
  simp [Part.heaterRated]

theorem Part.heaterRated_marked : Mark.mk .heater n.val ∈ (p.heaterRated n rated).desk.link.changeSet :=
  Link.mem_mark_changeSet _ _ _

end Rated

/-! ## CONFIGURE FEEDER (R45) -/

/-- The three values stored, and what follows from them (R46, R47). -/
def Part.feederSet (limit reduced starveTime : Nat) (p : Part) : Part :=
  ({ p with feeder := { p.feeder with limit, reduced, starveTime } } : Part).reduceChange

theorem configureFeeder_taken (p : Part) {limit reduced : Word} {starveTime : Half} (limitOk : limit.toNat ≤ 600000)
    (reducedOk : reduced.toNat ≤ limit.toNat) (low : 60 ≤ starveTime.toNat) (high : starveTime.toNat ≤ 1800) :
    configureFeeder limit reduced starveTime p =
      (p.feederSet limit.toNat reduced.toNat starveTime.toNat, { status := .ok }) := by
  refine if_neg ?_
  simp only [Bool.or_eq_true, decide_eq_true_eq, Bool.not_eq_true', ← Bool.not_eq_true, within_iff]
  omega

theorem configureFeeder_outOfRange (p : Part) {limit reduced : Word} {starveTime : Half}
    (out : 600000 < limit.toNat ∨ limit.toNat < reduced.toNat ∨ starveTime.toNat < 60 ∨ 1800 < starveTime.toNat) :
    configureFeeder limit reduced starveTime p = (p, { status := .range }) := by
  refine if_pos ?_
  simp only [Bool.or_eq_true, decide_eq_true_eq, Bool.not_eq_true', ← Bool.not_eq_true, within_iff]
  omega

/-- Settles O22: the heater's record by the request's one entry, the feeder's by its equation. -/
theorem heaterAndFeederConfigurationsAreStored : Obligations.HeaterAndFeederConfigurationsAreStored := by
  refine ⟨?taken, ?refused, ?feeder⟩
  case taken =>
    intro s tag heater rated inTable n inRange off
    have works := s.part.heaterRated_works n rated.toNat
    have feeder := s.part.heaterRated_feeder n rated.toNat
    have marked := s.part.heaterRated_marked n rated.toNat
    refine ⟨_, rfl, ?_⟩
    rw [configureHeater_taken s.part inTable inRange off]
    generalize s.part.heaterRated n rated.toNat = q at *
    have heaters := congrArg Feeder.heaters feeder
    refine ⟨works.answered_part 0x30 tag { status := .ok }, fun m other => ?_, ?_, ?_, ?_⟩
    · exact (congrArg (·.get m) heaters).trans (Table.get_set_ne _ _ other)
    · exact (congrArg (·.get n) heaters).trans (Table.get_set_self _ _ _)
    · rw [State.answer_feeder, feeder]
    · rw [State.answer_changeSet]
      exact marked
  case refused =>
    intro s tag heater rated
    refine ⟨fun out => ?_, fun inTable inRange on => ?_⟩
    · simp only [exec, execConfigureHeater, configureHeater_outOfRange s.part out]
    · simp only [exec, execConfigureHeater, configureHeater_on s.part inTable inRange on]
  case feeder =>
    intro s tag limit reduced starveTime asked
    refine ⟨fun limitOk reducedOk low high => ?_, fun out => ?_⟩
    · simp only [exec, execConfigureFeeder, configureFeeder_taken s.part limitOk reducedOk low high]
      rfl
    · simp only [exec, execConfigureFeeder, configureFeeder_outOfRange s.part out]

end Sys2Proof.Machine
end

section
/-!
Chapter 3: an allocation round (R48 to R54, R56). The budget is applied, the grants are stored and reported, and each
heater's starvation is judged on its own entry, its own loop's demand and its own slot.
-/

namespace Sys2Proof.Machine

/-! ## The budget applied (R48, R47) -/

/-- The applied budget of the round: a lower requested budget waits while heater 15 is locked (R48, R49). -/
def Part.roundBudget (p : Part) : Nat :=
  if p.feeder.requested < p.feeder.applied ∧ (p.feeder.heaters.get 15).locked = true then p.feeder.applied
  else p.feeder.requested

/-- The round's first step. -/
def Part.budgeted (p : Part) : Part := ({ p with feeder := p.feeder.applyBudget } : Part).judgeReducedAck

/-! ## Heaters taken in turn -/

section Each

variable (p : Part)

/-- Heaters replaced one by one, each by a function of its number and its entry. -/
theorem Part.eachHeater_own (f : Fin 16 → Heater → Heater) (n : Fin 16) :
    (p.eachHeater fun n q => q.setHeater n (f n (q.feeder.heaters.get n))).feeder.heaters.get n =
      f n (p.feeder.heaters.get n) :=
  foldl_finRange_get (fun q n => q.feeder.heaters.get n) _ f (fun q n => by simp)
    (fun q n m other => by simp [Table.get_set_ne _ _ other]) p n

/-- Nothing else of the allocator changes with them. -/
theorem Part.eachHeater_rest (f : Fin 16 → Heater → Heater) (heaters : Table Heater 16) :
    { (p.eachHeater fun n q => q.setHeater n (f n (q.feeder.heaters.get n))).feeder with heaters } =
      { p.feeder with heaters } :=
  foldl_kept (fun q : Part => { q.feeder with heaters }) (fun q n => q.setHeater n (f n (q.feeder.heaters.get n)))
    (fun q n => by simp) (List.finRange 16) p

end Each

section Round

variable (p : Part)

theorem Part.budgeted_feeder : p.budgeted.feeder = { p.feeder with
    round := p.feeder.round + 1, applied := p.roundBudget
    pending := decide (p.feeder.requested < p.feeder.applied ∧ (p.feeder.heaters.get 15).locked = true)
    reducedAck := p.asserted .feederReduce && decide (p.roundBudget = p.feeder.reduced) } := by
  unfold Part.budgeted Part.judgeReducedAck Part.roundBudget Feeder.applyBudget
  by_cases waits : p.feeder.requested < p.feeder.applied ∧ (p.feeder.heaters.get 15).locked = true
  · simp [waits, Part.asserted]
  · have free : ¬ ((decide (p.feeder.requested < p.feeder.applied) && (p.feeder.heaters.get 15).locked) = true) := by
      simpa using waits
    simp only [if_neg waits, if_neg free, decide_eq_false waits]
    rfl

/-- The demand powers are read from entries and loops, which the budget leaves. -/
theorem Part.budgeted_power (n : Fin 16) : p.budgeted.power n = p.power n := by
  unfold Part.power
  rw [p.budgeted_feeder]
  rfl

theorem Part.budgeted_heaters : p.budgeted.feeder.heaters = p.feeder.heaters := by
  rw [p.budgeted_feeder]

theorem Part.budgeted_classTotal (c : HeaterClass) : p.budgeted.classTotal c = p.classTotal c := by
  refine congrArg List.sum (List.map_congr_left fun n _ => ?_)
  rw [p.budgeted_power, p.budgeted_heaters]

/-! ## The grants stored and reported (R50 to R53) -/

theorem Part.storeGrants_heater (n : Fin 16) : p.storeGrants.feeder.heaters.get n =
    (p.feeder.heaters.get n).granted p.feeder.round (p.roundWatts n) := by
  have own := p.eachHeater_own (fun n a => a.granted p.feeder.round (p.roundWatts n)) n
  unfold Part.storeGrants
  generalize p.eachHeater _ = stored at *
  exact own

/-- The totals are those of the table as it stands (R50, R51). -/
theorem Feeder.withTotals_eq (f : Feeder) : f.withTotals = { f with
    grantedTotal := ((List.finRange 16).map fun n => (f.heaters.get n).assigned).sum
    deliveredTotal := ((List.finRange 16).map fun n => (f.heaters.get n).delivered).sum } := by
  simp [Feeder.withTotals, Table.items_eq_map_get, Function.comp_def]

theorem Part.storeGrants_feeder : p.storeGrants.feeder = { p.feeder with
    heaters := p.storeGrants.feeder.heaters, nextStep := 0
    grantedTotal := ((List.finRange 16).map fun n => (p.storeGrants.feeder.heaters.get n).assigned).sum
    deliveredTotal := ((List.finRange 16).map fun n => (p.storeGrants.feeder.heaters.get n).delivered).sum } := by
  have rest := p.eachHeater_rest fun n a => a.granted p.feeder.round (p.roundWatts n)
  unfold Part.storeGrants
  dsimp only
  generalize p.eachHeater _ = stored at *
  have kept : stored.feeder = { p.feeder with heaters := stored.feeder.heaters } := rest stored.feeder.heaters
  generalize stored.feeder = f at *
  rw [f.withTotals_eq]
  generalize f.heaters = table at *
  rw [kept]

theorem Part.reportGrants_loop (n : Fin 16) : p.reportGrants.loops.get n =
    { p.loops.get n with grant := (p.feeder.heaters.get n).grant, grantRound := p.feeder.round } :=
  Table.get_ofFn _ _

end Round

/-! ## Starvation (R54, R56) -/

/-- What the judgement of a heater's starvation reads, and the two records it writes. -/
structure StarveView where
  heater : Heater
  slot   : Slot
  demand : Nat
  time   : Nat
  trip   : Bool
  now    : Word

/-- The view of a heater. -/
def Part.starveView (p : Part) (n : Fin 16) : StarveView :=
  { heater := p.feeder.heaters.get n, slot := p.desk.conds.get (starvedSlot n), demand := (p.loops.get n).demand
    time := p.feeder.starveTime, trip := p.interlock.trip, now := p.uptime }

namespace StarveView

variable (v : StarveView)

/-- The heater is rated and its demand is more than 50 above its grant, outside the trip state. -/
abbrev Short : Prop := v.trip = false ∧ 0 < v.heater.rated ∧ v.heater.grant + 50 < v.demand

/-- The starve timer of a short heater, 2 s on. -/
def timer : Nat := min 1800 (v.heater.starve + 2)

/-- The heater's entry once it is judged. -/
def judgedHeater : Heater :=
  if v.Short then { v.heater with starve := v.timer, starved := v.heater.starved || decide (v.time ≤ v.timer) }
  else { v.heater with starve := 0, starved := false }

/-- The heater's STARVED condition once it is judged. -/
def judgedSlot : Slot :=
  if v.Short then
    if v.time ≤ v.timer ∧ v.heater.starved = false then v.slot.raise v.now (BitVec.ofNat 16 v.heater.grant) else v.slot
  else if v.heater.starved then v.slot.ret else v.slot

/-- The view once the heater is judged. -/
def judged : StarveView := { v with heater := v.judgedHeater, slot := v.judgedSlot }

end StarveView

theorem starvedSlot_ne_unanswered (n : Fin 16) : starvedSlot n ≠ unansweredSlot := by
  revert n
  decide

theorem starvedSlot_isCondition (n : Fin 16) : isEventKind (starvedSlot n) = false := by
  revert n
  decide

theorem starvedSlot_injective {n m : Fin 16} (same : starvedSlot n = starvedSlot m) : n = m := by
  simp only [starvedSlot, Fin.ext_iff] at same
  exact Fin.ext (by omega)

section Judged

variable (p : Part) (n : Fin 16)

/-- The judgement's own test for a short heater. -/
theorem Part.short_iff :
    (!p.interlock.trip && decide (0 < (p.feeder.heaters.get n).rated) &&
      decide ((p.feeder.heaters.get n).grant + 50 < (p.loops.get n).demand)) = true ↔ (p.starveView n).Short := by
  simp [Part.starveView, and_assoc]

theorem Part.judgeStarved_feeder : (p.judgeStarved n).feeder =
    { p.feeder with heaters := p.feeder.heaters.set n (p.starveView n).judgedHeater } := by
  simp only [Part.judgeStarved, p.short_iff]
  by_cases short : (p.starveView n).Short
  · simp only [if_pos short, StarveView.judgedHeater]
    split
    · next due =>
      simp only [Bool.and_eq_true, decide_eq_true_eq] at due
      simp [Part.starveView, StarveView.timer, due.1]
    · next early =>
      simp only [Bool.and_eq_true, decide_eq_true_eq, Bool.not_eq_true', not_and_or, Bool.not_eq_false] at early
      rcases early with early | starved
      · simp [Part.starveView, StarveView.timer, early]
      · simp [Part.starveView, StarveView.timer, starved]
  · simp only [if_neg short, StarveView.judgedHeater]
    split
    · simp [Part.starveView]
    · next fed =>
      simp [Part.starveView, Bool.eq_false_iff.mpr fed]

theorem Part.judgeStarved_slot : (p.judgeStarved n).desk.conds.get (starvedSlot n) = (p.starveView n).judgedSlot := by
  simp only [Part.judgeStarved, p.short_iff]
  by_cases short : (p.starveView n).Short
  · simp only [if_pos short, StarveView.judgedSlot]
    have due_iff : (decide (p.feeder.starveTime ≤ min 1800 ((p.feeder.heaters.get n).starve + 2)) &&
        !(p.feeder.heaters.get n).starved) = true ↔
        (p.starveView n).time ≤ (p.starveView n).timer ∧ (p.starveView n).heater.starved = false := by
      simp [Part.starveView, StarveView.timer]
    simp only [due_iff]
    split
    · rw [Part.raise_desk, Desk.raise_slot _ _ _ _ (starvedSlot_ne_unanswered n), starvedSlot_isCondition]
      simp [Part.starveView]
    · simp [Part.starveView]
  · simp only [if_neg short, StarveView.judgedSlot]
    split
    · next starved => simp [Part.starveView, starved]
    · next fed => simp [Part.starveView, fed]

theorem Part.judgeStarved_view : (p.judgeStarved n).starveView n = (p.starveView n).judged := by
  have works := p.judgeStarved_works n
  have touches := works.moves.touches
  have interlock := touches.interlock rfl
  have loops := touches.loops rfl
  have uptime := touches.uptime
  unfold Part.starveView StarveView.judged
  simp only [p.judgeStarved_feeder, p.judgeStarved_slot, interlock, loops, uptime]
  simp [Part.starveView]

/-- The judgement of one heater leaves the others' views as they were. -/
theorem Part.judgeStarved_view_ne {m : Fin 16} (other : m ≠ n) : (p.judgeStarved n).starveView m = p.starveView m := by
  have works := p.judgeStarved_works n
  have touches := works.moves.touches
  have interlock := touches.interlock rfl
  have loops := touches.loops rfl
  have uptime := touches.uptime
  have slot : (p.judgeStarved n).desk.conds.get (starvedSlot m) = p.desk.conds.get (starvedSlot m) :=
    works.desk.slots _ (by simpa using fun same => other (starvedSlot_injective same)) (starvedSlot_ne_unanswered m)
  unfold Part.starveView
  simp only [p.judgeStarved_feeder, slot, interlock, loops, uptime]
  simp [Table.get_set_ne _ _ other]

/-- Every heater is judged once, on the view it had before the first was. -/
theorem Part.eachJudged_view : (p.eachHeater Part.judgeStarved).starveView n = (p.starveView n).judged :=
  foldl_finRange_get (fun q m => q.starveView m) _ (fun _ => StarveView.judged) (fun q m => q.judgeStarved_view m)
    (fun q _ _ other => q.judgeStarved_view_ne _ other) p n

theorem Part.eachJudged_rest (heaters : Table Heater 16) :
    { (p.eachHeater Part.judgeStarved).feeder with heaters } = { p.feeder with heaters } :=
  foldl_kept (fun q : Part => { q.feeder with heaters }) (fun q m => q.judgeStarved m)
    (fun q m => by simp [q.judgeStarved_feeder]) (List.finRange 16) p

end Judged

end Sys2Proof.Machine
end

section
/-!
Chapter 3: the obligations about an allocation round (R48 to R54, R56).
-/

namespace Sys2Proof.Machine

section Round

variable (p : Part)

/-- The round before starvation is judged. -/
def Part.allocated : Part := p.budgeted.storeGrants.reportGrants

theorem Part.allocationRound_allocated : p.allocationRound = p.allocated.eachHeater Part.judgeStarved := rfl

theorem Part.budgeted_works (own : List (Fin 87)) : Works { feeder := true } own p p.budgeted :=
  (Works.feeder p own _).trans (Works.feeder _ own _)

theorem Part.allocated_works : Works { feeder := true, loops := true } [] p p.allocated :=
  ((p.budgeted_works []).trans (Part.storeGrants_works _ [])).widen.trans (Part.reportGrants_works _ []).widen

theorem Part.budgeted_loops : p.budgeted.loops = p.loops := (p.budgeted_works []).moves.touches.loops rfl

theorem Part.allocated_feeder : p.allocated.feeder = p.budgeted.storeGrants.feeder := rfl

theorem Part.allocated_heater (n : Fin 16) : p.allocated.feeder.heaters.get n =
    (p.feeder.heaters.get n).granted (p.feeder.round + 1) (p.budgeted.roundWatts n) := by
  rw [p.allocated_feeder, p.budgeted.storeGrants_heater, p.budgeted_feeder]

theorem Part.allocated_loop (n : Fin 16) : p.allocated.loops.get n = { p.loops.get n with
    grant := (p.allocated.feeder.heaters.get n).grant, grantRound := p.feeder.round + 1 } := by
  have loops : p.budgeted.storeGrants.loops = p.loops :=
    ((Part.storeGrants_works p.budgeted []).moves.touches.loops rfl).trans p.budgeted_loops
  have round : p.budgeted.storeGrants.feeder.round = p.feeder.round + 1 := by
    rw [p.budgeted.storeGrants_feeder, p.budgeted_feeder]
  rw [Part.allocated, Part.reportGrants_loop, loops, round]
  rfl

/-- What the round's judgement of starvation reads: the new grant, and all else as before the round. -/
theorem Part.allocated_view (n : Fin 16) : p.allocated.starveView n =
    { p.starveView n with
      heater := (p.feeder.heaters.get n).granted (p.feeder.round + 1) (p.budgeted.roundWatts n) } := by
  have works := p.allocated_works
  have touches := works.moves.touches
  have interlock := touches.interlock rfl
  have uptime := touches.uptime rfl
  have slot := works.desk.slots _ List.not_mem_nil (starvedSlot_ne_unanswered n)
  have demand : (p.allocated.loops.get n).demand = (p.loops.get n).demand := by rw [p.allocated_loop]
  have time : p.allocated.feeder.starveTime = p.feeder.starveTime := by
    rw [p.allocated_feeder, p.budgeted.storeGrants_feeder, p.budgeted_feeder]
  unfold Part.starveView
  rw [p.allocated_heater, interlock, uptime, slot, demand, time]

/-- The whole round on one heater and its STARVED slot. -/
theorem Part.allocationRound_view (n : Fin 16) : p.allocationRound.starveView n =
    ({ p.starveView n with
      heater := (p.feeder.heaters.get n).granted (p.feeder.round + 1) (p.budgeted.roundWatts n) } :
      StarveView).judged := by
  rw [p.allocationRound_allocated, Part.eachJudged_view, p.allocated_view]

theorem Part.allocationRound_loops : p.allocationRound.loops = p.allocated.loops := by
  have kept := foldl_kept Part.loops (fun q n => q.judgeStarved n)
    (fun q n => (q.judgeStarved_works n).moves.touches.loops rfl) (List.finRange 16) p.allocated
  exact kept

theorem Part.allocationRound_feeder : p.allocationRound.feeder = { p.feeder with
    heaters := p.allocationRound.feeder.heaters, round := p.feeder.round + 1, applied := p.roundBudget
    pending := decide (p.feeder.requested < p.feeder.applied ∧ (p.feeder.heaters.get 15).locked = true)
    reducedAck := p.asserted .feederReduce && decide (p.roundBudget = p.feeder.reduced), nextStep := 0
    grantedTotal := ((List.finRange 16).map p.budgeted.roundWatts).sum
    deliveredTotal := ((List.finRange 16).map fun n => (p.feeder.heaters.get n).rated *
      grantOf (p.budgeted.roundWatts n) (p.feeder.heaters.get n).rated / 1000).sum } := by
  have rest := p.allocated.eachJudged_rest p.allocationRound.feeder.heaters
  rw [← p.allocationRound_allocated] at rest
  generalize p.allocationRound.feeder = f at *
  have allocated : f = { p.allocated.feeder with heaters := f.heaters } := rest
  generalize f.heaters = table at *
  rw [allocated, p.allocated_feeder, p.budgeted.storeGrants_feeder]
  simp only [p.budgeted.storeGrants_heater, p.budgeted_feeder]
  rfl

/-- What a judgement of starvation leaves of an entry: all but the starve timer and the flag. -/
theorem StarveView.judgedHeater_rest (v : StarveView) : v.judgedHeater = { v.heater with
    starve := v.judgedHeater.starve, starved := v.judgedHeater.starved } := by
  unfold StarveView.judgedHeater
  split <;> rfl

theorem Part.allocationRound_heater (n : Fin 16) : p.allocationRound.feeder.heaters.get n =
    { (p.feeder.heaters.get n).granted (p.feeder.round + 1) (p.budgeted.roundWatts n) with
      starve := (p.allocationRound.feeder.heaters.get n).starve
      starved := (p.allocationRound.feeder.heaters.get n).starved } := by
  have judged := congrArg StarveView.heater (p.allocationRound_view n)
  have heater : p.allocationRound.feeder.heaters.get n = StarveView.judgedHeater _ := judged
  rw [heater]
  exact StarveView.judgedHeater_rest _

end Round

end Sys2Proof.Machine
end

section
/-!
Chapter 3: the watts of an allocation round (R50, R56), and what it makes of the grants and of starvation (R48 to R54).
-/

namespace Sys2Proof.Machine

/-- A class is served where every earlier one was served whole (R50). -/
def Part.classServed (p : Part) : HeaterClass → Bool
  | .sanitise => true
  | .service => decide (p.classTotal .sanitise ≤ p.roundBudget)
  | .standby => decide (p.classTotal .sanitise ≤ p.roundBudget) &&
      decide (p.classTotal .service ≤ p.roundBudget - p.classTotal .sanitise)

/-- What the earlier classes leave of the round's budget (R50). -/
def Part.classLeft (p : Part) : HeaterClass → Nat
  | .sanitise => p.roundBudget
  | .service => p.roundBudget - p.classTotal .sanitise
  | .standby => p.roundBudget - p.classTotal .sanitise - p.classTotal .service

/-- The watts of the round, on the records before it. -/
theorem Part.budgeted_roundWatts (p : Part) (n : Fin 16) : p.budgeted.roundWatts n =
    if p.interlock.trip then 0
    else shareOf (p.classServed (p.feeder.heaters.get n).cls) (p.classLeft (p.feeder.heaters.get n).cls)
      (p.classTotal (p.feeder.heaters.get n).cls) (p.power n) := by
  have interlock := (p.budgeted_works []).moves.touches.interlock rfl
  have applied : p.budgeted.feeder.applied = p.roundBudget := by rw [p.budgeted_feeder]
  simp only [Part.roundWatts, Part.assignedWatts, interlock, applied, p.budgeted_classTotal, p.budgeted_power,
    p.budgeted_heaters]
  cases (p.feeder.heaters.get n).cls <;> rfl

/-- Settles O23: the round's equations for the allocator, an entry and a loop, with the watts class by class. -/
theorem allocationRoundDividesTheBudget : Obligations.AllocationRoundDividesTheBudget := by
  intro s f waits budget power total part second third watts grant
  have watts_eq : s.part.budgeted.roundWatts = watts := by
    funext m
    have total_eq : total = s.part.classTotal := rfl
    have power_eq : power = s.part.power := rfl
    have budget_eq : budget = s.part.roundBudget := rfl
    have cls_eq : (s.heater m).cls = (s.part.feeder.heaters.get m).cls := rfl
    rw [s.part.budgeted_roundWatts]
    simp only [watts, part, second, third, total_eq, power_eq, budget_eq, cls_eq]
    unfold Part.classServed Part.classLeft
    generalize s.part.classTotal = classTotal
    cases (s.part.feeder.heaters.get m).cls with
    | sanitise => simp [shareOf]
    | service => simp [shareOf]
    | standby => simp [shareOf]
  refine ⟨_, rfl, s.part.allocationRound_works.happened, ?allocator, fun m => ⟨?entry, ?loop⟩⟩
  case allocator =>
    have feeder := s.part.allocationRound_feeder
    rw [watts_eq] at feeder
    rw [State.event_feeder]
    generalize s.part.allocationRound = q at *
    exact feeder
  case entry =>
    have heater := s.part.allocationRound_heater m
    rw [watts_eq] at heater
    generalize s.part.allocationRound = q at *
    exact heater
  case loop =>
    have loop := s.part.allocated_loop m
    rw [← s.part.allocationRound_loops, s.part.allocated_heater, watts_eq] at loop
    generalize s.part.allocationRound = q at *
    exact loop

/-- Settles O24: each heater's judgement on its own view, and the round's footprint at the desk. -/
theorem allocationRoundJudgesStarvation : Obligations.AllocationRoundJudgesStarvation := by
  intro s
  refine ⟨_, rfl, fun i others answered => ?slots, fun m => ?heater⟩
  case slots =>
    refine s.part.allocationRound_works.event_kept.slots i (fun own => ?_) answered
    obtain ⟨m, _, same⟩ := List.mem_map.mp own
    exact others m same.symm
  case heater =>
    have view := s.part.allocationRound_view m
    generalize s.part.allocationRound = q at *
    intro short timer due
    generalize s.part.budgeted.roundWatts m = watts at *
    generalize read : ({ s.part.starveView m with
      heater := (s.part.feeder.heaters.get m).granted (s.part.feeder.round + 1) watts } : StarveView) = v at view
    have heater : (s.event q).heater m = v.judgedHeater := congrArg StarveView.heater view
    have slot : (s.event q).slot (starvedSlot m) = v.judgedSlot := congrArg StarveView.slot view
    have grant : ((s.event q).heater m).grant = v.heater.grant := by
      rw [heater, v.judgedHeater_rest]
    have short_iff : short ↔ v.Short := by
      simp only [short, grant]
      subst read
      exact Iff.rfl
    have timer_eq : timer = v.timer := by
      subst read
      rfl
    have starved_eq : (s.heater m).starved = v.heater.starved := by
      subst read
      rfl
    have time_eq : s.part.feeder.starveTime = v.time := by
      subst read
      rfl
    have now_eq : s.part.uptime = v.now := by
      subst read
      rfl
    have slot_eq : s.slot (starvedSlot m) = v.slot := by
      subst read
      rfl
    rw [slot, grant, heater, starved_eq, slot_eq, now_eq]
    simp only [due, timer_eq, time_eq]
    refine ⟨fun isShort => ?_, fun notShort => ?_⟩
    · have isShort := short_iff.mp isShort
      simp only [StarveView.judgedHeater, StarveView.judgedSlot, if_pos isShort]
      refine ⟨trivial, by simp, fun fresh due => if_pos ⟨due, fresh⟩, fun past => if_neg ?_⟩
      rintro ⟨due, fresh⟩
      exact past.elim (by simp [fresh]) (· due)
    · have notShort := fun isShort => notShort (short_iff.mpr isShort)
      simp only [StarveView.judgedHeater, StarveView.judgedSlot, if_neg notShort]
      trivial

end Sys2Proof.Machine
end

section
/-!
Chapter 3: the burst steps (R53).
-/

namespace Sys2Proof.Machine

section Burst

variable (f : Feeder)

theorem Feeder.burstStep_within (within : f.nextStep < 1000) : f.burstStep =
    { f with heaters := f.burstStep.heaters, nextStep := f.nextStep + 1 } := by
  simp only [Feeder.burstStep, if_pos within]

theorem Feeder.burstStep_heater (within : f.nextStep < 1000) (n : Fin 16) : f.burstStep.heaters.get n =
    { f.heaters.get n with output := burstOn (f.heaters.get n).grant f.nextStep } := by
  simp [Feeder.burstStep, if_pos within]

theorem Feeder.burstStep_past (past : 1000 ≤ f.nextStep) : f.burstStep = f := if_neg (by omega)

end Burst

/-- The steps up to the `n`th in which a grant is on: each step adds what the floor of its share rises by. -/
theorem burstOn_count {q : Nat} (le : q ≤ 1000) (n : Nat) :
    ((List.range n).filter fun k => burstOn q k).length = n * q / 1000 := by
  induction n with
  | zero => simp
  | succ n ih =>
    rw [List.range_succ, List.filter_append, List.length_append, ih]
    have rise : (n + 1) * q = n * q + q := Nat.succ_mul n q
    by_cases on : burstOn q n = true
    · have above : n * q / 1000 < (n + 1) * q / 1000 := of_decide_eq_true on
      simp only [List.filter_cons, on, List.filter_nil, if_true, List.length_singleton]
      omega
    · have level : ¬ n * q / 1000 < (n + 1) * q / 1000 := fun above => on (decide_eq_true above)
      simp only [List.filter_cons, on, List.filter_nil, Bool.false_eq_true, if_false, List.length_nil]
      omega

/-- Settles O25: a step's equations for the allocator and an entry, and the count of a grant's steps. -/
theorem burstStepsGiveEachGrantItsShare : Obligations.BurstStepsGiveEachGrantItsShare := by
  refine ⟨fun s within => ?step, fun s past => ?past, fun q le => ?share⟩
  case step =>
    have works := Works.feeder s.part [] s.part.feeder.burstStep
    exact ⟨_, rfl, works.happened, s.part.feeder.burstStep_within within,
      fun m => s.part.feeder.burstStep_heater within m, rfl⟩
  case past =>
    have same : ({ s.part with feeder := s.part.feeder.burstStep } : Part) = s.part := by
      rw [s.part.feeder.burstStep_past past]
    exact congrArg (fun p => Host.Outcome.next (s.event p)) same
  case share =>
    rw [burstOn_count le, Nat.mul_div_cancel_left q (by omega)]

end Sys2Proof.Machine
end

section
/-!
Chapter 6: RUN, STOP and DISH OFF (R106, R107, R110).
-/

namespace Sys2Proof.Machine

/-! ## The lock of heater 15 behind the rinse valve (R49, R116) -/

section Valve

variable (p : Part)

theorem Part.setValve_feeder (isOpen : Bool) : (p.setValve isOpen).feeder = { p.feeder with
    heaters := p.feeder.heaters.set 15 { p.feeder.heaters.get 15 with
      locked := lockAfter p.dish.valveOpen isOpen (p.feeder.heaters.get 15).locked } } := by
  unfold Part.setValve lockAfter
  by_cases same : isOpen = p.dish.valveOpen
  · rw [if_pos same, if_pos same.symm, Table.set_get_self]
  · rw [if_neg same, if_neg (Ne.symm same)]
    simp [Part.valveNotice]

theorem Part.stopTunnel_feeder (state : DishState) (reasons : HoldReasons) : (p.stopTunnel state reasons).feeder =
    { p.feeder with heaters := p.feeder.heaters.set 15 { p.feeder.heaters.get 15 with
        locked := lockAfter p.dish.valveOpen false (p.feeder.heaters.get 15).locked } } := by
  rw [Part.stopTunnel, Part.setValve_feeder]
  simp

end Valve

/-! ## RUN (R106) -/

/-- The conveyor started. -/
def Part.tunnelRun (p : Part) : Part :=
  (p.setDish { p.dish with state := .running, conveyor := true, coldTimer := 0 }).judgeGate.judgeValve

theorem runTunnel_tripped {p : Part} (trip : p.interlock.trip = true) :
    runTunnel p = (p, { status := .tripped }) := if_pos trip

section Run

variable {p : Part} (clear : p.interlock.trip = false)
include clear

theorem runTunnel_taken (ready : p.dish.state = .ready) (shut : p.asserted .dishDoor = false)
    (free : p.asserted .conveyorOverload = false) : runTunnel p = (p.tunnelRun, { status := .ok }) := by
  simp only [runTunnel, clear, ready, shut, free]
  rfl

theorem runTunnel_state (unfit : p.dish.state ≠ .ready ∨
    ¬ (p.asserted .dishDoor = false ∧ p.asserted .conveyorOverload = false)) :
    runTunnel p = (p, { status := .state }) := by
  unfold runTunnel
  rw [if_neg (by simp [clear]), if_neg]
  rintro fit
  simp only [Bool.and_eq_true, decide_eq_true_eq, Bool.not_eq_true'] at fit
  obtain ⟨⟨ready, shut⟩, free⟩ := fit
  exact unfit.elim (· ready) (· ⟨shut, free⟩)

theorem Part.tunnelRun_dish : p.tunnelRun.dish = { p.dish with
    state := .running, conveyor := true, coldTimer := 0, valveOpen := rinsing p.dish.cfg p.dish.queue
    gateOpen := decide (p.dish.queue.length < 12) && p.dish.tankWarm && p.dish.boosterHot && !p.dish.rinseFail } := by
  simp [Part.tunnelRun, Part.judgeGate, Part.judgeValve, Part.gateTerms, Dish.valveTerms, clear]
  rfl

end Run

section Run

variable (p : Part)

theorem Part.tunnelRun_works : Works { dish := true, feeder := true } [] p p.tunnelRun :=
  ((Part.setDish_works p _ _).trans (Part.judgeGate_works _ _)).widen.trans (Part.judgeValve_works _ _)

theorem Part.tunnelRun_feeder : p.tunnelRun.feeder = { p.feeder with
    heaters := p.feeder.heaters.set 15 { p.feeder.heaters.get 15 with
      locked := lockAfter p.dish.valveOpen (rinsing p.dish.cfg p.dish.queue) (p.feeder.heaters.get 15).locked } } := by
  rw [Part.tunnelRun, Part.judgeValve, Part.setValve_feeder]
  simp [Part.judgeGate, Dish.valveTerms]
  rfl

end Run

/-! ## STOP (R107) -/

theorem stop_taken {p : Part} (runs : p.dish.state = .running) :
    stop p = (p.stopTunnel .ready p.dish.reasons, { status := .ok }) := by
  simp only [stop, runs]

theorem stop_state {p : Part} (still : p.dish.state ≠ .running) : stop p = (p, { status := .state }) := by
  unfold stop
  split
  · next runs => exact absurd runs still
  all_goals rfl

/-! ## DISH OFF (R110) -/

/-- The tunnel without its racks, in OFF with its loops OFF. -/
def Part.tunnelOff (p : Part) : Part := (p.stopTunnel .off {}).dishLoopsOff

/-- WASH_COLD at an end with its return. -/
def Part.coldEnded (p : Part) : Part :=
  let warm := p.setDish { p.dish with washCold := false }
  if p.dish.washCold then warm.ret washColdSlot else warm

theorem Part.switchOff_eq (p : Part) : p.switchOff = (p.clearTunnel true).tunnelOff.coldEnded := rfl

theorem dishOff_off {p : Part} (off : p.dish.state = .off) : dishOff p = (p, { status := .ok }) := by
  simp only [dishOff, off]

theorem dishOff_on {p : Part} (on : p.dish.state ≠ .off) : dishOff p = (p.switchOff, { status := .ok }) := by
  unfold dishOff
  split
  · next off => exact absurd off on
  all_goals rfl

section Off

variable (p : Part)

theorem Part.tunnelOff_works : Works { dish := true, feeder := true, loops := true } [] p p.tunnelOff :=
  (Part.stopTunnel_works _ _ _ _).widen.trans (Part.dishLoopsOff_works _ _).widen

theorem Part.tunnelOff_dish : p.tunnelOff.dish = { p.dish with
    state := .off, reasons := { door := false, overload := false, lost := false, trip := false }
    conveyor := false, gateOpen := false, coldTimer := 0, valveOpen := false } := by
  refine ((Part.dishLoopsOff_works _ []).moves.touches.dish rfl).trans ?_
  rw [Part.stopTunnel_dish]

theorem Part.tunnelOff_valve : ValveMoves p p.tunnelOff := by
  have stopped : ValveMoves p (p.stopTunnel .off {}) := by
    refine (ValveMoves.setDish p _ ?_).trans (.setValve _ _)
    rfl
  have loops := Part.dishLoopsOff_works (p.stopTunnel .off {}) []
  have valve := congrArg Dish.valveOpen (loops.moves.touches.dish rfl)
  exact stopped.trans (.ofSame (loops.moves.touches.feeder rfl) valve)

theorem Part.tunnelOff_loops :
    p.tunnelOff.loops = (p.loops.set 14 (p.loops.get 14).stopped).set 15 (p.loops.get 15).stopped := by
  rw [Part.tunnelOff, Part.dishLoopsOff_loops, (Part.stopTunnel_works p [] _ _).moves.touches.loops rfl]

theorem Part.coldEnded_works : Works { dish := true, conds := true } [washColdSlot] p p.coldEnded := by
  unfold Part.coldEnded
  dsimp only
  split
  · exact (Part.setDish_works _ [washColdSlot] _).widen.trans (Part.ret_works_conds _ _).widen
  · exact (Part.setDish_works _ _ _).widen

theorem Part.coldEnded_dish : p.coldEnded.dish = { p.dish with washCold := false } := by
  unfold Part.coldEnded
  split <;> simp

theorem Part.coldEnded_slot : p.coldEnded.desk.conds.get washColdSlot =
    if p.dish.washCold then (p.desk.conds.get washColdSlot).ret else p.desk.conds.get washColdSlot := by
  unfold Part.coldEnded
  split <;> simp

end Off

/-- What DISH OFF makes of the tunnel that is not OFF. -/
structure SwitchedOff (p q : Part) : Prop where
  dish : ∃ ring overwrites, q.dish = { p.dish with
      state := .off, reasons := { door := false, overload := false, lost := false, trip := false }
      conveyor := false, gateOpen := false, valveOpen := false, coldTimer := 0, washCold := false, queue := []
      ring, overwrites } ∧
    (p.dish.ring.length ≤ 64 →
      ring = (p.dish.ring ++ p.unverifiedRacks).drop ((p.dish.ring ++ p.unverifiedRacks).length - 64) ∧
      (p.dish.overwrites ≤ 65535 →
        overwrites = min 65535 (p.dish.overwrites + ((p.dish.ring ++ p.unverifiedRacks).length - 64))))
  stock : ∀ kind, q.stock.get kind = (p.stock.get kind).soil (p.dish.plates kind)
  valve : ValveMoves p q
  loops : q.loops = (p.loops.set 14 (p.loops.get 14).stopped).set 15 (p.loops.get 15).stopped
  slot : q.desk.conds.get washColdSlot =
    if p.dish.washCold then (p.desk.conds.get washColdSlot).ret else p.desk.conds.get washColdSlot
  works : Works { rackFoot with loops := true } ([washColdSlot] ++ waveSlots) p q
  waves : ∀ w, noticedAt (fun v => ∃ r ∈ p.dish.queue, r.tells v) (ofPart p) (ofPart q) w
  table : NoticedTable p q

theorem washColdSlot_not_waveSlot : washColdSlot ∉ waveSlots := by decide

theorem Part.switchOff_switched (p : Part) : SwitchedOff p p.switchOff := by
  have left := p.clearTunnel_left
  have offWorks := (p.clearTunnel true).tunnelOff_works
  have offDish := (p.clearTunnel true).tunnelOff_dish
  have offValve := (p.clearTunnel true).tunnelOff_valve
  have offLoops := (p.clearTunnel true).tunnelOff_loops
  rw [Part.switchOff_eq]
  generalize (p.clearTunnel true).tunnelOff = o at *
  generalize p.clearTunnel true = c at *
  have works := o.coldEnded_works
  have dish := o.coldEnded_dish
  have slot := o.coldEnded_slot
  generalize o.coldEnded = q at *
  obtain ⟨ring, overwrites, joined⟩ := foldl_appendRing_rest p.unverifiedRacks { p.dish.body with queue := [] }
  have body := left.body.trans joined
  have washCold : c.dish.washCold = p.dish.washCold := (congrArg Dish.washCold body).trans rfl
  have ended := works.moves.touches
  have stopped := offWorks.moves.touches
  have tail : Works { rackFoot with loops := true } [washColdSlot] c q :=
    (offWorks.mono rfl (List.nil_subset _)).trans works.widen
  refine ⟨⟨ring, overwrites, ?dish, fun held => ⟨?ring, fun counted => ?overwrites⟩⟩, fun kind => ?stock,
    (left.valve.trans offValve).trans (.ofSame (ended.feeder rfl) ?valve), ?loops, ?slot,
    (left.works.mono rfl (List.subset_append_right _ _)).trans (tail.mono rfl (List.subset_append_left _ _)),
    fun w => ?waves, ?table⟩
  case dish =>
    have outer : c.dish = { c.dish.body with gateOpen := c.dish.gateOpen, valveOpen := c.dish.valveOpen } := rfl
    rw [dish, offDish, outer, body]
    rfl
  case ring =>
    have last := foldl_appendRing_ring p.unverifiedRacks { p.dish.body with queue := [] } held
    rwa [joined] at last
  case overwrites =>
    have count := foldl_appendRing_overwrites p.unverifiedRacks { p.dish.body with queue := [] } held counted
    rwa [joined] at count
  case stock => rw [ended.stock rfl, stopped.stock rfl, left.stock]
  case valve => rw [dish]
  case loops => rw [ended.loops rfl, offLoops, left.works.moves.touches.loops rfl]
  case slot =>
    have same : o.desk.conds.get washColdSlot = p.desk.conds.get washColdSlot :=
      (offWorks.desk.slots _ List.not_mem_nil (by decide)).trans
        (left.works.desk.slots _ washColdSlot_not_waveSlot (by decide))
    rw [slot, same, offDish, ← washCold]
  case waves =>
    refine noticedAt_between (left.waves w) ⟨rfl, rfl, rfl⟩ rfl ((WaveKept.of_works offWorks rfl (by simp) w).trans
      (.of_works works rfl (by simpa using washColdSlot_not_waveSlot) w)) ?_ fun _ _ => Iff.rfl
    exact ⟨(ended.ovens rfl).trans (stopped.ovens rfl), (ended.cabinets rfl).trans (stopped.cabinets rfl),
      (ended.stock rfl).trans (stopped.stock rfl)⟩
  case table =>
    have waves : q.waves = c.waves := (ended.waves rfl).trans (stopped.waves rfl)
    exact left.table.trans ⟨fun w none => by rw [waves]; exact none,
      fun w v stands => ⟨v, by rw [waves]; exact stands, .refl v, fun _ => rfl⟩⟩

/-- Settles O35: the equations of RUN, of STOP and of DISH OFF. -/
theorem runStopAndDishOffDriveTheTunnel : Obligations.RunStopAndDishOffDriveTheTunnel := by
  refine ⟨?drive, ?off⟩
  case drive =>
    intro s tag d shut valve
    refine ⟨fun trip => ?_, fun clear unfit => ?_, fun clear ready isShut => ?_, fun still => ?_, fun runs => ?_⟩
    · simp only [exec, execRun, runTunnel_tripped trip]
    · simp only [exec, execRun, runTunnel_state clear unfit]
    · have works := s.part.tunnelRun_works
      have dish := Part.tunnelRun_dish clear
      have feeder := s.part.tunnelRun_feeder
      refine ⟨_, rfl, ?_⟩
      rw [runTunnel_taken clear ready isShut.1 isShut.2]
      generalize s.part.tunnelRun = q at *
      have heaters := congrArg Feeder.heaters feeder
      refine ⟨works.answered_part 0x62 tag { status := .ok }, dish, ?_, fun m other => ?_, ?_⟩
      · rw [State.answer_feeder, feeder]
      · exact (congrArg (·.get m) heaters).trans (Table.get_set_ne _ _ other)
      · exact (congrArg (·.get 15) heaters).trans (Table.get_set_self _ _ _)
    · simp only [exec, execStop, stop_state still]
    · have works := Part.stopTunnel_works s.part [] .ready s.part.dish.reasons
      have dish := s.part.stopTunnel_dish .ready s.part.dish.reasons
      have feeder := s.part.stopTunnel_feeder .ready s.part.dish.reasons
      refine ⟨_, rfl, ?_⟩
      rw [stop_taken runs]
      generalize s.part.stopTunnel .ready s.part.dish.reasons = q at *
      have heaters := congrArg Feeder.heaters feeder
      refine ⟨works.answered_part 0x63 tag { status := .ok }, dish, ?_, fun m other => ?_, ?_⟩
      · rw [State.answer_feeder, feeder]
      · exact (congrArg (·.get m) heaters).trans (Table.get_set_ne _ _ other)
      · exact (congrArg (·.get 15) heaters).trans (Table.get_set_self _ _ _)
  case off =>
    intro s tag d records lost
    refine ⟨fun off => ?_, fun on held counted locked => ?_⟩
    · simp only [exec, execDishOff, dishOff_off off]
    · have switched := s.part.switchOff_switched
      refine ⟨_, rfl, ?_⟩
      rw [dishOff_on on]
      generalize s.part.switchOff = q at *
      obtain ⟨ring, overwrites, dish, joined⟩ := switched.dish
      obtain ⟨isRing, isCount⟩ := joined held
      have length : (s.part.dish.ring ++ s.part.unverifiedRacks).length - 64 = lost := by
        simp [lost, d, Part.unverifiedRacks, State.dish]
      rw [length] at isRing isCount
      have loops := switched.loops
      have heater := switched.valve.notices.heater
      refine ⟨switched.works.answered_part 0x64 tag { status := .ok }, noticed_answer switched.table switched.works,
        fun w => noticedAt_answer (switched.waves w), ?_, switched.stock, fun m notWash notBooster => ?_, ?_,
        fun m other => ?_, ?_, switched.slot⟩
      · refine dish.trans ?_
        rw [isRing, isCount counted]
        rfl
      · rw [State.answer_loop, loops, Table.get_set_ne _ _ notBooster, Table.get_set_ne _ _ notWash]
      · rintro m (rfl | rfl)
        · rw [State.answer_loop, loops, Table.get_set_ne _ _ (by decide), Table.get_set_self]
          rfl
        · rw [State.answer_loop, loops, Table.get_set_self]
          rfl
      · refine (heater m).trans ?_
        rw [switched.valve.cls m, switched.valve.locked m other]
      · refine (heater 15).trans ?_
        rw [switched.valve.cls 15, switched.valve.follows locked, dish]

end Sys2Proof.Machine
end

section
/-!
Chapter 6: what the work of the dish tunnel makes of its lists, its outputs, its hold reasons and the lock of heater 15
(R103, R107, R109, R111 to R113, R116, R121). The gate and the valve are out of step with their terms between a change
and their judgement, so the record of the tunnel is followed by the predicate that holds of it at each point.
-/

namespace Sys2Proof.Machine

/-! ## What holds of the tunnel's record -/

/-- The terms of the entry gate, on the trip flag and the record (R111). -/
def Dish.gateTermsIn (trip : Bool) (d : Dish) : Bool :=
  decide (d.state = .running) && decide (d.queue.length < 12) && d.tankWarm && d.boosterHot && !d.rinseFail && !trip

theorem Part.gateTerms_eq (p : Part) : p.gateTerms = p.dish.gateTermsIn p.interlock.trip := rfl

/-- The record but for its two judged outputs: the lists, the conveyor, the hold reasons, the zones, and the state that
the trip state leaves it (R103, R107, R109, R112, R113, R121). -/
structure Dish.Stands (trip : Bool) (d : Dish) : Prop where
  queue : d.queue.length ≤ 12
  ring : d.ring.length ≤ 64
  declared : d.declared.length ≤ 8
  conveyor : d.conveyor = true ↔ d.state = .running
  reasons : d.state = .held ↔ d.reasons.isEmpty = false
  zones : d.cfg.washStart < d.cfg.washEnd ∧ d.cfg.rinseStart < d.cfg.rinseEnd
  tripped : trip = true → d.state = .off ∨ d.state = .held ∧ d.reasons.trip = true

/-- The record with its gate judged. -/
structure Dish.Gated (trip : Bool) (d : Dish) : Prop where
  stands : d.Stands trip
  gate : d.gateOpen = d.gateTermsIn trip

/-- The record with its valve judged. -/
structure Dish.Valved (trip : Bool) (d : Dish) : Prop where
  stands : d.Stands trip
  valve : d.valveOpen = d.valveTerms

/-- The record with both judged. -/
structure Dish.Judged (trip : Bool) (d : Dish) : Prop where
  stands : d.Stands trip
  gate : d.gateOpen = d.gateTermsIn trip
  valve : d.valveOpen = d.valveTerms

section Record

variable {trip : Bool} {d : Dish}

theorem Dish.Judged.gated (h : d.Judged trip) : d.Gated trip := ⟨h.stands, h.gate⟩

/-- Outside RUNNING the gate's terms fail. -/
theorem Dish.gateTermsIn_still (still : d.state ≠ .running) : d.gateTermsIn trip = false := by
  simp [Dish.gateTermsIn, still]

/-- So do the valve's. -/
theorem Dish.valveTerms_still (still : d.state ≠ .running) : d.valveTerms = false := by
  simp [Dish.valveTerms, still]

/-- Outside RUNNING the outputs are judged where both are closed. -/
theorem Dish.Stands.judged_still (h : d.Stands trip) (still : d.state ≠ .running) (gate : d.gateOpen = false)
    (valve : d.valveOpen = false) : d.Judged trip :=
  ⟨h, by rw [gate, Dish.gateTermsIn_still still], by rw [valve, Dish.valveTerms_still still]⟩

theorem Dish.Judged.closed (h : d.Judged trip) (still : d.state ≠ .running) :
    d.gateOpen = false ∧ d.valveOpen = false :=
  ⟨by rw [h.gate, Dish.gateTermsIn_still still], by rw [h.valve, Dish.valveTerms_still still]⟩

/-- A change that keeps the terms of both outputs and the outputs. -/
theorem Dish.Judged.of_terms {e : Dish} (h : d.Judged trip) (stands : e.Stands trip) (gate : e.gateOpen = d.gateOpen)
    (valve : e.valveOpen = d.valveOpen) (gateTerms : e.gateTermsIn trip = d.gateTermsIn trip)
    (valveTerms : e.valveTerms = d.valveTerms) : e.Judged trip :=
  ⟨stands, by rw [gate, gateTerms, h.gate], by rw [valve, valveTerms, h.valve]⟩

/-- The two outputs are no part of what stands. -/
theorem Dish.Stands.outputs (h : d.Stands trip) (gateOpen valveOpen : Bool) :
    ({ d with gateOpen, valveOpen } : Dish).Stands trip :=
  ⟨h.queue, h.ring, h.declared, h.conveyor, h.reasons, h.zones, h.tripped⟩

/-- A record joins the ring (R103). -/
theorem Dish.Stands.appendRing (h : d.Stands trip) (r : Rack) : (d.appendRing r).Stands trip := by
  have ring := d.length_appendRing r h.ring
  have rest := d.appendRing_rest r d.ring d.overwrites
  generalize d.appendRing r = e at *
  have eq : e = { d with ring := e.ring, overwrites := e.overwrites } :=
    congrArg (fun d' : Dish => { d' with ring := e.ring, overwrites := e.overwrites }) rest
  generalize e.ring = ring', e.overwrites = overwrites at *
  subst eq
  exact ⟨h.queue, ring, h.declared, h.conveyor, h.reasons, h.zones, h.tripped⟩

end Record

/-! ## The work of the tunnel -/

/-- From a part whose tunnel is judged, work of the tunnel leads to one of whose record `I` holds; the ovens, the
interlock and all of the allocator but the lock behind the valve stay. -/
structure TunnelLeads (I : Bool → Dish → Prop) (b p : Part) : Prop where
  valve : ValveMoves b p
  interlock : p.interlock = b.interlock
  ovens : p.ovens = b.ovens
  kept : b.dish.Judged b.interlock.trip → I p.interlock.trip p.dish

namespace TunnelLeads

theorem refl (p : Part) : TunnelLeads Dish.Judged p p := ⟨.ofSame rfl rfl, rfl, rfl, id⟩

section Work

variable {I J : Bool → Dish → Prop} {b p : Part} (h : TunnelLeads I b p)
include h

/-- What holds of the record, said again. -/
theorem weaken (imp : I p.interlock.trip p.dish → J p.interlock.trip p.dish) : TunnelLeads J b p :=
  ⟨h.valve, h.interlock, h.ovens, fun judged => imp (h.kept judged)⟩

/-- What leaves those records alone. -/
theorem same {q : Part} (feeder : q.feeder = p.feeder) (dish : q.dish = p.dish) (ovens : q.ovens = p.ovens)
    (interlock : q.interlock = p.interlock) : TunnelLeads I b q := by
  refine ⟨h.valve.trans (.ofSame feeder (congrArg Dish.valveOpen dish)), interlock.trans h.interlock,
    ovens.trans h.ovens, fun judged => ?_⟩
  rw [dish, interlock]
  exact h.kept judged

/-- Work of other units. -/
theorem work {f : Footprint} {own : List (Fin 87)} {q : Part} (w : Works f own p q)
    (feeder : f.feeder = false := by rfl) (dish : f.dish = false := by rfl) (ovens : f.ovens = false := by rfl) (interlock : f.interlock = false := by rfl) :
    TunnelLeads I b q :=
  have t := w.moves.touches
  h.same (t.feeder feeder) (t.dish dish) (t.ovens ovens) (t.interlock interlock)

theorem mark {c : MarkClass} {i : Nat} : TunnelLeads I b (p.mark c i) := h.same rfl rfl rfl rfl

theorem raise {slot : Fin 87} {param : Half} : TunnelLeads I b (p.raise slot param) := h.work (Part.raise_works p _ _)

theorem ret {slot : Fin 87} : TunnelLeads I b (p.ret slot) := h.work (Part.ret_works p _)

theorem dishLoopsOff : TunnelLeads I b p.dishLoopsOff := h.work (Part.dishLoopsOff_works p [])

theorem dishLoopsAuto : TunnelLeads I b p.dishLoopsAuto := h.work (Part.dishLoopsAuto_works p)

/-- The record replaced, the valve as it was. -/
theorem setDish {d : Dish} (valve : d.valveOpen = p.dish.valveOpen)
    (kept : I p.interlock.trip p.dish → J p.interlock.trip d) : TunnelLeads J b (p.setDish d) := by
  refine ⟨h.valve.trans (.setDish p d valve), (Part.setDish_interlock p d).trans h.interlock,
    (Part.setDish_ovens p d).trans h.ovens, fun judged => ?_⟩
  rw [Part.setDish_interlock, Part.setDish_dish]
  exact kept (h.kept judged)

/-- The valve set. -/
theorem setValve {isOpen : Bool}
    (kept : I p.interlock.trip p.dish → J p.interlock.trip { p.dish with valveOpen := isOpen }) :
    TunnelLeads J b (p.setValve isOpen) := by
  have t := (Part.setValve_works p [] isOpen).moves.touches
  have interlock := t.interlock rfl
  refine ⟨h.valve.trans (.setValve p isOpen), interlock.trans h.interlock, (t.ovens rfl).trans h.ovens,
    fun judged => ?_⟩
  rw [interlock, Part.setValve_dish]
  exact kept (h.kept judged)

end Work

section Judgement

variable {b p : Part}

theorem judgeGate (h : TunnelLeads Dish.Valved b p) :
    TunnelLeads Dish.Judged b p.judgeGate :=
  h.setDish rfl fun valved => ⟨valved.stands.outputs _ _, rfl, valved.valve⟩

theorem judgeValve (h : TunnelLeads Dish.Gated b p) :
    TunnelLeads Dish.Judged b p.judgeValve :=
  h.setValve fun gated => ⟨gated.stands.outputs _ _, gated.gate, rfl⟩

theorem judge (h : TunnelLeads Dish.Stands b p) :
    TunnelLeads Dish.Judged b p.judgeGate.judgeValve :=
  judgeValve (h.setDish rfl fun stands => ⟨stands.outputs _ _, rfl⟩)

end Judgement

end TunnelLeads

end Sys2Proof.Machine
end

section
/-!
Chapter 6: each operation of the dish tunnel keeps its record judged (R101, R102, R104 to R120).
-/

namespace Sys2Proof.Machine

/-- Other racks, of which there are no more than 12. -/
theorem Dish.Stands.withQueue {trip : Bool} {d : Dish} (h : d.Stands trip) {queue : List Rack}
    (length : queue.length ≤ 12) : ({ d with queue } : Dish).Stands trip :=
  ⟨length, h.ring, h.declared, h.conveyor, h.reasons, h.zones, h.tripped⟩

/-- A reason joins those that hold. -/
structure HoldReasons.Joins (join : HoldReasons → HoldReasons) : Prop where
  holds : ∀ r, (join r).isEmpty = false
  trip : ∀ r, r.trip = true → (join r).trip = true

/-- A reason other than TRIP leaves. -/
def HoldReasons.Leaves (leave : HoldReasons → HoldReasons) : Prop := ∀ r, (leave r).trip = r.trip

/-- TRIP alone keeps the reasons from being empty. -/
theorem HoldReasons.isEmpty_of_trip {r : HoldReasons} (trip : r.trip = true) : r.isEmpty = false := by
  simp [HoldReasons.isEmpty, trip]

/-- A rack at position 0 lies in no rinse zone (R101). -/
theorem Dish.valveTerms_entered (d : Dish) (r : Rack) (entry : r.position = 0) :
    ({ d with queue := d.queue ++ [r] } : Dish).valveTerms = d.valveTerms := by
  simp [Dish.valveTerms, Rack.centreIn, entry]

namespace TunnelLeads

section Operations

variable {b p : Part}

/-! ### Removals (R102, R103) -/

theorem removeOldest {outcome : RackOutcome} {r : Rack} {rest : List Rack} (h : TunnelLeads Dish.Stands b p)
    (queue : p.dish.queue = r :: rest) : TunnelLeads Dish.Judged b (p.removeOldest outcome true) := by
  have shorter (stands : p.dish.Stands p.interlock.trip) : rest.length ≤ 12 := by
    have length := stands.queue
    rw [queue, List.length_cons] at length
    omega
  unfold Part.removeOldest
  rw [queue]
  dsimp only
  have left := (h.setDish (J := Dish.Stands)
    (d := ({ p.dish with queue := rest } : Dish).appendRing
      { r with outcome := some outcome, removal := some p.uptime })
    (Dish.appendRing_valveOpen _ _) fun stands => (stands.withQueue (shorter stands)).appendRing _).work
      (Part.rackExitMove_works _ r.kind r.count outcome true)
  split
  · refine judge (left.raise.setDish rfl fun stands => ?_)
    exact ⟨stands.queue, stands.ring, stands.declared, stands.conveyor, stands.reasons, stands.zones, stands.tripped⟩
  · exact left.judge

theorem removeUnverified (n : Nat) (h : TunnelLeads Dish.Judged b p) :
    TunnelLeads Dish.Judged b (p.removeUnverified true n) := by
  induction n generalizing p with
  | zero => exact h
  | succ n ih =>
    refine ih ?_
    cases queue : p.dish.queue with
    | nil =>
      have same : p.removeOldest .unverified true = p := by
        unfold Part.removeOldest
        rw [queue]
      rwa [same]
    | cons r rest => exact (h.weaken fun judged => judged.stands).removeOldest queue

theorem clearTunnel (h : TunnelLeads Dish.Judged b p) : TunnelLeads Dish.Judged b (p.clearTunnel true) :=
  h.removeUnverified _

/-! ### Holds (R107 to R109) -/

/-- The tunnel stopped in a state that is not RUNNING. -/
theorem stopTunnel {state : DishState} {reasons : HoldReasons} (h : TunnelLeads Dish.Judged b p)
    (still : state ≠ .running) (held : state = .held ↔ reasons.isEmpty = false)
    (tripped : p.interlock.trip = true → p.dish.state = .off ∨ p.dish.state = .held ∧ p.dish.reasons.trip = true →
      state = .off ∨ state = .held ∧ reasons.trip = true) :
    TunnelLeads Dish.Judged b (p.stopTunnel state reasons) := by
  have stopped := h.setDish (J := fun trip d => ({ d with valveOpen := false } : Dish).Judged trip)
    (d := { p.dish with state, reasons, conveyor := false, gateOpen := false, coldTimer := 0 }) rfl fun judged => by
      have stands := judged.stands
      refine Dish.Stands.judged_still ?_ still rfl rfl
      exact ⟨stands.queue, stands.ring, stands.declared, by simp [still], held, stands.zones,
        fun trip => tripped trip (stands.tripped trip)⟩
  exact stopped.setValve id

theorem holdTunnel {join : HoldReasons → HoldReasons} (joins : HoldReasons.Joins join)
    (h : TunnelLeads Dish.Judged b p) : TunnelLeads Dish.Judged b (p.holdTunnel join) := by
  have enters (on : p.dish.state ≠ .off) (free : p.dish.state ≠ .held) :
      TunnelLeads Dish.Judged b (p.stopTunnel .held (join {})) :=
    h.stopTunnel (by decide) (by simp [joins.holds]) fun _ tripped =>
      tripped.elim (fun off => absurd off on) (fun held => absurd held.1 free)
  unfold Part.holdTunnel
  split
  · next held =>
    refine h.setDish rfl fun judged => judged.of_terms ?_ rfl rfl rfl rfl
    have stands := judged.stands
    exact ⟨stands.queue, stands.ring, stands.declared, stands.conveyor, by simp [held, joins.holds], stands.zones,
      fun trip => (stands.tripped trip).imp_right fun is => ⟨is.1, joins.trip _ is.2⟩⟩
  · next state => exact enters (by simp [state]) (by simp [state])
  · next state => exact enters (by simp [state]) (by simp [state])
  · next state => exact enters (by simp [state]) (by simp [state])
  · exact h

theorem lineHold {join : HoldReasons → HoldReasons} (joins : HoldReasons.Joins join)
    (h : TunnelLeads Dish.Judged b p) : TunnelLeads Dish.Judged b (p.lineHold join) := by
  unfold Part.lineHold
  split
  · exact h.holdTunnel joins
  · exact h.holdTunnel joins
  all_goals exact h

theorem endHold {leave : HoldReasons → HoldReasons} (leaves : HoldReasons.Leaves leave)
    (h : TunnelLeads Dish.Judged b p) : TunnelLeads Dish.Judged b (p.endHold leave) := by
  unfold Part.endHold
  split
  · next held =>
    have stays (trip : p.interlock.trip = true) (judged : p.dish.Judged p.interlock.trip) :
        (leave p.dish.reasons).trip = true := by
      obtain off | ⟨-, reason⟩ := judged.stands.tripped trip
      · simp [off] at held
      · rw [leaves, reason]
    dsimp only
    split
    · exact h
    · split
      · next empty =>
        refine judge (h.setDish rfl fun judged => ?_)
        have stands := judged.stands
        refine ⟨stands.queue, stands.ring, stands.declared, ?_, by simp [empty], stands.zones, fun trip => ?_⟩
        · simpa [held] using stands.conveyor
        · simp [HoldReasons.isEmpty_of_trip (stays trip judged)] at empty
      · next holds =>
        refine h.setDish rfl fun judged => judged.of_terms ?_ rfl rfl rfl rfl
        have stands := judged.stands
        exact ⟨stands.queue, stands.ring, stands.declared, stands.conveyor, by simpa [held] using holds, stands.zones,
          fun trip => .inr ⟨held, stays trip judged⟩⟩
  all_goals exact h

theorem dishDoor {isOpen : Bool} (h : TunnelLeads Dish.Judged b p) :
    TunnelLeads Dish.Judged b (p.dishDoor isOpen) := by
  unfold Part.dishDoor
  split
  · exact h.lineHold ⟨fun r => by simp [HoldReasons.isEmpty], fun _ trip => trip⟩
  · exact h.endHold fun _ => rfl

theorem overloadChange {asserted : Bool} (h : TunnelLeads Dish.Judged b p) :
    TunnelLeads Dish.Judged b (p.overloadChange asserted) := by
  unfold Part.overloadChange Part.dishOverload
  split
  · exact h.raise.lineHold ⟨fun r => by simp [HoldReasons.isEmpty], fun _ trip => trip⟩
  · exact h.ret.endHold fun _ => rfl

theorem ackReport {slot : Fin 87} (h : TunnelLeads Dish.Judged b p) :
    TunnelLeads Dish.Judged b (p.ackReport slot) := by
  unfold Part.ackReport
  split
  · refine judgeGate (h.setDish rfl fun judged => ⟨?_, judged.valve⟩)
    have stands := judged.stands
    exact ⟨stands.queue, stands.ring, stands.declared, stands.conveyor, stands.reasons, stands.zones, stands.tripped⟩
  · split
    · exact h.endHold fun _ => rfl
    · exact h

/-! ### Pulses and edges (R101, R113, R118, R119) -/

/-- The lost check leaves the valve to the pulse's own judgement. -/
theorem checkLost (h : TunnelLeads Dish.Gated b p) : TunnelLeads Dish.Gated b p.checkLost := by
  unfold Part.checkLost
  split
  · exact h
  · next r rest queue =>
    split
    · have removed := ((h.weaken fun gated => gated.stands).removeOldest (outcome := .lost) queue).raise
        (slot := rackLostSlot) (param := r.number)
      have joins : HoldReasons.Joins fun h => { h with lost := true } :=
        ⟨fun r => by simp [HoldReasons.isEmpty], fun _ trip => trip⟩
      exact (removed.holdTunnel joins).weaken fun judged => judged.gated
    · exact h

theorem tunnelPulse (h : TunnelLeads Dish.Judged b p) : TunnelLeads Dish.Judged b p.tunnelPulse := by
  refine judgeValve (checkLost (h.setDish rfl fun judged => ?_))
  refine ⟨judged.stands.withQueue (by simpa using judged.stands.queue), judged.gate.trans ?_⟩
  simp [Dish.gateTermsIn]

theorem trackRack (room : p.dish.queue.length < 12) (h : TunnelLeads Dish.Judged b p) :
    TunnelLeads Dish.Judged b p.trackRack := by
  unfold Part.trackRack
  dsimp only
  have entered := h.setDish (J := fun trip d => d.Judged trip ∧ d.queue.length < 12)
    (d := { p.dish with
      rackCounter := p.dish.rackCounter + 1, lastEntry := some p.uptime, declared := p.dish.declared.drop 1 }) rfl
    fun judged => by
      have stands := judged.stands
      have fewer : (p.dish.declared.drop 1).length ≤ 8 := by
        have declared := stands.declared
        rw [List.length_drop]
        omega
      exact ⟨judged.of_terms ⟨stands.queue, stands.ring, fewer, stands.conveyor, stands.reasons, stands.zones,
        stands.tripped⟩ rfl rfl rfl rfl, room⟩
  refine judgeGate (TunnelLeads.setDish (entered.work (Part.rackEntryMove_works _ _ _)) rfl ?_)
  rintro ⟨judged, room⟩
  refine ⟨judged.stands.withQueue ?_, judged.valve.trans (Dish.valveTerms_entered _ _ rfl).symm⟩
  rw [List.length_append, List.length_singleton]
  exact room

theorem rackEntryEdge (h : TunnelLeads Dish.Judged b p) : TunnelLeads Dish.Judged b p.rackEntryEdge := by
  unfold Part.rackEntryEdge
  split
  · exact h
  · split
    · exact h
    · next room => exact h.trackRack (not_le.mp room)

theorem rackExitEdge (h : TunnelLeads Dish.Judged b p) : TunnelLeads Dish.Judged b p.rackExitEdge := by
  unfold Part.rackExitEdge
  split
  · exact h
  · split
    · exact h.raise
    · next queue =>
      split
      · exact (h.weaken fun judged => judged.stands).removeOldest queue
      · exact h.raise

end Operations

end TunnelLeads

end Sys2Proof.Machine
end

section
/-!
Chapter 6: the checks, the sample notices and the requests of the dish tunnel keep its record judged (R100, R104 to
R107, R110, R112, R114, R115, R117, R121, R122).
-/

namespace Sys2Proof.Machine

/-- What a sample adds to the racks moves none of them. -/
theorem Dish.Judged.sampled {trip : Bool} {d : Dish} (h : d.Judged trip) {f : Rack → Rack}
    (place : ∀ r, (f r).position = r.position) : ({ d with queue := d.queue.map f } : Dish).Judged trip := by
  refine h.of_terms (h.stands.withQueue (by simpa using h.stands.queue)) rfl rfl (by simp [Dish.gateTermsIn]) ?_
  have centre (start stop : Nat) (r : Rack) : (f r).centreIn start stop = r.centreIn start stop := by
    simp only [Rack.centreIn, place]
  simp only [Dish.valveTerms, List.any_map, Function.comp_def, centre]

/-- A change of fields that no term reads. -/
theorem Dish.Judged.withCold {trip : Bool} {d : Dish} (h : d.Judged trip) (coldTimer : Nat) (washCold : Bool) :
    ({ d with coldTimer, washCold } : Dish).Judged trip := by
  have stands := h.stands
  exact h.of_terms ⟨stands.queue, stands.ring, stands.declared, stands.conveyor, stands.reasons, stands.zones,
    stands.tripped⟩ rfl rfl rfl rfl

theorem DishConfig.InRange.zones {g : DishConfig} (h : g.InRange) :
    g.washStart < g.washEnd ∧ g.rinseStart < g.rinseEnd := by
  unfold DishConfig.InRange at h
  omega

namespace TunnelLeads

/-- A hold ends in READY (R109). -/
theorem holdEnded {b p : Part} (h : TunnelLeads (fun trip d => ({ d with state := .ready } : Dish).Stands trip) b p) :
    TunnelLeads Dish.Judged b p.holdEnded :=
  judge (h.setDish rfl id)

section Events

variable {b p : Part} (h : TunnelLeads Dish.Judged b p)
include h

/-! ### Checks and samples -/

/-- The check takes WARMING to READY, with both outputs closed on either side (R104). -/
theorem temperatureCheck : TunnelLeads Dish.Judged b p.temperatureCheck := by
  refine judgeGate (h.setDish rfl fun judged => ?_)
  have stands := judged.stands
  by_cases warmed : p.dish.state = .warming ∧ p.readsAtLeast 20 p.dish.cfg.washMin = true ∧
      p.readsAtLeast 21 p.dish.cfg.rinseReady = true
  · obtain ⟨warming, tank, booster⟩ := warmed
    have closed := judged.closed (by simp [warming])
    have free : p.dish.reasons.isEmpty = true := by simpa [warming] using stands.reasons
    have clear : p.interlock.trip = true → False := fun trip => by simpa [warming] using stands.tripped trip
    simp only [warming, tank, booster]
    refine ⟨⟨stands.queue, stands.ring, stands.declared, ?_, by simp [free], stands.zones,
      fun trip => (clear trip).elim⟩, by simp [Dish.valveTerms, closed.2]⟩
    simpa [warming] using stands.conveyor
  · have same : (if (decide (p.dish.state = .warming) && p.readsAtLeast 20 p.dish.cfg.washMin &&
        p.readsAtLeast 21 p.dish.cfg.rinseReady) = true then DishState.ready else p.dish.state) = p.dish.state :=
      if_neg (by simpa [and_assoc] using warmed)
    rw [same]
    exact ⟨⟨stands.queue, stands.ring, stands.declared, stands.conveyor, stands.reasons, stands.zones, stands.tripped⟩,
      judged.valve⟩

theorem judgeWashCold : TunnelLeads Dish.Judged b p.judgeWashCold := by
  have set (coldTimer : Nat) (washCold : Bool) :
      TunnelLeads Dish.Judged b (p.setDish { p.dish with coldTimer, washCold }) :=
    h.setDish rfl fun judged => judged.withCold coldTimer washCold
  unfold Part.judgeWashCold
  dsimp only
  split
  · split
    · exact (set 0 false).ret
    · exact set 0 false
  · split
    · split
      · exact (set _ true).raise
      · exact set _ p.dish.washCold
    · exact set 0 p.dish.washCold

theorem sampleNotice {ch : Fin 23} {value : Int} : TunnelLeads Dish.Judged b (p.sampleNotice ch value) := by
  unfold Part.sampleNotice
  split
  · unfold Part.washNotice
    dsimp only
    split
    · exact h.setDish rfl fun judged => judged.sampled fun r => by split <;> rfl
    · exact h
  · split
    · unfold Part.rinseNotice
      dsimp only
      split
      · exact h.setDish rfl fun judged => judged.sampled fun r => by split <;> rfl
      · exact h
    · exact h

theorem sampleChannel {ch : Fin 23} {raw : Half} : TunnelLeads Dish.Judged b (p.sampleChannel ch raw) := by
  have set {e : Entry} : TunnelLeads Dish.Judged b (p.setEntry ch e) := h.work (Part.setEntry_works p [] ch e)
  unfold Part.sampleChannel
  dsimp only
  split
  · split
    · refine sampleNotice ?_
      split
      · exact set.ret
      · exact set
    · exact set
  · split
    · exact set.raise
    · exact set
  · split
    · exact set.raise
    · exact set

theorem scanVisit {raw : Half} : TunnelLeads Dish.Judged b (p.scanVisit raw) := by
  have turned (scan : Scanner) : Works { scan := true } [] p { p with scan } :=
    Works.ofTouches _ (by constructor <;> simp) rfl
  unfold Part.scanVisit
  dsimp only
  split
  · exact (h.work (turned _)).sampleChannel
  · exact h.work (turned _)

/-! ### Requests -/

/-- Zones change in OFF alone, where both outputs are closed (R100). -/
theorem configureDish {f : DishFields} : TunnelLeads Dish.Judged b (Machine.configureDish f p).1 := by
  by_cases inRange : (writtenDish f).InRange
  · by_cases held : (writtenDish f).sameZones p.dish.cfg = true ∨ p.dish.state = .off
    · rw [configureDish_taken p inRange held]
      have set := h.setDish (J := Dish.Judged) (d := { p.dish with cfg := writtenDish f }) rfl fun judged => by
        have stands := judged.stands
        refine judged.of_terms ⟨stands.queue, stands.ring, stands.declared, stands.conveyor, stands.reasons,
          inRange.zones, stands.tripped⟩ rfl rfl rfl ?_
        rcases held with same | off
        · have zones := (DishConfig.sameZones_iff _ _).mp same
          have start : (writtenDish f).rinseStart = p.dish.cfg.rinseStart :=
            (congrArg DishConfig.rinseStart zones).trans rfl
          have stop : (writtenDish f).rinseEnd = p.dish.cfg.rinseEnd :=
            (congrArg DishConfig.rinseEnd zones).trans rfl
          simp only [Dish.valveTerms, start, stop]
        · rw [Dish.valveTerms_still (by simp [off]), Dish.valveTerms_still (by simp [off])]
      exact set.mark.work (Part.trimDishLoops_works _ _ _)
    · obtain ⟨moved, on⟩ := not_or.mp held
      rwa [configureDish_zones p inRange moved on]
  · rwa [configureDish_outOfRange p inRange]

theorem dishOn : TunnelLeads Dish.Judged b (Machine.dishOn p).1 := by
  unfold Machine.dishOn
  split
  · exact h
  · next clear =>
    split
    · next off =>
      refine judgeGate (dishLoopsAuto (h.setDish rfl fun judged => ?_))
      have stands := judged.stands
      have closed := judged.closed (by simp [off])
      have free : p.dish.reasons.isEmpty = true := by simpa [off] using stands.reasons
      refine ⟨⟨stands.queue, stands.ring, stands.declared, ?_, by simp [free], stands.zones,
        fun trip => absurd trip clear⟩, by simp [Dish.valveTerms, closed.2]⟩
      simpa [off] using stands.conveyor
    all_goals exact h

theorem runTunnel : TunnelLeads Dish.Judged b (Machine.runTunnel p).1 := by
  unfold Machine.runTunnel
  split
  · exact h
  · next clear =>
    split
    · next fit =>
      have ready : p.dish.state = .ready := by
        simp only [Bool.and_eq_true, decide_eq_true_eq] at fit
        exact fit.1.1
      refine judge (h.setDish rfl fun judged => ?_)
      have stands := judged.stands
      have free : p.dish.reasons.isEmpty = true := by simpa [ready] using stands.reasons
      exact ⟨stands.queue, stands.ring, stands.declared, by simp, by simp [free], stands.zones,
        fun trip => absurd trip clear⟩
    · exact h

/-- RUNNING ends in READY, with no hold reason (R107). -/
theorem stop : TunnelLeads Dish.Judged b (Machine.stop p).1 := by
  unfold Machine.stop
  split
  · next runs =>
    have stopped := h.setDish (J := fun trip d => ({ d with valveOpen := false } : Dish).Judged trip)
      (d := { p.dish with
        state := .ready, reasons := p.dish.reasons, conveyor := false, gateOpen := false, coldTimer := 0 }) rfl
      fun judged => by
        have stands := judged.stands
        refine Dish.Stands.judged_still ?_ (by simp) rfl rfl
        exact ⟨stands.queue, stands.ring, stands.declared, by simp, by simpa [runs] using stands.reasons, stands.zones,
          fun trip => by simpa [runs] using stands.tripped trip⟩
    exact stopped.setValve id
  all_goals exact h

theorem coldEnded : TunnelLeads Dish.Judged b p.coldEnded := by
  have warm := h.setDish (J := Dish.Judged) (d := { p.dish with washCold := false }) rfl fun judged =>
    judged.withCold p.dish.coldTimer false
  unfold Part.coldEnded
  dsimp only
  split
  · exact warm.ret
  · exact warm

theorem tunnelOff : TunnelLeads Dish.Judged b p.tunnelOff :=
  (h.stopTunnel (by decide) (by decide) fun _ _ => .inl rfl).dishLoopsOff

theorem switchOff : TunnelLeads Dish.Judged b p.switchOff := h.clearTunnel.tunnelOff.coldEnded

theorem dishOff : TunnelLeads Dish.Judged b (Machine.dishOff p).1 := by
  unfold Machine.dishOff
  split
  · exact h
  all_goals exact h.switchOff

theorem declareRack {kind count : Byte} : TunnelLeads Dish.Judged b (Machine.declareRack kind count p).1 := by
  unfold Machine.declareRack
  split
  · exact h
  · split
    · exact h
    · split
      · exact h
      · next room =>
        refine h.setDish rfl fun judged => ?_
        have stands := judged.stands
        refine judged.of_terms ⟨stands.queue, stands.ring, ?_, stands.conveyor, stands.reasons, stands.zones,
          stands.tripped⟩ rfl rfl rfl rfl
        rw [List.length_append, List.length_singleton]
        omega

theorem takeRacks {maximum : Byte} : TunnelLeads Dish.Judged b (Machine.takeRacks maximum p).1 := by
  unfold Machine.takeRacks
  split
  · exact h
  · refine h.setDish rfl fun judged => ?_
    have stands := judged.stands
    refine judged.of_terms ⟨stands.queue, ?_, stands.declared, stands.conveyor, stands.reasons, stands.zones,
      stands.tripped⟩ rfl rfl rfl rfl
    have held := stands.ring
    rw [List.length_drop]
    omega

theorem clearRingCount : TunnelLeads Dish.Judged b (Machine.clearRingCount p).1 :=
  h.setDish rfl fun judged =>
    have stands := judged.stands
    judged.of_terms ⟨stands.queue, stands.ring, stands.declared, stands.conveyor, stands.reasons, stands.zones,
      stands.tripped⟩ rfl rfl rfl rfl

/-- The trip reason leaves once the trip flag is down; in HELD it leaves other reasons, or ends the hold (R121). -/
theorem tripTunnelExit (clear : p.interlock.trip = false) : TunnelLeads Dish.Judged b p.tripTunnelExit := by
  by_cases apart : p.dish.state ≠ .held ∨ p.dish.reasons.trip = false
  · rwa [Part.tripTunnelExit_apart p apart]
  · obtain ⟨held, reason⟩ : p.dish.state = .held ∧ p.dish.reasons.trip = true := by simpa using apart
    have left {J : Bool → Dish → Prop}
        (kept : p.dish.Judged p.interlock.trip →
          J p.interlock.trip { p.dish with reasons := { p.dish.reasons with trip := false } }) :
        TunnelLeads J b p.tripReasonLeft := by
      have set := h.setDish (d := { p.dish with reasons := { p.dish.reasons with trip := false } }) rfl kept
      exact set.dishLoopsAuto
    have out (trip : p.interlock.trip = true) : False := by simp [clear] at trip
    rw [Part.tripTunnelExit_held held reason]
    split
    · next stays =>
      refine left fun judged => judged.of_terms ?_ rfl rfl rfl rfl
      have stands := judged.stands
      have holds : p.dish.reasons.door = false → p.dish.reasons.overload = false → p.dish.reasons.lost = true := by
        simpa [or_iff_not_imp_left] using stays
      exact ⟨stands.queue, stands.ring, stands.declared, stands.conveyor,
        by simpa [held, HoldReasons.isEmpty] using holds, stands.zones, fun trip => (out trip).elim⟩
    · next free =>
      refine holdEnded (left fun judged => ?_)
      have stands := judged.stands
      have empty : (p.dish.reasons.door = false ∧ p.dish.reasons.overload = false) ∧ p.dish.reasons.lost = false := by
        simpa using free
      exact ⟨stands.queue, stands.ring, stands.declared, by simpa [held] using stands.conveyor,
        by simp [HoldReasons.isEmpty, empty], stands.zones, fun trip => (out trip).elim⟩

end Events

end TunnelLeads

end Sys2Proof.Machine
end

section
/-!
What all work but that of the allocator, of the trip state, of FEEDER_REDUCE, a warm restart and power-on makes of the
records that share the power: of the allocator only classes of other heaters than the tunnel's and the lock behind the
valve change, no oven starts in the trip state, and the tunnel stays judged. One rule per operation, in the order of
the chapters.
-/

namespace Sys2Proof.Machine

/-- What work of the units makes of the records that share the power. -/
structure PowerFollows (p q : Part) : Prop where
  notices : NoticesOnly p q
  cls : ∀ n : Fin 16, 14 ≤ n.val → (q.feeder.heaters.get n).cls = (p.feeder.heaters.get n).cls
  lock : (p.feeder.heaters.get 15).locked = p.dish.valveOpen → (q.feeder.heaters.get 15).locked = q.dish.valveOpen
  trip : q.interlock.trip = p.interlock.trip
  drive : q.interlock.driveEnable = p.interlock.driveEnable
  reduce : q.asserted .feederReduce = p.asserted .feederReduce
  ovens : p.interlock.trip = true → ∀ n, (p.ovens.get n).state = .idle → (q.ovens.get n).state = .idle
  dish : p.dish.Judged p.interlock.trip → q.dish.Judged p.interlock.trip

namespace PowerFollows

/-- A cabinet's loop is none of the tunnel's (00_scope.md, section 7). -/
theorem cabinetLoop_apart (n : Fin 8) : (cabinetLoop n).val < 14 := by
  simp only [cabinetLoop]
  omega

/-- Nor is an oven's. -/
theorem ovenLoop_apart (n : Fin 6) : (ovenLoop n).val < 14 := by
  simp only [ovenLoop]
  omega

theorem refl (p : Part) : PowerFollows p p :=
  ⟨.ofSame rfl, fun _ _ => rfl, id, rfl, rfl, rfl, fun _ _ => id, id⟩

theorem trans {p q r : Part} (h : PowerFollows p q) (k : PowerFollows q r) : PowerFollows p r :=
  ⟨h.notices.trans k.notices, fun n tunnel => (k.cls n tunnel).trans (h.cls n tunnel), fun same => k.lock (h.lock same),
    k.trip.trans h.trip, k.drive.trans h.drive, k.reduce.trans h.reduce,
    fun trip n idle => k.ovens (h.trip.trans trip) n (h.ovens trip n idle),
    fun judged => h.trip ▸ k.dish (h.trip.symm ▸ h.dish judged)⟩

/-- Whichever of two ways is taken. -/
theorem either {c : Prop} [Decidable c] {b p q : Part} (hp : PowerFollows b p) (hq : PowerFollows b q) :
    PowerFollows b (if c then p else q) := by
  split
  · exact hp
  · exact hq

theorem eitherAnswer {c : Prop} [Decidable c] {b : Part} {x y : Part × Answer} (hx : PowerFollows b x.1)
    (hy : PowerFollows b y.1) : PowerFollows b (if c then x else y).1 := by
  split
  · exact hx
  · exact hy

/-- The part of an answer. -/
theorem answered {b p : Part} {a : Answer} (h : PowerFollows b p) : PowerFollows b (p, a).1 := h

section Operations

variable {b p : Part} (h : PowerFollows b p)
include h

/-- Work that reaches none of those records but the ovens', and starts none of these in the trip state. -/
theorem ovensOnly {q : Part} (feeder : q.feeder = p.feeder) (dish : q.dish = p.dish)
    (interlock : q.interlock = p.interlock)
    (idle : p.interlock.trip = true → ∀ n, (p.ovens.get n).state = .idle → (q.ovens.get n).state = .idle) :
    PowerFollows b q := by
  refine h.trans ⟨.ofSame feeder, fun _ _ => by rw [feeder], ?_, by rw [interlock], by rw [interlock],
    by simp only [Part.asserted, interlock], idle, ?_⟩
  · rw [feeder, dish]
    exact id
  · rw [dish]
    exact id

/-- Work that reaches none of those records. -/
theorem same {q : Part} (feeder : q.feeder = p.feeder := by rfl) (ovens : q.ovens = p.ovens := by rfl)
    (dish : q.dish = p.dish := by rfl) (interlock : q.interlock = p.interlock := by rfl) : PowerFollows b q := by
  refine h.ovensOnly feeder dish interlock ?_
  rw [ovens]
  exact fun _ _ => id

theorem works {f : Footprint} {own : List (Fin 87)} {q : Part} (w : Works f own p q)
    (feeder : f.feeder = false := by rfl) (ovens : f.ovens = false := by rfl) (dish : f.dish = false := by rfl)
    (interlock : f.interlock = false := by rfl) : PowerFollows b q :=
  have t := w.moves.touches
  h.same (t.feeder feeder) (t.ovens ovens) (t.dish dish) (t.interlock interlock)

/-- Work of the tunnel that leaves it judged. -/
theorem tunnel {q : Part} (w : TunnelLeads Dish.Judged p q) : PowerFollows b q := by
  have interlock := w.interlock
  refine h.trans ⟨w.valve.notices, fun n _ => w.valve.cls n, w.valve.follows, by rw [interlock], by rw [interlock],
    by simp only [Part.asserted, interlock], ?_, fun judged => ?_⟩
  · rw [w.ovens]
    exact fun _ _ => id
  · rw [← interlock]
    exact w.kept judged

/-- A class notice for a heater of no loop of the tunnel's (R44). -/
theorem classNotice {n : Fin 16} {c : HeaterClass} (apart : n.val < 14) : PowerFollows b (p.classNotice n c) := by
  have t := (Part.classNotice_works p [] n c).moves.touches
  have other {m : Fin 16} (tunnel : 14 ≤ m.val) : m ≠ n := fun is => by omega
  refine h.trans ⟨p.classNotice_notices n c, fun m tunnel => ?_, ?_, congrArg Interlock.trip (t.interlock rfl),
    congrArg Interlock.driveEnable (t.interlock rfl), by simp only [Part.asserted, t.interlock rfl], ?_, ?_⟩
  · rw [Part.classNotice_cls, if_neg (other tunnel)]
  · rw [Part.classNotice_locked, t.dish rfl]
    exact id
  · rw [t.ovens rfl]
    exact fun _ _ => id
  · rw [t.dish rfl]
    exact id

/-- Work on the lines that leaves FEEDER_REDUCE and the trip state. -/
theorem lines {i : Interlock} (trip : i.trip = p.interlock.trip) (drive : i.driveEnable = p.interlock.driveEnable)
    (reduce : (i.lines.get (lineIndex .feederReduce)).filtered = p.asserted .feederReduce) :
    PowerFollows b { p with interlock := i } :=
  h.trans ⟨.ofSame rfl, fun _ _ => rfl, id, trip, drive, reduce, fun _ _ => id, id⟩

/-- A line that keeps its filtered state, or is not FEEDER_REDUCE. -/
theorem setLine {line : Line} {l : LineState}
    (still : l.filtered = (p.line line).filtered ∨ line ≠ .feederReduce) : PowerFollows b (p.setLine line l) := by
  refine h.lines rfl rfl ?_
  rw [Table.get_set]
  split
  · next same =>
    obtain still | other := still
    · rw [still, Part.asserted, Part.line, same]
    · exact absurd (lineIndex_injective same).symm other
  · rfl

theorem encoderPulse : PowerFollows b p.encoderPulse :=
  have travelled := h.lines (i := { p.interlock with travel := p.interlock.travel + 1 }) rfl rfl rfl
  travelled.tunnel (TunnelLeads.refl _).tunnelPulse

theorem mark {c : MarkClass} {i : Nat} : PowerFollows b (p.mark c i) := h.same

theorem raise {slot : Fin 87} {param : Half} : PowerFollows b (p.raise slot param) := h.same

theorem ret {slot : Fin 87} : PowerFollows b (p.ret slot) := h.same

theorem cancelNotice {source : Source} : PowerFollows b (p.cancelNotice source) := h.same

theorem onPager {f : Pager → Pager} : PowerFollows b (p.onPager f) := h.same

theorem onDesk {f : Word → Desk → Desk} : PowerFollows b (p.onDesk f) := h.same

theorem setLoop {n : Fin 16} {l : Loop} : PowerFollows b (p.setLoop n l) := h.works (Part.setLoop_works p [] n l)

theorem setWave {w : Fin 12} {v : Option Wave} : PowerFollows b (p.setWave w v) :=
  h.works (Part.setWave_works p [] w v)

theorem setCabinet {n : Fin 8} {c : Cabinet} : PowerFollows b (p.setCabinet n c) :=
  h.works (Part.setCabinet_works p [] n c)

theorem setStock {kind : Fin 4} {s : Stock} : PowerFollows b (p.setStock kind s) :=
  h.works (Part.setStock_works p [] kind s)

theorem plateNotice {kind : Fin 4} : PowerFollows b (p.plateNotice kind) := h.works (Part.plateNotice_works p kind)

/-- Work done in turn. -/
theorem foldl {α : Type} {act : Part → α → Part} (each : ∀ q a, PowerFollows b q → PowerFollows b (act q a))
    (items : List α) : PowerFollows b (items.foldl act p) := by
  induction items generalizing p with
  | nil => exact h
  | cons a rest ih => exact ih (each p a h)

theorem onWave {w : Fin 12} {act : Wave → Part → Part} (each : ∀ v, PowerFollows b (act v p)) :
    PowerFollows b (p.onWave w act) := by
  unfold Part.onWave
  split
  · exact each _
  · exact h

/-! ### Cabinets -/

theorem changeMode {n : Fin 8} {mode : CabinetMode} {waveSet : Bool} :
    PowerFollows b (p.changeMode n mode waveSet) :=
  either h.setCabinet
    ((h.setCabinet.works (Part.runCabinetLoop_works _ n mode)).classNotice (cabinetLoop_apart n))

theorem evaluateLow {n : Fin 8} : PowerFollows b (p.evaluateLow n) := h.works (Part.evaluateLow_works p [] n)

theorem serviceNotice {n : Fin 8} : PowerFollows b (p.serviceNotice n) := by
  unfold Part.serviceNotice
  split
  · exact h.changeMode
  · exact h.changeMode
  · exact h

theorem releaseNotice {n : Fin 8} : PowerFollows b (p.releaseNotice n) :=
  either h.setCabinet.changeMode h.setCabinet.setCabinet

/-! ### Waves -/

theorem ovenClasses {v : Wave} {c : HeaterClass} : PowerFollows b (p.ovenClasses v c) :=
  h.foldl (fun _ n k => k.classNotice (ovenLoop_apart n)) v.ovens

theorem enterPreparing {w : Fin 12} {v : Wave} : PowerFollows b (p.enterPreparing w v) :=
  (h.setWave.foldl (fun _ _ k => k.serviceNotice) v.cabinets).ovenClasses.works (Part.plateCheck_works _ w)

/-- The judgement of a wave (R130). -/
theorem judgeWave {w : Fin 12} : PowerFollows b (p.judgeWave w) := by
  have planned : PowerFollows b (p.judgePlanned w) := h.onWave fun _ => either h.enterPreparing h
  exact ((planned.works (Part.judgePreparing_works _ w)).works (Part.judgeDue_works _ w)).works
    (Part.judgeStanding_works _ w)

/-- The wave closes (R139). -/
theorem closeWave {w : Fin 12} {v : Wave} : PowerFollows b (p.closeWave w v) := by
  have released := h.setWave (w := w) (v := some { v with state := .closed }) |>.foldl
    (fun _ n k => k.releaseNotice (n := n)) v.cabinets
  have classed := either (c := v.state = .planned) released (released.ovenClasses (v := v) (c := .standby))
  have unshort := either (c := v.short = true)
    (classed.setWave (w := w) (v := some { v with state := .closed, short := false })
      |>.ret (slot := platesShortSlot w))
    classed
  exact (either unshort.setWave.ret unshort).cancelNotice

theorem issueNotice {w : Fin 12} {count : Nat} : PowerFollows b (p.issueNotice w count) := by
  refine h.onWave fun v => either ?_ h
  have judged := h.setWave (w := w) (v := some { v with issued := min 65535 (v.issued + count) }) |>.judgeWave (w := w)
  exact judged.onWave fun _ => either judged.closeWave judged

theorem countdownTick {w : Fin 12} : PowerFollows b (p.countdownTick w) :=
  h.onWave fun _ => either h.setWave.judgeWave h

theorem createWave {w : Fin 12} {v : Wave} : PowerFollows b (p.createWave w v) :=
  (h.setWave.foldl (fun q n k => k.works (Part.holdNotice_works q [] w n)) v.cabinets).judgeWave

/-! ### Plates -/

theorem issueFrom {n : Fin 8} {count : Nat} : PowerFollows b (p.issueFrom n count) := by
  have moved := h.setCabinet (n := n)
    (c := { p.cabinets.get n with batches := takeOldest count (p.cabinets.get n).batches }) |>.setStock
      (kind := (p.cabinets.get n).kind)
      (s := { p.stock.get (p.cabinets.get n).kind with
        issued := (p.stock.get (p.cabinets.get n).kind).issued + count })
  unfold Part.issueFrom
  dsimp only
  split
  · exact (either moved.issueNotice moved).works (Part.cabinetMoved_works _ n)
  · exact moved.works (Part.cabinetMoved_works _ n)

/-! ### Ovens -/

/-- An oven's record is replaced; in the trip state by one in IDLE where it stood in IDLE. -/
theorem oneOven {f : Footprint} {own : List (Fin 87)} {q : Part} {n : Fin 6} {o : Oven} (w : Works f own p q)
    (ovens : q.ovens = p.ovens.set n o)
    (idle : p.interlock.trip = true → (p.ovens.get n).state = .idle → o.state = .idle)
    (feeder : f.feeder = false := by rfl) (dish : f.dish = false := by rfl)
    (interlock : f.interlock = false := by rfl) : PowerFollows b q := by
  have t := w.moves.touches
  refine h.ovensOnly (t.feeder feeder) (t.dish dish) (t.interlock interlock) fun trip m rests => ?_
  rw [ovens, Table.get_set]
  split
  · next same => exact idle trip (same ▸ rests)
  · exact rests

/-- A run starts outside the trip state alone (R65). -/
theorem startOven {n : Fin 6} {g : Fin 16} {first : Step} (clear : p.interlock.trip = false) :
    PowerFollows b (p.startOven n g first) :=
  h.oneOven (Part.startOven_works p n g first) (Part.startOven_ovens p n g first)
    fun trip => by simp [clear] at trip

theorem endRun {n : Fin 6} {outcome : OvenOutcome} {askOff : Bool} : PowerFollows b (p.endRun n outcome askOff) :=
  h.oneOven (Part.endRun_works p n outcome askOff) (Part.endRun_ovens p n outcome askOff) fun _ _ => rfl

theorem loaded {n : Fin 6} (waits : (p.ovens.get n).state = .loadWait) :
    PowerFollows b ((p.setOven n { p.ovens.get n with state := .cooking }).ovenChanged n (p.ovens.get n)) := by
  have works := ((Part.setOven_works p waveSlots n { p.ovens.get n with state := .cooking }).widen.trans
    (Part.ovenChanged_works _ n (p.ovens.get n)).widen : Works ovenFoot waveSlots p _)
  exact h.oneOven (n := n) (o := { p.ovens.get n with state := .cooking }) works (by simp) fun _ idle => by
    simp [waits] at idle

/-- A tick does not start an oven (R64). -/
theorem ovenTick {n : Fin 6} : PowerFollows b (p.ovenTick n) := by
  by_cases idle : (p.ovens.get n).state = .idle
  · have still : p.ovenTick n = p := by
      unfold Part.ovenTick
      dsimp only
      split
      · rfl
      · rw [idle]
    rwa [still]
  · obtain ⟨o, l, one, -⟩ := Part.ovenTick_one p n
    exact h.oneOven (Part.ovenTick_works p n) one.ovens fun _ rests => absurd rests idle

theorem ovenDoor {n : Fin 6} {isOpen : Bool} : PowerFollows b (p.ovenDoor n isOpen) :=
  h.oneOven (Part.ovenDoor_works p n isOpen) (Part.ovenDoor_ovens p n isOpen) fun _ idle => idle

end Operations

end PowerFollows

end Sys2Proof.Machine
end

section
/-!
What each request makes of the records that share the power; those of the allocator, CLEAR TRIP and RESTART apart.
-/

namespace Sys2Proof.Machine

/-- In the trip state no program starts (R65). -/
theorem startProgram_tripped (oven program : Byte) {p : Part} (trip : p.interlock.trip = true) :
    (startProgram oven program p).1 = p := by
  unfold startProgram
  simp only [if_pos trip]
  split
  · split
    iterate 4 rfl
    all_goals
      split
      · rfl
      · split <;> rfl
  · rfl

namespace PowerFollows

section Requests

variable {b p : Part} (h : PowerFollows b p)
include h

theorem clearFresh {ch : Fin 23} : PowerFollows b (p.clearFresh ch) := h.same

theorem setEntry {ch : Fin 23} {e : Entry} : PowerFollows b (p.setEntry ch e) := h.works (Part.setEntry_works p [] ch e)

theorem readChannel {channel : Byte} : PowerFollows b (Machine.readChannel channel p).1 := by
  unfold Machine.readChannel
  split
  · exact h
  · exact h.clearFresh

theorem readChannels {first count : Byte} : PowerFollows b (Machine.readChannels first count p).1 :=
  eitherAnswer h (h.foldl (fun _ _ k => k.clearFresh) _)

theorem configureChannel {channel enable : Byte} {gain offset : Half} :
    PowerFollows b (Machine.configureChannel channel gain offset enable p).1 := by
  unfold Machine.configureChannel
  split
  · exact eitherAnswer h (either h.setEntry.mark.ret h.setEntry.mark)
  · exact h

theorem setCabinetMode {cabinet mode : Byte} : PowerFollows b (Machine.setCabinetMode cabinet mode p).1 := by
  unfold Machine.setCabinetMode
  split
  · exact h.changeMode
  · exact h

theorem stockAdd {kind : Byte} {count : Half} : PowerFollows b (Machine.stockAdd kind count p).1 := by
  unfold Machine.stockAdd
  split
  · exact h
  · exact eitherAnswer h (answered h.setStock.plateNotice)

theorem writeOff {kind location : Byte} {count : Half} : PowerFollows b (Machine.writeOff kind location count p).1 := by
  unfold Machine.writeOff
  split
  · exact eitherAnswer h (either h (h.works (Part.writeOffAt_works p _ _ _)))
  · exact h

theorem load {cabinet : Byte} {count : Half} : PowerFollows b (Machine.load cabinet count p).1 := by
  unfold Machine.load
  split
  · exact h
  · exact eitherAnswer h (eitherAnswer h (either h (h.works (Part.loadCabinet_works p _ _))))

theorem issue {cabinet : Byte} {count : Half} : PowerFollows b (Machine.issue cabinet count p).1 := by
  unfold Machine.issue
  split
  · exact h
  · exact eitherAnswer h (either h h.issueFrom)

theorem unloadPlates {cabinet : Byte} {count : Half} : PowerFollows b (Machine.unloadPlates cabinet count p).1 := by
  unfold Machine.unloadPlates
  split
  · exact h
  · exact eitherAnswer h (either h (h.works (Part.unloadFrom_works p _ _)))

theorem returnPlates {kind : Byte} {count : Half} : PowerFollows b (Machine.returnPlates kind count p).1 := by
  unfold Machine.returnPlates
  split
  · exact h
  · exact eitherAnswer h (either h h.setStock.plateNotice)

theorem create {f : CreateFields} : PowerFollows b (Machine.create f p).1 := by
  unfold Machine.create
  split
  · exact h
  · refine eitherAnswer h (eitherAnswer h (eitherAnswer h ?_))
    split
    · exact h
    · exact h.createWave

theorem amend {slot number : Byte} {covers lead : Half} {due : Word} :
    PowerFollows b (Machine.amend slot number covers due lead p).1 := by
  unfold Machine.amend
  split
  · exact h
  · refine eitherAnswer ?_ h
    split
    iterate 3 exact (either h.setWave.mark.ret h.setWave.mark).judgeWave
    all_goals exact h

theorem release {slot number : Byte} : PowerFollows b (Machine.release slot number p).1 := by
  unfold Machine.release
  split
  · exact h
  · split
    iterate 2 exact (h.setWave.foldl (fun _ _ k => k.evaluateLow) _).judgeWave
    all_goals exact h

theorem close {slot number : Byte} : PowerFollows b (Machine.close slot number p).1 := by
  unfold Machine.close
  split
  · exact h
  · split
    iterate 5 exact h.closeWave
    · exact h

theorem delete {slot number : Byte} : PowerFollows b (Machine.delete slot number p).1 := by
  unfold Machine.delete
  split
  · exact h
  · split
    · exact (h.foldl (fun _ _ k => k.releaseNotice) _).setWave
    · exact h.setWave
    all_goals exact h

theorem setPager {entry groups duty : Byte} {address : Half} :
    PowerFollows b (Machine.setPager entry address groups duty p).1 := by
  unfold Machine.setPager
  split
  · exact eitherAnswer h (eitherAnswer h h.onPager)
  · exact h

theorem clearPager {entry : Byte} : PowerFollows b (Machine.clearPager entry p).1 := by
  unfold Machine.clearPager
  split
  · exact h
  · exact eitherAnswer h h.onPager

theorem setGroup {group escalation limit : Byte} {timeout : Half} :
    PowerFollows b (Machine.setGroup group escalation limit timeout p).1 := by
  unfold Machine.setGroup
  split
  · exact h
  · split
    · exact h
    · exact eitherAnswer h.onPager h

theorem setRoute {route enabled group priority code : Byte} :
    PowerFollows b (Machine.setRoute route enabled group priority code p).1 := by
  unfold Machine.setRoute
  split
  · exact h.onPager
  · exact h

theorem page {hostTag group priority code : Byte} {param : Half} :
    PowerFollows b (Machine.page hostTag group priority code param p).1 := by
  unfold Machine.page
  split
  · exact eitherAnswer h h.same
  · exact h

theorem cancelPage {id : Half} : PowerFollows b (Machine.cancelPage id p).1 := by
  unfold Machine.cancelPage
  split
  · exact h
  · exact answered h.onDesk

theorem configureRadio {backoff : Half} : PowerFollows b (Machine.configureRadio backoff p).1 :=
  eitherAnswer h.onPager h

theorem takeOutcomes {maximum : Byte} : PowerFollows b (Machine.takeOutcomes maximum p).1 :=
  eitherAnswer h (either h.onPager h.onPager.mark)

/-- AUTO and MANUAL change places (R35, R36). -/
theorem setLoopMode {loop mode : Byte} : PowerFollows b (Machine.setLoopMode loop mode p).1 := by
  unfold Machine.setLoopMode
  split
  · exact h
  · dsimp only
    split
    · split
      · exact h
      · exact h.setLoop
      all_goals exact h
    · split
      · split
        · exact h
        · exact h.setLoop
        all_goals exact h
      · exact h

theorem setManualOutput {loop : Byte} {output ramp : Half} :
    PowerFollows b (Machine.setManualOutput loop output ramp p).1 := by
  unfold Machine.setManualOutput
  split
  · exact h
  · dsimp only
    split
    · split
      · exact h.setLoop.mark
      all_goals exact h
    · exact h

theorem setLoopSetpoint {loop : Byte} {setpoint : Half} :
    PowerFollows b (Machine.setLoopSetpoint loop setpoint p).1 := by
  unfold Machine.setLoopSetpoint
  split
  · exact h
  · exact h.works (Part.requestSetpoint_works p [] _ _)

theorem configureLoop {loop : Byte} {f : LoopFields} : PowerFollows b (Machine.configureLoop loop f p).1 := by
  unfold Machine.configureLoop
  split
  · exact h.setLoop.mark
  · exact h

theorem configureCabinet {cabinet : Byte} {f : CabinetFields} :
    PowerFollows b (Machine.configureCabinet cabinet f p).1 := by
  unfold Machine.configureCabinet
  split
  · exact h
  · next n _ =>
    dsimp only
    split
    · exact h
    · next after _ =>
      have configured := h.works (p.cabinetConfigured_works n after)
      exact eitherAnswer h (eitherAnswer h configured)

theorem acknowledge {slot count : Byte} : PowerFollows b (Machine.acknowledge slot count p).1 := by
  unfold Machine.acknowledge
  split
  · exact h
  · next i _ =>
    have acked : PowerFollows b
        (({ p with desk := p.desk.setSlot i (p.desk.conds.get i).acknowledged } : Part).cancelNotice (.slot i)) :=
      h.same
    exact eitherAnswer h (eitherAnswer h (acked.tunnel (TunnelLeads.refl _).ackReport))

/-! ### Ovens -/

theorem storeProgram {program stepCount : Byte} {hold band : Half} {steps : List WireStep} :
    PowerFollows b (Machine.storeProgram program stepCount hold band steps p).1 := by
  unfold Machine.storeProgram
  split
  · exact eitherAnswer h h.same
  · exact h

theorem startProgram {oven program : Byte} : PowerFollows b (Machine.startProgram oven program p).1 := by
  rcases startProgram_cases oven program p with same | ⟨n, g, first, -, taken⟩
  · rwa [same]
  · cases trip : p.interlock.trip with
    | true => rwa [startProgram_tripped oven program trip]
    | false =>
      rw [taken]
      exact h.startOven trip

theorem foodLoaded {oven : Byte} : PowerFollows b (Machine.foodLoaded oven p).1 := by
  rcases foodLoaded_cases oven p with same | ⟨n, waits, taken⟩
  · rwa [same]
  · rw [taken]
    exact h.loaded waits

theorem unload {oven : Byte} : PowerFollows b (Machine.unload oven p).1 := by
  rcases unload_cases oven p with same | ⟨n, askOff, -, taken⟩
  · rwa [same]
  · rw [taken]
    exact h.endRun

theorem abort {oven : Byte} : PowerFollows b (Machine.abort oven p).1 := by
  rcases abort_cases oven p with same | ⟨n, taken⟩
  · rwa [same]
  · rw [taken]
    exact h.endRun

/-- Every request but these four. -/
theorem performRequest {i : Instr} (notHeater : ∀ tag heater rated, i ≠ .configureHeater tag heater rated)
    (notFeeder : ∀ tag limit reduced starveTime, i ≠ .configureFeeder tag limit reduced starveTime)
    (notClear : ∀ tag, i ≠ .clearTrip tag) (notRestart : ∀ tag, i ≠ .restart tag) :
    PowerFollows b (Machine.performRequest i p).1 := by
  have start := TunnelLeads.refl p
  cases i
  case configureHeater => exact absurd rfl (notHeater _ _ _)
  case configureFeeder => exact absurd rfl (notFeeder _ _ _ _)
  case clearTrip => exact absurd rfl (notClear _)
  case restart => exact absurd rfl (notRestart _)
  case readChannel => exact h.readChannel
  case readChannels => exact h.readChannels
  case configureChannel => exact h.configureChannel
  case setLoopMode => exact h.setLoopMode
  case setManualOutput => exact h.setManualOutput
  case setLoopSetpoint => exact h.setLoopSetpoint
  case configureLoop => exact h.configureLoop
  case storeProgram => exact h.storeProgram
  case startProgram => exact h.startProgram
  case foodLoaded => exact h.foodLoaded
  case unload => exact h.unload
  case abort => exact h.abort
  case configureCabinet => exact h.configureCabinet
  case setCabinetMode => exact h.setCabinetMode
  case stockAdd => exact h.stockAdd
  case writeOff => exact h.writeOff
  case load => exact h.load
  case issue => exact h.issue
  case unloadPlates => exact h.unloadPlates
  case returnPlates => exact h.returnPlates
  case create => exact h.create
  case amend => exact h.amend
  case release => exact h.release
  case close => exact h.close
  case delete => exact h.delete
  case acknowledge => exact h.acknowledge
  case setPager => exact h.setPager
  case clearPager => exact h.clearPager
  case setGroup => exact h.setGroup
  case setRoute => exact h.setRoute
  case page => exact h.page
  case cancelPage => exact h.cancelPage
  case configureRadio => exact h.configureRadio
  case takeOutcomes => exact h.takeOutcomes
  case poll => exact h.same
  case configureDish => exact h.tunnel start.configureDish
  case dishOn => exact h.tunnel start.dishOn
  case run => exact h.tunnel start.runTunnel
  case stop => exact h.tunnel start.stop
  case dishOff => exact h.tunnel start.dishOff
  case declareRack => exact h.tunnel start.declareRack
  case takeRacks => exact h.tunnel start.takeRacks
  case clearRingCount => exact h.tunnel start.clearRingCount
  -- the reads, and the events, which are no requests
  all_goals simpa [Machine.performRequest, readFeeder, readDish, readTunnel, readWaves, readPending, readPages,
    readRadio, readInterlocks] using h

end Requests

end PowerFollows

end Sys2Proof.Machine
end

section
/-!
An invariant of the records that share the power is kept by every step, where the work of the units keeps it, and the
commands of the allocator, FEEDER_REDUCE, the trip state, a warm restart and power-on.
-/

namespace Sys2Proof.Machine

/-- A CONFIGURE HEATER changes nothing, or stores the rating of a heater (R43). -/
theorem configureHeater_cases (heater : Byte) (rated : Half) (p : Part) :
    (configureHeater heater rated p).1 = p ∨
      ∃ n, (configureHeater heater rated p).1 = p.heaterRated n rated.toNat := by
  by_cases out : 16 ≤ heater.toNat ∨ 60000 < rated.toNat
  · rw [configureHeater_outOfRange p out]
    exact .inl rfl
  · obtain ⟨inTable, inRange⟩ := not_or.mp out
    by_cases off : (p.loops.get ⟨heater.toNat, by omega⟩).base = .off
    · rw [configureHeater_taken p (by omega) (by omega) off]
      exact .inr ⟨_, rfl⟩
    · rw [configureHeater_on p (by omega) (by omega) off]
      exact .inl rfl

/-- A CONFIGURE FEEDER changes nothing, or stores its three values (R45). -/
theorem configureFeeder_cases (limit reduced : Word) (starveTime : Half) (p : Part) :
    (configureFeeder limit reduced starveTime p).1 = p ∨
      (configureFeeder limit reduced starveTime p).1 = p.feederSet limit.toNat reduced.toNat starveTime.toNat := by
  by_cases out : 600000 < limit.toNat ∨ limit.toNat < reduced.toNat ∨ starveTime.toNat < 60 ∨ 1800 < starveTime.toNat
  · rw [configureFeeder_outOfRange p out]
    exact .inl rfl
  · rw [configureFeeder_taken p (by omega) (by omega) (by omega) (by omega)]
    exact .inr rfl

/-- A CLEAR TRIP changes nothing, or ends the trip state (R183). -/
theorem clearTrip_cases (p : Part) :
    (clearTrip p).1 = p ∨ p.interlock.trip = true ∧ (clearTrip p).1 = p.leaveTrip := by
  by_cases refused : p.interlock.trip = false ∨ p.asserted .hoodTrip = true
  · rw [clearTrip_refused p refused]
    exact .inl rfl
  · obtain ⟨trip, released⟩ : p.interlock.trip = true ∧ p.asserted .hoodTrip = false := by simpa using refused
    rw [clearTrip_taken p trip released]
    exact .inr ⟨trip, rfl⟩

/-- An invariant that the work of the units keeps, and that the commands that write the records themselves keep too. -/
structure PowerInvariant (I : Part → Prop) : Prop where
  follows : ∀ {p q}, PowerFollows p q → I p → I q
  heaterRated : ∀ {p : Part} n rated, I p → I (p.heaterRated n rated)
  feederSet : ∀ {p : Part} limit reduced starveTime, I p → I (p.feederSet limit reduced starveTime)
  reduceSettled : ∀ {p : Part} l, I p → I (p.setLine .feederReduce l).reduceChange
  allocationRound : ∀ {p : Part}, I p → I p.allocationRound
  burstStep : ∀ {p : Part}, I p → I { p with feeder := p.feeder.burstStep }
  enterTrip : ∀ {p : Part}, I p → I p.enterTrip
  leaveTrip : ∀ {p : Part}, p.interlock.trip = true → I p → I p.leaveTrip
  restarted : ∀ {p : Part}, I p → I p.restarted
  poweredOn : ∀ {p : Part}, I p.poweredOn

namespace PowerInvariant

variable {I : Part → Prop} (keeps : PowerInvariant I) {p : Part}
include keeps

/-! ### Requests -/

theorem same (h : I p) {q : Part} (feeder : q.feeder = p.feeder := by rfl) (ovens : q.ovens = p.ovens := by rfl)
    (dish : q.dish = p.dish := by rfl) (interlock : q.interlock = p.interlock := by rfl) : I q :=
  keeps.follows ((PowerFollows.refl p).same feeder ovens dish interlock) h

theorem configureHeater {heater : Byte} {rated : Half} (h : I p) : I (Machine.configureHeater heater rated p).1 := by
  rcases configureHeater_cases heater rated p with same | ⟨n, taken⟩
  · rwa [same]
  · rw [taken]
    exact keeps.heaterRated n _ h

theorem configureFeeder {limit reduced : Word} {starveTime : Half} (h : I p) :
    I (Machine.configureFeeder limit reduced starveTime p).1 := by
  rcases configureFeeder_cases limit reduced starveTime p with same | taken
  · rwa [same]
  · rw [taken]
    exact keeps.feederSet _ _ _ h

theorem clearTrip (h : I p) : I (Machine.clearTrip p).1 := by
  rcases clearTrip_cases p with same | ⟨trip, taken⟩
  · rwa [same]
  · rw [taken]
    exact keeps.leaveTrip trip h

theorem performRequest (i : Instr) (h : I p) : I (Machine.performRequest i p).1 := by
  by_cases own : (∃ tag heater rated, i = .configureHeater tag heater rated) ∨
      (∃ tag limit reduced starveTime, i = .configureFeeder tag limit reduced starveTime) ∨
      (∃ tag, i = .clearTrip tag) ∨ ∃ tag, i = .restart tag
  · obtain ⟨_, _, _, rfl⟩ | ⟨_, _, _, _, rfl⟩ | ⟨_, rfl⟩ | ⟨tag, rfl⟩ := own
    · exact keeps.configureHeater h
    · exact keeps.configureFeeder h
    · exact keeps.clearTrip h
    · rw [performRequest_restart]
      exact keeps.restarted h
  · simp only [not_or, not_exists] at own
    obtain ⟨notHeater, notFeeder, notClear, notRestart⟩ := own
    exact keeps.follows ((PowerFollows.refl p).performRequest notHeater notFeeder notClear notRestart) h

/-! ### Frames -/

theorem performFrame (f : Frame) (h : I p) : I (Machine.performFrame f p).1 := by
  unfold Machine.performFrame
  split
  · exact h
  · exact h
  · exact keeps.performRequest _ h

theorem takeBuffer (buffer : Buffer) (h : I p) : I (p.takeBuffer buffer) := by
  have taken := keeps.performFrame buffer.frame
    (keeps.same h (q := p.onLink fun k => { k with buffers := takeOldestFrame k.buffers }))
  exact keeps.same taken (q := Part.reply _ _ _ _ _)

theorem takeWaiting (most : Nat) (h : I p) : I (p.takeWaiting most) := by
  induction most generalizing p with
  | zero => exact h
  | succ most ih =>
    unfold Part.takeWaiting
    split
    · exact h
    · exact ih (keeps.takeBuffer _ h)

theorem frameComplete (f : Frame) (h : I p) : I (p.frameComplete f) := by
  unfold Part.frameComplete
  split
  · exact keeps.takeWaiting 2 (keeps.same h (q := p.onLink _))
  · exact h

theorem controlByte (late : Bool) (byte : Byte) (h : I p) : I (p.controlByte late byte) := by
  have received := keeps.same h (q := p.onLink fun k => { k with rx := (p.desk.link.rx.byte late byte).1 })
  unfold Part.controlByte
  dsimp only
  split
  · exact keeps.frameComplete _ received
  · exact received

theorem replySent (h : I p) : I p.replySent := by
  unfold Part.replySent
  split
  · exact keeps.takeWaiting 2 (keeps.same h (q := p.onLink _))
  · exact h

/-! ### Lines -/

theorem hoodAsserted (h : I p) : I p.hoodAsserted := by
  have raised : I (p.raise hoodTripSlot 0) := keeps.same h
  unfold Part.hoodAsserted
  dsimp only
  split
  · exact raised
  · exact keeps.enterTrip raised

/-- A line that settles: HOOD_TRIP and FEEDER_REDUCE by their clauses, the others by what their blocks do. -/
theorem filterExpiry (line : Line) (h : I p) : I (p.filterExpiry line) := by
  unfold Part.filterExpiry
  dsimp only
  split
  · split
    · next same => exact keeps.follows ((PowerFollows.refl p).setLine (.inl same)) h
    · have start (other : line ≠ .feederReduce) :=
        (PowerFollows.refl p).setLine (l := (p.line line).settled) (.inr other)
      unfold Part.handOn
      split
      · have settled := keeps.follows (start (by simp)) h
        split
        · exact keeps.hoodAsserted settled
        · exact settled
      · exact keeps.follows (start (by simp)).ovenDoor h
      · exact keeps.follows ((start (by simp)).tunnel (TunnelLeads.refl _).dishDoor) h
      · exact keeps.follows ((start (by simp)).tunnel (TunnelLeads.refl _).overloadChange) h
      · exact keeps.reduceSettled _ h
      · split
        · exact keeps.follows ((start (by simp)).tunnel (TunnelLeads.refl _).rackEntryEdge) h
        · exact keeps.follows (start (by simp)) h
      · split
        · exact keeps.follows ((start (by simp)).tunnel (TunnelLeads.refl _).rackExitEdge) h
        · exact keeps.follows (start (by simp)) h
  · exact h

/-! ### Commands -/

/-- The part as an event leaves it, before what became ready is handed to the transmitter. -/
theorem exec_event {c : Instr} (isEvent : encodeRequest c = none) (notOn : c ≠ .powerOn) {s : State} (h : I s.part) :
    ∃ after, exec c s = .next (s.event after) ∧ I after := by
  have start := PowerFollows.refl s.part
  have tunnel := TunnelLeads.refl s.part
  have desk (f : Word → Desk → Desk) : I (s.part.onDesk f) := keeps.same h
  have link (f : Link → Link) : I (s.part.onLink f) := keeps.same h
  cases c
  case powerOn => exact absurd rfl notOn
  case controlFrameComplete kind tag payload => exact ⟨_, rfl, keeps.frameComplete _ (link _)⟩
  case replySent => exact ⟨_, rfl, keeps.replySent h⟩
  case scanVisit raw => exact ⟨_, rfl, keeps.follows (start.tunnel tunnel.scanVisit) h⟩
  case loopCycle n => exact ⟨_, rfl, keeps.follows (start.works (Part.loopCycle_works _ n)) h⟩
  case allocationRound => exact ⟨_, rfl, keeps.allocationRound h⟩
  case heaterBurstStep => exact ⟨_, rfl, keeps.burstStep h⟩
  case ovenTimingTick n => exact ⟨_, rfl, keeps.follows start.ovenTick h⟩
  case warmTick n => exact ⟨_, rfl, keeps.follows (start.works (Part.warmTick_works _ n)) h⟩
  case temperatureCheck => exact ⟨_, rfl, keeps.follows (start.tunnel tunnel.temperatureCheck) h⟩
  case washColdJudgement => exact ⟨_, rfl, keeps.follows (start.tunnel tunnel.judgeWashCold) h⟩
  case encoderPulse => exact ⟨_, rfl, keeps.follows start.encoderPulse h⟩
  case countdownTick w => exact ⟨_, rfl, keeps.follows start.countdownTick h⟩
  case accepted tag id => exact ⟨_, rfl, desk _⟩
  case backoff tag id => exact ⟨_, rfl, desk _⟩
  case backoffEnd => exact ⟨_, rfl, desk _⟩
  case silenceTimeout => exact ⟨_, rfl, desk _⟩
  case statusTimer => exact ⟨_, rfl, desk _⟩
  case statusReply tag => exact ⟨_, rfl, desk _⟩
  case answerAccept address id => exact ⟨_, rfl, desk _⟩
  case answerDecline address id => exact ⟨_, rfl, desk _⟩
  case pageDeadline id => exact ⟨_, rfl, desk _⟩
  case rawLineChange line asserted =>
    refine ⟨_, rfl, keeps.follows (start.setLine (.inl ?_)) h⟩
    unfold LineState.atLevel
    split <;> rfl
  case filterTimerExpiry line => exact ⟨_, rfl, keeps.filterExpiry line h⟩
  case controlLinkByte late byte => exact ⟨_, rfl, keeps.controlByte late byte h⟩
  case pagerLinkByte late byte => exact ⟨_, rfl, desk _⟩
  case attentionSent => exact ⟨_, rfl, link _⟩
  case uptimeSecond => exact ⟨_, rfl, keeps.same h⟩
  -- the requests
  all_goals cases isEvent

/-- Every command keeps the invariant. -/
theorem exec {c : Instr} {s t : State} (h : I s.part) (isNext : Machine.exec c s = .next t) : I t.part := by
  cases isRequest : encodeRequest c with
  | some f =>
    rw [exec_of_encodeRequest isRequest] at isNext
    cases isNext
    exact keeps.same (keeps.performRequest c h)
  | none =>
    by_cases on : c = .powerOn
    · subst on
      cases isNext
      exact keeps.poweredOn
    · obtain ⟨after, exec_eq, kept⟩ := keeps.exec_event isRequest on h
      rw [exec_eq] at isNext
      cases isNext
      exact keeps.same kept

/-- So does every step. -/
theorem step {s t : State} (h : I s.part) (isNext : Machine.step s = .next t) : I t.part := by
  unfold Machine.step at isNext
  split at isNext
  · cases isNext
    exact h
  · next rest _ => exact keeps.exec (s := { s with pending := rest }) h isNext

end PowerInvariant

end Sys2Proof.Machine
end

section
/-!
Chapter 3: the grants of a round keep to its budget, and every step keeps the budget (R43, R44, R46, R47, R50, R51).
-/

namespace Sys2Proof.Machine

/-! ## The sums of a round (R50) -/

/-- Parts scaled down by one ratio sum to no more than their sum scaled down. -/
theorem sum_scaled_le (left total : Nat) (parts : List Nat) :
    (parts.map fun x => x * left / total).sum ≤ parts.sum * left / total := by
  induction parts with
  | nil => simp
  | cons x rest ih =>
    rw [List.map_cons, List.sum_cons, List.sum_cons, Nat.add_mul]
    exact (Nat.add_le_add_left ih _).trans Nat.div_add_div_le_add_div

/-- The shares of a class sum to no more than what is left for it, and not to more than its demand. -/
theorem sum_shareOf_le (served : Bool) (left : Nat) (powers : List Nat) :
    (powers.map (shareOf served left powers.sum)).sum ≤ if served then min left powers.sum else 0 := by
  cases served with
  | false =>
    have none : shareOf false left powers.sum = fun _ => 0 := funext fun _ => rfl
    simp [none]
  | true =>
    by_cases whole : powers.sum ≤ left
    · have same : powers.map (shareOf true left powers.sum) = powers :=
        (List.map_congr_left fun x _ => by simp [shareOf, whole]).trans (List.map_id _)
      rw [same]
      simp [whole]
    · have scaled : powers.map (shareOf true left powers.sum) = powers.map fun x => x * left / powers.sum :=
        List.map_congr_left fun x _ => by simp [shareOf, whole]
      have bound := sum_scaled_le left powers.sum powers
      rw [Nat.mul_div_cancel_left _ (by omega)] at bound
      rw [scaled, if_pos rfl, Nat.min_eq_left (by omega)]
      exact bound

/-- No watts are a share of no power. -/
theorem shareOf_zero (served : Bool) (left total : Nat) : shareOf served left total 0 = 0 := by
  unfold shareOf
  simp

section Shares

variable (p : Part)

/-- The demand power of a heater as its class counts it. -/
def Part.classPower (c : HeaterClass) (n : Fin 16) : Nat := if (p.feeder.heaters.get n).cls = c then p.power n else 0

/-- What a heater receives as one of a class. -/
def Part.classShare (c : HeaterClass) (n : Fin 16) : Nat :=
  shareOf (p.classServed c) (p.classLeft c) (p.classTotal c) (p.classPower c n)

theorem Part.sum_classShare_le (c : HeaterClass) : ((List.finRange 16).map (p.classShare c)).sum ≤
    if p.classServed c then min (p.classLeft c) (p.classTotal c) else 0 := by
  have bound := sum_shareOf_le (p.classServed c) (p.classLeft c) ((List.finRange 16).map (p.classPower c))
  rw [List.map_map] at bound
  exact bound

/-- A heater is of one class alone. -/
theorem Part.classShare_sum (n : Fin 16) :
    p.classShare .sanitise n + p.classShare .service n + p.classShare .standby n =
      shareOf (p.classServed (p.feeder.heaters.get n).cls) (p.classLeft (p.feeder.heaters.get n).cls)
        (p.classTotal (p.feeder.heaters.get n).cls) (p.power n) := by
  unfold Part.classShare Part.classPower
  cases (p.feeder.heaters.get n).cls with
  | sanitise => simp [shareOf_zero]
  | service => simp [shareOf_zero]
  | standby => simp [shareOf_zero]

/-- The watts of a round sum to no more than its budget: each class takes at most what the earlier ones leave. -/
theorem Part.sum_roundWatts_le : ((List.finRange 16).map p.budgeted.roundWatts).sum ≤ p.roundBudget := by
  cases trip : p.interlock.trip with
  | true =>
    have none : p.budgeted.roundWatts = fun _ => 0 := by
      funext n
      rw [p.budgeted_roundWatts, trip]
      rfl
    simp [none]
  | false =>
    have parts : p.budgeted.roundWatts = fun n =>
        p.classShare .sanitise n + p.classShare .service n + p.classShare .standby n := by
      funext n
      rw [p.budgeted_roundWatts, trip, p.classShare_sum]
      rfl
    have sanitise := p.sum_classShare_le .sanitise
    have service := p.sum_classShare_le .service
    have standby := p.sum_classShare_le .standby
    rw [parts, List.sum_map_add, List.sum_map_add]
    simp only [Part.classServed, Part.classLeft, Bool.and_eq_true, decide_eq_true_eq] at sanitise service standby
    generalize p.classTotal = total at *
    split at service
    all_goals split at standby
    all_goals simp only [if_true] at sanitise
    all_goals omega

end Shares

/-- What a heater is delivered is no more than it was assigned (R51). -/
theorem delivered_le (watts rated : Nat) : rated * grantOf watts rated / 1000 ≤ watts := by
  unfold grantOf
  split
  · simp
  · calc rated * (watts * 1000 / rated) / 1000 ≤ watts * 1000 / 1000 :=
          Nat.div_le_div_right (Nat.mul_div_le _ _)
      _ = watts := Nat.mul_div_cancel _ (by omega)

/-! ## The budget as an invariant -/

/-- What holds of the entries and the totals, apart from the requested budget and REDUCED_ACK. -/
structure Feeder.GrantsKept (f : Feeder) : Prop where
  delivered : ∀ n, (f.heaters.get n).delivered ≤ (f.heaters.get n).assigned
  granted : f.grantedTotal = ((List.finRange 16).map fun n => (f.heaters.get n).assigned).sum
  total : f.deliveredTotal = ((List.finRange 16).map fun n => (f.heaters.get n).delivered).sum
  within : f.grantedTotal ≤ f.applied
  sanitise : (f.heaters.get 14).cls = .sanitise ∧ (f.heaters.get 15).cls = .sanitise

theorem BudgetKept.grants {p : Part} (h : BudgetKept p) : p.feeder.GrantsKept :=
  ⟨h.delivered, h.granted, h.total, h.within, h.sanitise⟩

/-- Grants that stand where the settings and the line do. -/
theorem BudgetKept.of_grants {p q : Part} (h : BudgetKept p) (grants : q.feeder.GrantsKept)
    (line : q.asserted .feederReduce = p.asserted .feederReduce) (requested : q.feeder.requested = p.feeder.requested)
    (settings : q.feeder.reduced = p.feeder.reduced ∧ q.feeder.limit = p.feeder.limit)
    (ack : q.feeder.reducedAck = true ↔
      p.asserted .feederReduce = true ∧ q.feeder.applied = p.feeder.reduced) : BudgetKept q where
  delivered := grants.delivered
  granted := grants.granted
  total := grants.total
  within := grants.within
  requested := by rw [requested, line, settings.1, settings.2, h.requested]
  ack := by rw [line, settings.1, ack]
  sanitise := grants.sanitise

/-- The allocator with its heaters as they were, but for what the budget does not count. -/
theorem Feeder.GrantsKept.of_heaters {f g : Feeder} (h : f.GrantsKept)
    (assigned : ∀ n, (g.heaters.get n).assigned = (f.heaters.get n).assigned)
    (delivered : ∀ n, (g.heaters.get n).delivered = (f.heaters.get n).delivered)
    (cls : ∀ n : Fin 16, 14 ≤ n.val → (g.heaters.get n).cls = (f.heaters.get n).cls)
    (granted : g.grantedTotal = f.grantedTotal) (total : g.deliveredTotal = f.deliveredTotal)
    (applied : g.applied = f.applied) : g.GrantsKept where
  delivered n := by rw [assigned, delivered]; exact h.delivered n
  granted := by simp only [granted, assigned, h.granted]
  total := by simp only [total, delivered, h.total]
  within := by rw [granted, applied]; exact h.within
  sanitise := by rw [cls 14 (by decide), cls 15 (by decide)]; exact h.sanitise

/-- Every grant cut (R55, R61). -/
theorem Feeder.GrantsKept.of_cut {f g : Feeder} (h : f.GrantsKept) (assigned : ∀ n, (g.heaters.get n).assigned = 0)
    (delivered : ∀ n, (g.heaters.get n).delivered = 0)
    (cls : ∀ n : Fin 16, 14 ≤ n.val → (g.heaters.get n).cls = (f.heaters.get n).cls) (granted : g.grantedTotal = 0)
    (total : g.deliveredTotal = 0) : g.GrantsKept where
  delivered n := by rw [assigned, delivered]
  granted := by simp [granted, assigned]
  total := by simp [total, delivered]
  within := by rw [granted]; exact Nat.zero_le _
  sanitise := by rw [cls 14 (by decide), cls 15 (by decide)]; exact h.sanitise

/-- One entry of a sum over the table is replaced. -/
theorem sum_set_add (table : Table Heater 16) (n : Fin 16) (a : Heater) (f : Heater → Nat) :
    ((List.finRange 16).map fun m => f ((table.set n a).get m)).sum + f (table.get n) =
      ((List.finRange 16).map fun m => f (table.get m)).sum + f a := by
  simp only [← Fin.sum_univ_def]
  rw [← Finset.add_sum_erase _ _ (Finset.mem_univ n),
    ← Finset.add_sum_erase _ (fun m => f (table.get m)) (Finset.mem_univ n)]
  have others : ∑ m ∈ Finset.univ.erase n, f ((table.set n a).get m) = ∑ m ∈ Finset.univ.erase n, f (table.get m) :=
    Finset.sum_congr rfl fun m mem => by rw [Table.get_set_ne _ _ (Finset.ne_of_mem_erase mem)]
  rw [others, Table.get_set_self]
  omega

namespace BudgetKept

variable {p q : Part}

theorem follows (h : BudgetKept p) (k : PowerFollows p q) : BudgetKept q := by
  have feeder := k.notices.feeder
  refine h.of_grants (h.grants.of_heaters (fun n => ?_) (fun n => ?_) k.cls ?_ ?_ ?_) k.reduce ?_ ?_ ?_
  · rw [k.notices.heater n]
  · rw [k.notices.heater n]
  · rw [feeder]
  · rw [feeder]
  · rw [feeder]
  · rw [feeder]
  · rw [feeder]
    exact ⟨rfl, rfl⟩
  · rw [feeder]
    exact h.ack

/-- A heater under a new rating takes its share out of the totals (R43). -/
theorem heaterRated (h : BudgetKept p) (n : Fin 16) (rated : Nat) : BudgetKept (p.heaterRated n rated) := by
  have feeder := p.heaterRated_feeder n rated
  have interlock := (p.heaterRated_works n rated).moves.touches.interlock rfl
  generalize p.heaterRated n rated = q at *
  have assigned := sum_set_add p.feeder.heaters n { (p.feeder.heaters.get n).cut with rated } Heater.assigned
  have delivered := sum_set_add p.feeder.heaters n { (p.feeder.heaters.get n).cut with rated } Heater.delivered
  rw [← h.granted] at assigned
  rw [← h.total] at delivered
  have within := h.within
  refine h.of_grants ⟨fun m => ?_, ?_, ?_, ?_, ?_⟩ ?_ ?_ ?_ ?_
  · rw [feeder, Table.get_set]
    split
    · exact le_refl _
    · exact h.delivered m
  · rw [feeder]
    simp only [Heater.cut] at assigned ⊢
    omega
  · rw [feeder]
    simp only [Heater.cut] at delivered ⊢
    omega
  · rw [feeder]
    dsimp only
    omega
  · have cls (m : Fin 16) : (q.feeder.heaters.get m).cls = (p.feeder.heaters.get m).cls := by
      rw [feeder, Table.get_set]
      split
      · next same => rw [same]; rfl
      · rfl
    rw [cls, cls]
    exact h.sanitise
  · simp only [Part.asserted, interlock]
  · rw [feeder]
  · rw [feeder]
    exact ⟨rfl, rfl⟩
  · rw [feeder]
    exact h.ack

/-- The requested budget and REDUCED_ACK derived anew (R46, R47). -/
theorem reduceChange (grants : p.feeder.GrantsKept) : BudgetKept p.reduceChange where
  delivered := grants.delivered
  granted := grants.granted
  total := grants.total
  within := grants.within
  requested := rfl
  ack := Bool.and_eq_true_iff.trans (and_congr_right fun _ => decide_eq_true_iff)
  sanitise := grants.sanitise

theorem feederSet (h : BudgetKept p) (limit reduced starveTime : Nat) :
    BudgetKept (p.feederSet limit reduced starveTime) :=
  reduceChange ⟨h.delivered, h.granted, h.total, h.within, h.sanitise⟩

theorem allocationRound (h : BudgetKept p) : BudgetKept p.allocationRound := by
  have feeder := p.allocationRound_feeder
  have heater := p.allocationRound_heater
  have interlock := p.allocationRound_works.moves.touches.interlock rfl
  have within := p.sum_roundWatts_le
  generalize p.allocationRound = q at *
  generalize p.budgeted.roundWatts = watts at *
  have entry (n : Fin 16) : (q.feeder.heaters.get n).assigned = watts n ∧ (q.feeder.heaters.get n).delivered =
      (p.feeder.heaters.get n).rated * grantOf (watts n) (p.feeder.heaters.get n).rated / 1000 ∧
      (q.feeder.heaters.get n).cls = (p.feeder.heaters.get n).cls := by
    rw [heater n]
    exact ⟨rfl, rfl, rfl⟩
  refine h.of_grants ⟨fun n => ?_, ?_, ?_, ?_, ?_⟩ ?_ ?_ ?_ ?_
  · rw [(entry n).1, (entry n).2.1]
    exact delivered_le _ _
  · simp only [(entry _).1]
    rw [feeder]
  · simp only [(entry _).2.1]
    rw [feeder]
  · rw [feeder]
    exact within
  · rw [(entry 14).2.2, (entry 15).2.2]
    exact h.sanitise
  · simp only [Part.asserted, interlock]
  · rw [feeder]
  · rw [feeder]
    exact ⟨rfl, rfl⟩
  · rw [feeder]
    simp

/-- A burst step writes outputs (R53). -/
theorem burstStep (h : BudgetKept p) : BudgetKept { p with feeder := p.feeder.burstStep } := by
  by_cases within : p.feeder.nextStep < 1000
  · have feeder := p.feeder.burstStep_within within
    have heater := p.feeder.burstStep_heater within
    generalize p.feeder.burstStep = g at *
    refine h.of_grants (h.grants.of_heaters (fun n => ?_) (fun n => ?_) (fun n _ => ?_) ?_ ?_ ?_) rfl ?_ ?_ ?_
    · rw [heater n]
    · rw [heater n]
    · rw [heater n]
    · rw [feeder]
    · rw [feeder]
    · rw [feeder]
    · rw [feeder]
    · rw [feeder]
      exact ⟨rfl, rfl⟩
    · rw [feeder]
      exact h.ack
  · rwa [p.feeder.burstStep_past (not_lt.mp within)]

/-- Trip entry cuts every grant (R55). -/
theorem enterTrip (h : BudgetKept p) : BudgetKept p.enterTrip := by
  have feeder := p.enterTrip_feeder
  have interlock := p.enterTrip_interlock
  have others {n : Fin 16} := p.enterTrip_heater (n := n)
  have booster := p.enterTrip_booster
  generalize p.enterTrip = q at *
  have entry (n : Fin 16) : (q.feeder.heaters.get n).assigned = 0 ∧ (q.feeder.heaters.get n).delivered = 0 ∧
      (q.feeder.heaters.get n).cls = (p.feeder.heaters.get n).cls := by
    by_cases is : n = 15
    · subst is
      rw [booster]
      exact ⟨rfl, rfl, rfl⟩
    · rw [others is]
      exact ⟨rfl, rfl, rfl⟩
  refine h.of_grants (h.grants.of_cut (fun n => (entry n).1) (fun n => (entry n).2.1) (fun n _ => (entry n).2.2) ?_ ?_)
    ?_ ?_ ?_ ?_
  · rw [feeder]
  · rw [feeder]
  · simp only [Part.asserted, interlock]
  · rw [feeder]
  · rw [feeder]
    exact ⟨rfl, rfl⟩
  · rw [feeder]
    exact h.ack

/-- The end of the trip state leaves the allocator to the tunnel's valve (R183, R121). -/
theorem leaveTrip (h : BudgetKept p) : BudgetKept p.leaveTrip := by
  have ended : BudgetKept p.tripEnded := ⟨h.delivered, h.granted, h.total, h.within, h.requested, h.ack, h.sanitise⟩
  rw [Part.leaveTrip_ended]
  exact ended.follows ((PowerFollows.refl _).tunnel ((TunnelLeads.refl p.tripEnded).tripTunnelExit rfl))

/-- A warm restart cuts every grant (R61). -/
theorem restarted (h : BudgetKept p) : BudgetKept p.restarted := by
  have feeder := p.restarted_feeder
  have heater := p.restarted_heater
  have interlock := p.restarted_interlock
  have cls := p.restarted_cls_tunnel
  generalize p.restarted = q at *
  refine h.of_grants (h.grants.of_cut (fun n => ?_) (fun n => ?_) cls ?_ ?_) ?_ ?_ ?_ ?_
  · rw [heater n]
  · rw [heater n]
  · rw [feeder]
  · rw [feeder]
  · simp only [Part.asserted, interlock]
  · rw [feeder]
  · rw [feeder]
    exact ⟨rfl, rfl⟩
  · rw [feeder]
    simp

end BudgetKept

theorem budgetKept_kept : PowerInvariant BudgetKept where
  follows k h := h.follows k
  heaterRated n rated h := h.heaterRated n rated
  feederSet limit reduced starveTime h := h.feederSet limit reduced starveTime
  reduceSettled _ h := .reduceChange h.grants
  allocationRound h := h.allocationRound
  burstStep h := h.burstStep
  enterTrip h := h.enterTrip
  leaveTrip _ h := h.leaveTrip
  restarted h := h.restarted
  poweredOn := (Part.poweredOn_atPowerOn _).budgetKept

/-- Settles O8: a round keeps to its budget, a new rating and the trip take shares out of the totals, and no other work
writes a grant. -/
theorem stepsKeepTheBudget : Obligations.StepsKeepTheBudget :=
  fun _ h _ isNext => budgetKept_kept.step h isNext

end Sys2Proof.Machine
end

section
/-!
Every step keeps the tunnel's outputs as their terms say, and the trip state cold (R49, R55, R77, R103, R107, R111 to
R113, R116, R121, R181, R182).
-/

namespace Sys2Proof.Machine

/-- A heater that the trip state holds off (R55). -/
def Heater.Quiet (a : Heater) : Prop := a.grant = 0 ∧ a.delivered = 0 ∧ a.output = false

/-- What the tunnel and the trip state keep, with the tunnel's own part said of its record. -/
structure ColdKept (p : Part) : Prop where
  dish : p.dish.Judged p.interlock.trip
  lock : (p.feeder.heaters.get 15).locked = p.dish.valveOpen
  drive : p.interlock.driveEnable = !p.interlock.trip
  heaters : p.interlock.trip = true → ∀ n, (p.feeder.heaters.get n).Quiet
  ovens : p.interlock.trip = true → ∀ n, (p.ovens.get n).state = .idle

theorem coldKept_iff {p : Part} : ColdKept p ↔ TunnelKept p ∧ TripHeld p := by
  refine ⟨fun h => ?_, fun ⟨tunnel, trip⟩ => ?_⟩
  · have stands := h.dish.stands
    exact ⟨⟨stands.queue, stands.ring, stands.declared, stands.conveyor, h.dish.gate, h.dish.valve, h.lock,
      stands.reasons, stands.zones⟩, h.drive, h.heaters, h.ovens, stands.tripped⟩
  · exact ⟨⟨⟨tunnel.queue, tunnel.ring, tunnel.declared, tunnel.conveyor, tunnel.reasons, tunnel.zones, trip.tunnel⟩,
      tunnel.gate, tunnel.valve⟩, tunnel.lock, trip.drive, trip.heaters, trip.ovens⟩

/-- A heater without watts is quiet after a round (R51, R53). -/
theorem Heater.quiet_granted (a : Heater) (round : Word) : (a.granted round 0).Quiet := by
  simp [Heater.Quiet, Heater.granted, grantOf, burstOn]

theorem Heater.quiet_cut (a : Heater) : a.cut.Quiet := ⟨rfl, rfl, rfl⟩

/-- No step of the window drives a heater without a grant (R53). -/
theorem burstOn_zero (k : Nat) : burstOn 0 k = false := by simp [burstOn]

/-- The tunnel after trip entry: HELD for TRIP, without racks, everything closed (R121). -/
theorem Dish.Stands.tripped_judged {trip : Bool} {d : Dish} (h : d.Stands trip) {ring : List Rack}
    (length : ring.length ≤ 64) (overwrites : Nat) : (d.tripped ring overwrites).Judged true := by
  have reason : (d.tripped ring overwrites).reasons.trip = true := by
    simp only [Dish.tripped]
    split <;> rfl
  refine Dish.Stands.judged_still ?_ (by simp [Dish.tripped]) rfl rfl
  exact ⟨Nat.zero_le _, length, h.declared, by simp [Dish.tripped],
    iff_of_true rfl (HoldReasons.isEmpty_of_trip reason), h.zones, fun _ => .inr ⟨rfl, reason⟩⟩

/-- The tunnel after a warm restart: OFF, and empty but for the ring (R126). -/
theorem Dish.Stands.restarted_judged {trip : Bool} {d : Dish} (h : d.Stands trip) {ring : List Rack}
    (length : ring.length ≤ 64) (overwrites : Nat) : (d.restarted ring overwrites).Judged trip := by
  refine Dish.Stands.judged_still ?_ (by simp [Dish.restarted]) rfl rfl
  exact ⟨Nat.zero_le _, length, Nat.zero_le _, by simp [Dish.restarted], by simp [Dish.restarted, HoldReasons.isEmpty],
    h.zones, fun _ => .inl rfl⟩

/-- The newest 64 records (R103). -/
theorem length_newest_le (records : List Rack) : (records.drop (records.length - 64)).length ≤ 64 := by
  rw [List.length_drop]
  omega

/-- The end of the trip state takes no term from a tunnel that it held (R121). -/
theorem Dish.Judged.trip_ended {d : Dish} (h : d.Judged true) : d.Judged false := by
  have stands := h.stands
  have still : d.state ≠ .running := by
    obtain off | ⟨held, -⟩ := stands.tripped rfl
    · simp [off]
    · simp [held]
  obtain ⟨gate, valve⟩ := h.closed still
  exact Dish.Stands.judged_still ⟨stands.queue, stands.ring, stands.declared, stands.conveyor, stands.reasons,
    stands.zones, by simp⟩ still gate valve

namespace ColdKept

variable {p q : Part}

theorem follows (h : ColdKept p) (k : PowerFollows p q) : ColdKept q where
  dish := by
    rw [k.trip]
    exact k.dish h.dish
  lock := k.lock h.lock
  drive := by rw [k.drive, k.trip, h.drive]
  heaters trip n := by
    rw [k.notices.heater n]
    exact h.heaters (k.trip.symm.trans trip) n
  ovens trip n :=
    have before := k.trip.symm.trans trip
    k.ovens before n (h.ovens before n)

/-- Work of the allocator that leaves a quiet heater quiet in the trip state. -/
theorem of_works {f : Footprint} {own : List (Fin 87)} (h : ColdKept p) (w : Works f own p q)
    (locked : (q.feeder.heaters.get 15).locked = (p.feeder.heaters.get 15).locked)
    (quiet : p.interlock.trip = true → ∀ n, (p.feeder.heaters.get n).Quiet → (q.feeder.heaters.get n).Quiet)
    (dish : f.dish = false := by rfl) (ovens : f.ovens = false := by rfl)
    (interlock : f.interlock = false := by rfl) : ColdKept q := by
  have t := w.moves.touches
  have sameDish := t.dish dish
  have sameInterlock := t.interlock interlock
  refine ⟨?_, ?_, ?_, ?_, ?_⟩
  · rw [sameDish, sameInterlock]
    exact h.dish
  · rw [sameDish, locked, h.lock]
  · rw [sameInterlock, h.drive]
  · rw [sameInterlock]
    exact fun trip n => quiet trip n (h.heaters trip n)
  · rw [sameInterlock, t.ovens ovens]
    exact h.ovens

theorem heaterRated (h : ColdKept p) (n : Fin 16) (rated : Nat) : ColdKept (p.heaterRated n rated) := by
  have feeder := p.heaterRated_feeder n rated
  refine h.of_works (p.heaterRated_works n rated) ?_ fun _ m quiet => ?_
  · rw [feeder, Table.get_set]
    split
    · next same => rw [same]; rfl
    · rfl
  · rw [feeder, Table.get_set]
    split
    · exact Heater.quiet_cut (p.feeder.heaters.get n)
    · exact quiet

theorem feederSet (h : ColdKept p) (limit reduced starveTime : Nat) :
    ColdKept (p.feederSet limit reduced starveTime) :=
  h.of_works ((Works.feeder p [] _).trans (Part.reduceChange_works _ [])) rfl fun _ _ => id

theorem reduceSettled (h : ColdKept p) (l : LineState) : ColdKept (p.setLine .feederReduce l).reduceChange := by
  have set : ColdKept (p.setLine .feederReduce l) := ⟨h.dish, h.lock, h.drive, h.heaters, h.ovens⟩
  exact set.of_works (Part.reduceChange_works _ []) rfl fun _ _ => id

/-- In the trip state a round assigns nothing (R56). -/
theorem allocationRound (h : ColdKept p) : ColdKept p.allocationRound := by
  have heater := p.allocationRound_heater
  have works := p.allocationRound_works
  generalize p.allocationRound = q at *
  refine h.of_works works ?_ fun trip n _ => ?_
  · exact (congrArg Heater.locked (heater 15)).trans rfl
  · have none : p.budgeted.roundWatts n = 0 := by
      rw [p.budgeted_roundWatts, if_pos trip]
    rw [heater n, none]
    exact Heater.quiet_granted (p.feeder.heaters.get n) (p.feeder.round + 1)

theorem burstStep (h : ColdKept p) : ColdKept { p with feeder := p.feeder.burstStep } := by
  have works := Works.feeder p [] p.feeder.burstStep
  by_cases within : p.feeder.nextStep < 1000
  · have heater := p.feeder.burstStep_heater within
    refine h.of_works works ?_ fun _ n quiet => ?_
    · exact (congrArg Heater.locked (heater 15)).trans rfl
    · obtain ⟨grant, delivered, -⟩ := quiet
      dsimp only
      rw [heater n]
      exact ⟨grant, delivered, by rw [grant, burstOn_zero]⟩
  · rwa [p.feeder.burstStep_past (not_lt.mp within)]

/-- Trip entry (R181, R55, R77, R121). -/
theorem enterTrip (h : ColdKept p) : ColdKept p.enterTrip := by
  have entered := p.enterTrip_entered
  have interlock := p.enterTrip_interlock
  generalize p.enterTrip = q at *
  have trip : q.interlock.trip = true := by rw [interlock]
  have tunnel : q.dish.Judged true ∧ (q.feeder.heaters.get 15).locked = q.dish.valveOpen := by
    by_cases off : p.dish.state = .off
    · obtain ⟨dish, -, locked⟩ := entered.off off
      obtain ⟨gate, valve⟩ := h.dish.closed (by simp [off])
      have stands := h.dish.stands
      rw [dish, locked, h.lock]
      exact ⟨Dish.Stands.judged_still ⟨stands.queue, stands.ring, stands.declared, stands.conveyor, stands.reasons,
        stands.zones, fun _ => .inl off⟩ (by simp [off]) gate valve, rfl⟩
    · obtain ⟨⟨ring, overwrites, dish, joined⟩, -, -, unlocked⟩ := entered.on off
      obtain ⟨newest, -⟩ := joined h.dish.stands.ring
      rw [dish, unlocked h.lock, newest]
      exact ⟨h.dish.stands.tripped_judged (length_newest_le _) _, rfl⟩
  refine ⟨trip ▸ tunnel.1, tunnel.2, by rw [interlock]; rfl, fun _ n => ?_, fun _ n => ?_⟩
  · by_cases is : n = 15
    · subst is
      rw [entered.booster]
      exact Heater.quiet_cut (p.feeder.heaters.get 15)
    · rw [entered.heater n is]
      exact Heater.quiet_cut _
  · rw [entered.oven n]
    exact Oven.cut_idle _

/-- The trip flag goes down, then the tunnel leaves its hold (R183, R121). -/
theorem leaveTrip (h : ColdKept p) (trip : p.interlock.trip = true) : ColdKept p.leaveTrip := by
  have judged : p.dish.Judged false := (trip ▸ h.dish).trip_ended
  have ended : ColdKept p.tripEnded := ⟨judged, h.lock, rfl, nofun, nofun⟩
  rw [Part.leaveTrip_ended]
  exact ended.follows ((PowerFollows.refl _).tunnel ((TunnelLeads.refl p.tripEnded).tripTunnelExit rfl))

theorem restarted (h : ColdKept p) : ColdKept p.restarted := by
  have interlock := p.restarted_interlock
  have oven := p.restarted_oven
  have heater := p.restarted_heater
  have unlocked := p.restarted_unlocked h.lock
  obtain ⟨ring, overwrites, dish, joined⟩ := p.restarted_dish
  obtain ⟨newest, -⟩ := joined h.dish.stands.ring
  generalize p.restarted = q at *
  refine ⟨?_, by rw [unlocked, dish]; rfl, by rw [interlock, h.drive], fun _ n => ?_, fun _ n => ?_⟩
  · rw [dish, interlock, newest]
    exact h.dish.stands.restarted_judged (length_newest_le _) _
  · rw [heater n]
    exact ⟨rfl, rfl, rfl⟩
  · rw [oven n]
    exact Oven.restarted_state _

end ColdKept

theorem coldKept_kept : PowerInvariant ColdKept where
  follows k h := h.follows k
  heaterRated n rated h := h.heaterRated n rated
  feederSet limit reduced starveTime h := h.feederSet limit reduced starveTime
  reduceSettled l h := h.reduceSettled l
  allocationRound h := h.allocationRound
  burstStep h := h.burstStep
  enterTrip h := h.enterTrip
  leaveTrip trip h := h.leaveTrip trip
  restarted h := h.restarted
  poweredOn := coldKept_iff.mpr ⟨(Part.poweredOn_atPowerOn _).tunnelKept, (Part.poweredOn_atPowerOn _).tripHeld⟩

/-- Settles O10: the tunnel's operations keep its record judged, the trip state is entered and left as a whole, and no
other work writes the records. -/
theorem stepsKeepTheTunnelAndTheTripState : Obligations.StepsKeepTheTunnelAndTheTripState :=
  fun _ h _ isNext => coldKept_iff.mp (coldKept_kept.step (coldKept_iff.mpr h) isNext)

end Sys2Proof.Machine
end

section
/-!
Chapter 4: FOOD LOADED, UNLOAD and ABORT (R68, R73 to R75).
-/

namespace Sys2Proof.Machine

/-! ## A move of an oven with its notices (R75) -/

/-- The parts that the work on an oven and its loop reaches, ahead of the notices. -/
def bakeFoot : Footprint := { ovens := true, loops := true, conds := true, pager := true }

/-- The port is busy, and no wave or OVERTEMP page can come. -/
def Part.Quiet (p : Part) : Prop :=
  p.desk.pager.port ≠ .idle ∧ ∀ k, k = 1 ∨ k = 7 ∨ k = 8 ∨ k = 14 → (p.desk.pager.routes.get k).enabled = false

/-- What a move comes to that takes an oven and its loop to new records: `own` are the slots of the loop's work, and
`done` says that the oven left HOLDING or FINISHED. -/
structure OvenMoved (n : Fin 6) (o : Oven) (l : Loop) (own : List (Fin 87)) (done : Bool) (p q : Part) : Prop where
  works : Works ovenFoot (own ++ waveSlots) p q
  ovens : q.ovens = p.ovens.set n o
  loops : q.loops = p.loops.set (ovenLoop n) l
  waves : ∀ w, noticedAt (awaits n) (ofPart p) (ofPart q) w
  table : NoticedTable p q
  noPage : done = true → PagesKept p.desk.pager → noPageBut (.oven n) q.desk.pager
  cancels : done = true → p.Quiet → noticeCancels p.uptime (.oven n) p.desk.pager q.desk.pager
  silent : done = false → p.Quiet → q.desk.pager = p.desk.pager

/-- Work on an oven and its loop, with the notices of the change after it. -/
theorem Part.ovenChanged_moved {own : List (Fin 87)} {p q : Part} (ahead : Works bakeFoot own p q)
    (apart : ∀ i ∈ own, i ∉ waveSlots) (pages : Pages [1] p q) {n : Fin 6} {o : Oven} {l : Loop}
    (ovens : q.ovens = p.ovens.set n o) (loops : q.loops = p.loops.set (ovenLoop n) l) (before : Oven) :
    OvenMoved n o l own before.isDone p (q.ovenChanged n before) := by
  have sameOvens := q.ovenChanged_ovens n before
  have sameLoops := q.ovenChanged_loops n before
  have notices := q.ovenChanged_works n before
  have noticed := q.ovenChanged_noticed n before
  have table := q.ovenChanged_table n before
  have paged := q.ovenChanged_paged n before
  generalize q.ovenChanged n before = r at *
  have time := ahead.moves.touches.uptime rfl
  have waves := ahead.moves.touches.waves rfl
  have same (quiet : p.Quiet) : q.desk.pager = p.desk.pager := pages.quiet quiet.1 (by simpa using quiet.2 1 (.inl rfl))
  have off (quiet : p.Quiet) : ∀ k ∈ [7, 8, 14], (q.desk.pager.routes.get k).enabled = false := by
    rw [same quiet]
    exact fun k mem => quiet.2 k (.inr (by simpa using mem))
  refine ⟨?works, sameOvens.trans ovens, sameLoops.trans loops, fun w => ?waves, ?table,
    fun done kept => ?noPage, fun done quiet => ?cancels, fun notDone quiet => ?silent⟩
  case works =>
    exact (ahead.mono rfl (List.subset_append_left _ _)).trans (notices.mono rfl (List.subset_append_right _ _))
  case waves =>
    exact noticedAt_between (noticed w) (.of_works ahead rfl apart w) time ⟨rfl, rfl, rfl⟩ ⟨rfl, rfl, rfl⟩
      fun _ _ => Iff.rfl
  case table =>
    exact ⟨fun w none => table.absent w (by rwa [waves]), fun w v stands => table.record w v (by rwa [waves])⟩
  case noPage =>
    have clear := paged.clears _ (by simp) (by simp) (pages.clears _ (by simp) (by simp) kept.cleared)
    exact clear.noPageBut (.inr ⟨done, rfl⟩)
  case cancels =>
    have cancels := paged.cancels (by rw [same quiet]; exact quiet.1) (off quiet) done
    rwa [same quiet, time] at cancels
  case silent =>
    rw [← same quiet]
    exact paged.quiet (by rw [same quiet]; exact quiet.1) (off quiet) notDone

/-- A move of an oven as the answer to its request shows it. -/
structure OvenAnswered (n : Fin 6) (o : Oven) (l : Loop) (own : List (Fin 87)) (done : Bool) (kind tag : Byte)
    (s t : State) : Prop where
  answered : Answered ovenFoot kind tag .ok [] s t
  noticed : Noticed own s t
  waves : ∀ w, noticedAt (awaits n) s t w
  otherOvens : ∀ m, m ≠ n → t.oven m = s.oven m
  oven : t.oven n = o
  otherLoops : ∀ m, m ≠ ovenLoop n → t.loop m = s.loop m
  loop : t.loop (ovenLoop n) = l
  noPage : done = true → PagesKept s.pager → noPageBut (.oven n) t.pager
  cancels : done = true → s.part.Quiet → noticeCancels s.part.uptime (.oven n) s.pager t.pager
  silent : done = false → s.part.Quiet → t.pager = s.pager

theorem OvenMoved.answered {n : Fin 6} {o : Oven} {l : Loop} {own : List (Fin 87)} {done : Bool} {s : State} {q : Part}
    (moved : OvenMoved n o l own done s.part q) (kind tag : Byte) :
    OvenAnswered n o l own done kind tag s (s.answer kind tag (q, { status := .ok })) where
  answered := moved.works.answered_part kind tag { status := .ok }
  noticed := noticed_answer moved.table moved.works
  waves w := noticedAt_answer (moved.waves w)
  otherOvens m other := (congrArg (·.get m) moved.ovens).trans (Table.get_set_ne _ _ other)
  oven := (congrArg (·.get n) moved.ovens).trans (Table.get_set_self _ _ _)
  otherLoops m other := (congrArg (·.get m) moved.loops).trans (Table.get_set_ne _ _ other)
  loop := (congrArg (·.get (ovenLoop n)) moved.loops).trans (Table.get_set_self _ _ _)
  noPage := moved.noPage
  cancels := moved.cancels
  silent := moved.silent

/-! ## The end of a run (R73, R74) -/

/-- A loop in OFF takes no cycle at its release (R34). -/
theorem Loop.runEnded_off {l : Loop} (off : l.base = .off) (doorOpen : Bool) (reading : Option Int) :
    l.runEnded false doorOpen reading = { l with inhibit := if doorOpen then false else l.inhibit } := by
  cases doorOpen with
  | false => rfl
  | true =>
    cases set : l.inhibit with
    | false => exact (Loop.released_of_free set).trans (by rw [if_pos rfl, ← set])
    | true => exact Loop.released_of_stopped set (.inr off)

section Ending

variable (p : Part) (n : Fin 6) (outcome : OvenOutcome) (askOff : Bool)

/-- The end of a run ahead of its release. -/
def Part.runIdled (p : Part) : Part :=
  let idle := p.setOven n { p.ovens.get n with state := .idle, outcome }
  if askOff then idle.ownerOff (ovenLoop n) else idle

/-- The end of a run ahead of its notices. -/
def Part.runEnding (p : Part) : Part :=
  let idled := p.runIdled n outcome askOff
  if (p.ovens.get n).doorOpen then idled.releaseLoop (ovenLoop n) else idled

theorem Part.endRun_eq :
    p.endRun n outcome askOff = (p.runEnding n outcome askOff).ovenChanged n (p.ovens.get n) := rfl

theorem Part.runIdled_works : Works { ovens := true, loops := true } [] p (p.runIdled n outcome askOff) := by
  have idle : Works { ovens := true, loops := true } [] p
      (p.setOven n { p.ovens.get n with state := .idle, outcome }) := (Part.setOven_works p _ _ _).widen
  unfold Part.runIdled
  cases askOff with
  | false => exact idle
  | true => exact idle.trans (Part.ownerOff_works _ _ _).widen

theorem Part.runIdled_loop : (p.runIdled n outcome askOff).loops.get (ovenLoop n) =
    if askOff then (p.loops.get (ovenLoop n)).stopped else p.loops.get (ovenLoop n) := by
  unfold Part.runIdled
  cases askOff with
  | false => simp
  | true => simp [Part.ownerOff_loops]

theorem Part.runEnding_works : Works bakeFoot [overtempSlot (ovenLoop n)] p (p.runEnding n outcome askOff) := by
  have idled := (p.runIdled_works n outcome askOff).mono (g := bakeFoot) (own' := [overtempSlot (ovenLoop n)]) rfl
    (List.nil_subset _)
  unfold Part.runEnding
  dsimp only
  split
  · exact idled.trans (Part.releaseLoop_works _ _).widen
  · exact idled

/-- The end of a run whose loop is then OFF: no slot is written. -/
theorem Part.runEnding_off_works (off : askOff = true ∨ (p.loops.get (ovenLoop n)).base = .off) :
    Works { ovens := true, loops := true } [] p (p.runEnding n outcome askOff) := by
  have idled := p.runIdled_works n outcome askOff
  have base : ((p.runIdled n outcome askOff).loops.get (ovenLoop n)).base = .off := by
    rw [p.runIdled_loop]
    split
    · rfl
    · next asked => exact off.resolve_left asked
  unfold Part.runEnding
  dsimp only
  split
  · exact idled.trans (Part.releaseLoop_off_works _ _ base).widen
  · exact idled

theorem Part.runEnding_ovens : (p.runEnding n outcome askOff).ovens =
    p.ovens.set n { p.ovens.get n with state := .idle, outcome } := by
  rw [← p.endRun_ovens n outcome askOff, p.endRun_eq, Part.ovenChanged_ovens]

theorem Part.runEnding_loops : (p.runEnding n outcome askOff).loops = p.loops.set (ovenLoop n)
    ((p.loops.get (ovenLoop n)).runEnded askOff (p.ovens.get n).doorOpen (p.reading (loopChannel (ovenLoop n)))) := by
  rw [← p.endRun_loops n outcome askOff, p.endRun_eq, Part.ovenChanged_loops]

theorem Part.runEnding_pages : Pages [1] p (p.runEnding n outcome askOff) := by
  have idled : Pages [1] p (p.runIdled n outcome askOff) := .of_works (p.runIdled_works n outcome askOff)
  unfold Part.runEnding
  dsimp only
  split
  · exact idled.trans (Part.releaseLoop_pages _ _)
  · exact idled

/-- The loop of a run that ends with no OFF asked for, and its slot: they follow the release alone. -/
theorem Part.runEnding_carried : LoopCarried (ovenLoop n) (p.loops.get (ovenLoop n))
    ((p.loops.get (ovenLoop n)).runEnded false (p.ovens.get n).doorOpen (p.reading (loopChannel (ovenLoop n)))) p
    (p.runEnding n outcome false) := by
  have idled := p.runIdled_works n outcome false
  have loop : (p.runIdled n outcome false).loops.get (ovenLoop n) = p.loops.get (ovenLoop n) :=
    p.runIdled_loop n outcome false
  unfold Part.runEnding Loop.runEnded
  dsimp only
  cases (p.ovens.get n).doorOpen with
  | false => exact ⟨loop, (idled.slot_kept (by simp)).trans (overtempAfter_same _ _ _ _).symm⟩
  | true =>
    have released := (p.runIdled n outcome false).releaseLoop_carried (ovenLoop n)
    rw [loop, idled.reading] at released
    exact released.of_work idled (by simp)

theorem Part.endRun_moved : OvenMoved n { p.ovens.get n with state := .idle, outcome }
    ((p.loops.get (ovenLoop n)).runEnded askOff (p.ovens.get n).doorOpen (p.reading (loopChannel (ovenLoop n))))
    [overtempSlot (ovenLoop n)] (p.ovens.get n).isDone p (p.endRun n outcome askOff) := by
  have apart (i : Fin 87) (mem : i ∈ [overtempSlot (ovenLoop n)]) : i ∉ waveSlots := by
    rw [List.mem_singleton.mp mem]
    exact overtempSlot_not_wave _
  rw [p.endRun_eq]
  exact Part.ovenChanged_moved (p.runEnding_works n outcome askOff) apart (p.runEnding_pages n outcome askOff)
    (p.runEnding_ovens n outcome askOff) (p.runEnding_loops n outcome askOff) _

/-- A run that ends with its loop OFF writes no slot but the waves'. -/
theorem Part.endRun_off_moved (off : askOff = true ∨ (p.loops.get (ovenLoop n)).base = .off) :
    OvenMoved n { p.ovens.get n with state := .idle, outcome }
      ((p.loops.get (ovenLoop n)).runEnded askOff (p.ovens.get n).doorOpen (p.reading (loopChannel (ovenLoop n))))
      [] (p.ovens.get n).isDone p (p.endRun n outcome askOff) := by
  have ending := p.runEnding_off_works n outcome askOff off
  rw [p.endRun_eq]
  exact Part.ovenChanged_moved ending.widen (by simp) (.of_works ending) (p.runEnding_ovens n outcome askOff)
    (p.runEnding_loops n outcome askOff) _

theorem Part.endRun_carried : LoopCarried (ovenLoop n) (p.loops.get (ovenLoop n))
    ((p.loops.get (ovenLoop n)).runEnded false (p.ovens.get n).doorOpen (p.reading (loopChannel (ovenLoop n)))) p
    (p.endRun n outcome false) := by
  rw [p.endRun_eq]
  have notices := (p.runEnding n outcome false).ovenChanged_works n (p.ovens.get n)
  exact (p.runEnding_carried n outcome).then_work notices (by rw [Part.ovenChanged_loops]) (overtempSlot_not_wave _)

end Ending

/-! ## FOOD LOADED (R68) -/

/-- An oven loaded, with its notice. -/
def Part.loadOven (n : Fin 6) (p : Part) : Part :=
  (p.setOven n { p.ovens.get n with state := .cooking }).ovenChanged n (p.ovens.get n)

theorem Part.loadOven_moved (p : Part) (n : Fin 6) : OvenMoved n { p.ovens.get n with state := .cooking }
    (p.loops.get (ovenLoop n)) [] (p.ovens.get n).isDone p (p.loadOven n) := by
  have loaded := Part.setOven_works p [] n { p.ovens.get n with state := .cooking }
  exact Part.ovenChanged_moved loaded.widen (by simp) (.of_works loaded) (Part.setOven_ovens _ _ _)
    (by rw [Part.setOven_loops, Table.set_get_self]) _

/-! ## The requests by what they find -/

section Requests

variable (p : Part) {oven : Byte}

theorem ovenRequests_outOfRange (out : 6 ≤ oven.toNat) : foodLoaded oven p = (p, { status := .range }) ∧
    unload oven p = (p, { status := .range }) ∧ abort oven p = (p, { status := .range }) := by
  simp only [foodLoaded, unload, abort, index_of_le out, and_self]

variable (ovenIn : oven.toNat < 6)

theorem foodLoaded_taken (waits : (p.ovens.get ⟨oven.toNat, ovenIn⟩).state = .loadWait) :
    foodLoaded oven p = (p.loadOven ⟨oven.toNat, ovenIn⟩, { status := .ok }) := by
  simp only [foodLoaded, index_of_lt ovenIn, waits, Part.loadOven]

theorem foodLoaded_refused (elsewhere : (p.ovens.get ⟨oven.toNat, ovenIn⟩).state ≠ .loadWait) :
    foodLoaded oven p = (p, { status := .state }) := by
  simp only [foodLoaded, index_of_lt ovenIn]
  split
  · next waits => exact absurd waits elsewhere
  all_goals rfl

theorem unload_holding (holding : (p.ovens.get ⟨oven.toNat, ovenIn⟩).state = .holding) : unload oven p =
    (p.endRun ⟨oven.toNat, ovenIn⟩ (p.ovens.get ⟨oven.toNat, ovenIn⟩).outcome true, { status := .ok }) := by
  simp only [unload, index_of_lt ovenIn, holding]

theorem unload_finished (finished : (p.ovens.get ⟨oven.toNat, ovenIn⟩).state = .finished) : unload oven p =
    (p.endRun ⟨oven.toNat, ovenIn⟩ (p.ovens.get ⟨oven.toNat, ovenIn⟩).outcome false, { status := .ok }) := by
  simp only [unload, index_of_lt ovenIn, finished]

theorem unload_refused (notHolding : (p.ovens.get ⟨oven.toNat, ovenIn⟩).state ≠ .holding)
    (notFinished : (p.ovens.get ⟨oven.toNat, ovenIn⟩).state ≠ .finished) :
    unload oven p = (p, { status := .state }) := by
  simp only [unload, index_of_lt ovenIn]
  split
  · next holding => exact absurd holding notHolding
  · next finished => exact absurd finished notFinished
  all_goals rfl

theorem abort_taken (running : (p.ovens.get ⟨oven.toNat, ovenIn⟩).state ≠ .idle) :
    abort oven p = (p.endRun ⟨oven.toNat, ovenIn⟩ .aborted true, { status := .ok }) := by
  simp only [abort, index_of_lt ovenIn]
  split
  · next idle => exact absurd idle running
  all_goals rfl

theorem abort_refused (idle : (p.ovens.get ⟨oven.toNat, ovenIn⟩).state = .idle) :
    abort oven p = (p, { status := .state }) := by
  simp only [abort, index_of_lt ovenIn, idle]

end Requests

/-! ## The requests that are taken -/

section Taken

variable (s : State) (tag : Byte) {oven : Byte} (ovenIn : oven.toNat < 6) {n : Fin 6} (named : n = ⟨oven.toNat, ovenIn⟩)
include named

theorem foodLoaded_moves (waits : (s.oven n).state = .loadWait) : ∃ t, exec (.foodLoaded tag oven) s = .next t ∧
    OvenAnswered n { s.oven n with state := .cooking } (s.loop (ovenLoop n)) [] false 0x43 tag s t := by
  subst named
  have moved := s.part.loadOven_moved ⟨oven.toNat, ovenIn⟩
  rw [oven_isDone, waits] at moved
  refine ⟨_, rfl, ?_⟩
  rw [foodLoaded_taken s.part ovenIn waits]
  exact moved.answered 0x43 tag

theorem unload_holding_moves (holding : (s.oven n).state = .holding) : ∃ t, exec (.unload tag oven) s = .next t ∧
    OvenAnswered n { s.oven n with state := .idle }
      ((s.loop (ovenLoop n)).runEnded true (s.oven n).doorOpen (s.part.reading (loopChannel (ovenLoop n))))
      [] true 0x44 tag s t := by
  subst named
  have moved := s.part.endRun_off_moved ⟨oven.toNat, ovenIn⟩ (s.oven ⟨oven.toNat, ovenIn⟩).outcome true (.inl rfl)
  rw [oven_isDone, holding] at moved
  refine ⟨_, rfl, ?_⟩
  rw [unload_holding s.part ovenIn holding]
  exact moved.answered 0x44 tag

theorem unload_finished_moves (finished : (s.oven n).state = .finished) : ∃ t, exec (.unload tag oven) s = .next t ∧
    OvenAnswered n { s.oven n with state := .idle }
      ((s.loop (ovenLoop n)).runEnded false (s.oven n).doorOpen (s.part.reading (loopChannel (ovenLoop n))))
      [overtempSlot (ovenLoop n)] true 0x44 tag s t ∧
    LoopCarried (ovenLoop n) (s.loop (ovenLoop n))
      ((s.loop (ovenLoop n)).runEnded false (s.oven n).doorOpen (s.part.reading (loopChannel (ovenLoop n))))
      s.part t.part ∧
    ((s.loop (ovenLoop n)).base = .off → Noticed [] s t) := by
  subst named
  have moved := s.part.endRun_moved ⟨oven.toNat, ovenIn⟩ (s.oven ⟨oven.toNat, ovenIn⟩).outcome false
  have carried := s.part.endRun_carried ⟨oven.toNat, ovenIn⟩ (s.oven ⟨oven.toNat, ovenIn⟩).outcome
  have rested := s.part.endRun_off_moved ⟨oven.toNat, ovenIn⟩ (s.oven ⟨oven.toNat, ovenIn⟩).outcome false
  rw [oven_isDone, finished] at moved
  refine ⟨_, rfl, ?_⟩
  rw [unload_finished s.part ovenIn finished]
  exact ⟨moved.answered 0x44 tag, carried.answer 0x44 tag _, fun off => ((rested (.inr off)).answered 0x44 tag).noticed⟩

theorem abort_moves (running : (s.oven n).state ≠ .idle) : ∃ t, exec (.abort tag oven) s = .next t ∧
    OvenAnswered n { s.oven n with state := .idle, outcome := .aborted }
      ((s.loop (ovenLoop n)).runEnded true (s.oven n).doorOpen (s.part.reading (loopChannel (ovenLoop n))))
      [] (s.oven n).isDone 0x45 tag s t := by
  subst named
  have moved := s.part.endRun_off_moved ⟨oven.toNat, ovenIn⟩ .aborted true (.inl rfl)
  refine ⟨_, rfl, ?_⟩
  rw [abort_taken s.part ovenIn running]
  exact moved.answered 0x45 tag

end Taken

/-- Settles O27: the oven loaded, and the runs that UNLOAD and ABORT end, each with its loop and its notices. -/
theorem ovenRequestsMoveTheOven : Obligations.OvenRequestsMoveTheOven := by
  refine ⟨?range, ?moves⟩
  case range =>
    intro s tag oven out
    obtain ⟨food, unloaded, aborted⟩ := ovenRequests_outOfRange s.part out
    simp only [exec, execFoodLoaded, execUnload, execAbort, food, unloaded, aborted, and_self]
  case moves =>
    intro s tag oven ovenIn n o l foot others stopped quiet cancels
    refine ⟨fun waits => ?loaded, fun holding => ?unloaded, fun finished off => ?rested, fun finished => ?released,
      fun running => ?aborted, fun elsewhere => ?notWaiting, fun notHolding notFinished => ?notDone, fun idle => ?idle⟩
    case loaded =>
      obtain ⟨t, isNext, move⟩ := foodLoaded_moves s tag ovenIn (n := n) rfl waits
      exact ⟨t, isNext, move.answered, ⟨move.noticed, move.waves, move.otherOvens, move.otherLoops⟩, move.oven, move.loop,
        move.silent rfl⟩
    case unloaded =>
      obtain ⟨t, isNext, move⟩ := unload_holding_moves s tag ovenIn (n := n) rfl holding
      exact ⟨t, isNext, move.answered, ⟨move.noticed, move.waves, move.otherOvens, move.otherLoops⟩, move.oven,
        move.loop.trans (Loop.runEnded_stopped _ _ _), move.noPage rfl, move.cancels rfl⟩
    case rested =>
      obtain ⟨t, isNext, move, -, noticed⟩ := unload_finished_moves s tag ovenIn (n := n) rfl finished
      exact ⟨t, isNext, move.answered, ⟨noticed off, move.waves, move.otherOvens, move.otherLoops⟩, move.oven,
        move.loop.trans (Loop.runEnded_off off _ _)⟩
    case released =>
      obtain ⟨t, isNext, move, carried, -⟩ := unload_finished_moves s tag ovenIn (n := n) rfl finished
      refine ⟨t, isNext, move.answered, move.noticed, move.waves, move.otherOvens, move.oven, move.otherLoops,
        fun isOpen => ?_, fun closed => ?_, move.noPage rfl, move.cancels rfl⟩
      · rw [show (s.oven n).doorOpen = true from isOpen] at carried
        exact carried.inhibitReleased
      · rw [show (s.oven n).doorOpen = false from closed] at carried
        exact carried.stands rfl
    case aborted =>
      obtain ⟨t, isNext, move⟩ := abort_moves s tag ovenIn (n := n) rfl running
      refine ⟨t, isNext, move.answered, ⟨move.noticed, move.waves, move.otherOvens, move.otherLoops⟩, move.oven,
        move.loop.trans (Loop.runEnded_stopped _ _ _), fun done => ?_, fun notHolding notFinished => move.silent ?_⟩
      · have isDone : (s.oven n).isDone = true := by rw [oven_isDone]; simpa using done
        exact ⟨move.noPage isDone, move.cancels isDone⟩
      · rw [oven_isDone]
        simpa using ⟨notHolding, notFinished⟩
    case notWaiting => simp only [exec, execFoodLoaded, foodLoaded_refused s.part ovenIn elsewhere]
    case notDone => simp only [exec, execUnload, unload_refused s.part ovenIn notHolding notFinished]
    case idle => simp only [exec, execAbort, abort_refused s.part ovenIn idle]

end Sys2Proof.Machine
end

section
/-!
Chapter 4: the timing tick (R64, R67, R69 to R72), with the notices and the page that follow it (R75, R141, R160).
-/

namespace Sys2Proof.Machine

/-! ## What a tick judges -/

/-- The oven is at temperature (R64). -/
theorem Part.atTemperature_iff (p : Part) (n : Fin 6) (setpoint : Nat) : p.atTemperature n setpoint = true ↔
    (p.ovens.get n).doorOpen = false ∧ ∃ value, p.reading (cavityChannel n) = some value ∧
      (setpoint : Int) - (p.programs.get (p.ovens.get n).program).band ≤ value := by
  unfold Part.atTemperature Part.readsAtLeast
  cases p.reading (cavityChannel n) <;> simp

/-- How a step ends (R70, R71). -/
theorem stepEndOf_iff (step : Step) (core : Option Int) (elapsed : Nat) (how : StepEnd) :
    stepEndOf step elapsed core = some how ↔ endsStep step core elapsed how := by
  unfold stepEndOf endsStep
  cases step with
  | timed _ duration => by_cases due : duration ≤ elapsed <;> simp [due, eq_comm]
  | core _ duration target =>
    cases core with
    | none => by_cases due : duration ≤ elapsed <;> simp [due, eq_comm]
    | some value =>
      by_cases reached : (target : Int) ≤ value
      · simp [reached, eq_comm]
      · have below : value < (target : Int) := Int.not_le.mp reached
        by_cases due : duration ≤ elapsed <;> simp [reached, below, due, eq_comm]

/-! ## Work on the oven, and the notice where its state changed -/

/-- What a tick comes to beside the records of the oven and of its loop. -/
structure OvenJudged (n : Fin 6) (p q : Part) : Prop where
  works : Works ovenFoot waveSlots p q
  waves : wavesJudged (fun v => (q.ovens.get n).state ≠ (p.ovens.get n).state ∧ awaits n v) (ofPart p) (ofPart q)
  table : NoticedTable p q

/-- A tick's work ahead of its notice: no slot is written, and no page comes but PROGRAM_DONE. -/
structure TickWork (p q : Part) : Prop where
  works : Works { ovens := true, loops := true, conds := true, pager := true } [] p q
  quiet : p.desk.pager.port ≠ .idle → (p.desk.pager.routes.get 13).enabled = false → q.desk.pager = p.desk.pager

/-- Work that leaves the pages alone. -/
theorem TickWork.of_works {p q : Part} (works : Works { ovens := true, loops := true } [] p q) : TickWork p q :=
  ⟨works.widen, fun _ _ => works.moves.touches.pager rfl⟩

/-- PROGRAM_DONE behind such work. -/
theorem TickWork.of_trigger {p q : Part} (works : Works { ovens := true, loops := true } [] p q) (n : Fin 6)
    (param : Half) : TickWork p (q.trigger (.oven n) param) := by
  refine ⟨works.widen.trans (Part.trigger_works _ _ _ _).widen, fun busy off => ?_⟩
  have same : q.desk.pager = p.desk.pager := works.moves.touches.pager rfl
  rw [Part.trigger_desk, ← same]
  exact q.desk.trigger_quiet q.uptime (by rwa [same]) rfl (by rwa [same]) param

/-- Work ahead with the waves judged after it that the change of state concerns. -/
theorem TickWork.judged {concerns : Wave → Prop} {n : Fin 6} {p q r : Part} (work : TickWork p q)
    (noticed : PartNoticed concerns q r)
    (concern : ∀ v, concerns v ↔ (r.ovens.get n).state ≠ (p.ovens.get n).state ∧ awaits n v) : OvenJudged n p r := by
  have time := work.works.moves.touches.uptime rfl
  have before (w : Fin 12) : WaveKept w p q := .of_works work.works rfl (by simp) w
  have stays (w : Fin 12) : WaveKept w r r := ⟨rfl, rfl, rfl⟩
  refine ⟨(work.works.mono rfl (List.nil_subset _)).trans noticed.works.widen, ⟨fun w => ?waves, fun busy off => ?pages⟩,
    noticed.between_table (work.works.moves.touches.waves rfl) rfl⟩
  case waves => exact noticed.noticedAt before time stays ⟨rfl, rfl, rfl⟩ (fun v => (concern v).symm) w
  case pages =>
    have same := work.quiet busy (off 13 (by decide))
    have sent := noticed.readyTriggers before time stays (by rw [same]; exact busy)
      (by rw [same]; exact off 7 (by decide)) (by rw [same]; exact off 8 (by decide))
    rwa [same] at sent

/-- A tick that leaves the state sends no notice. -/
theorem TickWork.unchanged {n : Fin 6} {p q : Part} (work : TickWork p q)
    (same : (q.ovens.get n).state = (p.ovens.get n).state) : OvenJudged n p q :=
  work.judged (concerns := fun v => (q.ovens.get n).state ≠ (p.ovens.get n).state ∧ awaits n v)
    (.none fun _ concerned => concerned.1 same) fun _ => Iff.rfl

/-- A tick that changes the state of an oven outside HOLDING and FINISHED sends its notice. -/
theorem TickWork.changed {n : Fin 6} {p q : Part} (work : TickWork p q) {before : Oven}
    (notDone : before.isDone = false) (turned : (q.ovens.get n).state ≠ (p.ovens.get n).state) :
    OvenJudged n p (q.ovenChanged n before) := by
  have ovens := q.ovenChanged_ovens n before
  have noticed : PartNoticed (awaits n) q (q.ovenChanged n before) := by
    unfold Part.ovenChanged
    rw [notDone]
    exact q.ovenNotice_noticed n
  exact work.judged noticed fun v => by simp only [ovens, turned, ne_eq, not_false_eq_true, true_and]

/-! ## The cook that is done (R72) -/

section Done

variable (p : Part) (n : Fin 6) (before o : Oven)

/-- The records at the end of a cook. -/
def Part.cookEnded (p : Part) : Part :=
  let hold := (p.programs.get o.program).hold
  if 0 < hold then (p.setOven n { o with state := .holding, outcome := .done }).requestSetpoint (ovenLoop n) hold
  else (p.setOven n { o with state := .finished, outcome := .done }).ownerOff (ovenLoop n)

theorem Part.programDone_eq : p.programDone n before o =
    ((p.cookEnded n o).trigger (.oven n) (BitVec.ofNat 16 o.program.val)).ovenChanged n before := rfl

theorem Part.cookEnded_works : Works { ovens := true, loops := true } [] p (p.cookEnded n o) := by
  unfold Part.cookEnded
  dsimp only
  split
  · exact (Part.setOven_works p _ _ _).widen.trans (Part.requestSetpoint_works _ _ _ _).widen
  · exact (Part.setOven_works p _ _ _).widen.trans (Part.ownerOff_works _ _ _).widen

theorem Part.cookEnded_ovens : (p.cookEnded n o).ovens = p.ovens.set n { o with
    state := if 0 < (p.programs.get o.program).hold then .holding else .finished, outcome := .done } := by
  unfold Part.cookEnded
  by_cases held : 0 < (p.programs.get o.program).hold <;> simp [held]

theorem Part.cookEnded_loops : (p.cookEnded n o).loops = p.loops.set (ovenLoop n)
    (if 0 < (p.programs.get o.program).hold then
      (p.loops.get (ovenLoop n)).asked (p.programs.get o.program).hold
    else (p.loops.get (ovenLoop n)).stopped) := by
  unfold Part.cookEnded
  by_cases held : 0 < (p.programs.get o.program).hold <;>
    simp [held, Part.requestSetpoint_loops, Part.ownerOff_loops]

theorem Part.programDone_ovens : (p.programDone n before o).ovens = p.ovens.set n { o with
    state := if 0 < (p.programs.get o.program).hold then .holding else .finished, outcome := .done } := by
  rw [Part.programDone_eq, Part.ovenChanged_ovens, Part.trigger_ovens, Part.cookEnded_ovens]

theorem Part.programDone_loops : (p.programDone n before o).loops = p.loops.set (ovenLoop n)
    (if 0 < (p.programs.get o.program).hold then
      (p.loops.get (ovenLoop n)).asked (p.programs.get o.program).hold
    else (p.loops.get (ovenLoop n)).stopped) := by
  rw [Part.programDone_eq, Part.ovenChanged_loops, Part.trigger_loops, Part.cookEnded_loops]

variable (cooks : (p.ovens.get n).state = .cooking)
include cooks

theorem Part.programDone_judged : OvenJudged n p (p.programDone n (p.ovens.get n) o) := by
  rw [Part.programDone_eq]
  refine (TickWork.of_trigger (p.cookEnded_works n o) n _).changed (by rw [oven_isDone, cooks]; rfl) ?_
  rw [Part.trigger_ovens, Part.cookEnded_ovens, Table.get_set_self, cooks]
  dsimp only
  split <;> simp

/-- The page of a cook's end, while no notice can send one (R72, R160). -/
theorem Part.programDone_triggered (busy : p.desk.pager.port ≠ .idle)
    (off : ∀ k, k ≠ 13 → (p.desk.pager.routes.get k).enabled = false) :
    triggered p.uptime (.oven n) 13 (BitVec.ofNat 16 o.program.val) p.desk.pager
      (p.programDone n (p.ovens.get n) o).desk.pager := by
  have ended := p.cookEnded_works n o
  have same : (p.cookEnded n o).desk.pager = p.desk.pager := ended.moves.touches.pager rfl
  have sent := (p.cookEnded n o).desk.trigger_triggered p.uptime (by rwa [same]) (source := .oven n) rfl
    (BitVec.ofNat 16 o.program.val)
  have desk : ((p.cookEnded n o).trigger (.oven n) (BitVec.ofNat 16 o.program.val)).desk =
      (p.cookEnded n o).desk.trigger p.uptime (.oven n) (BitVec.ofNat 16 o.program.val) := by
    rw [Part.trigger_desk, ended.moves.touches.uptime rfl]
  have stillBusy : ((p.cookEnded n o).trigger (.oven n) (BitVec.ofNat 16 o.program.val)).desk.pager.port ≠ .idle := by
    rw [desk, Desk.trigger_busy _ _ (by rwa [same]), Desk.triggerCore_port, same]
    exact busy
  have routes : ((p.cookEnded n o).trigger (.oven n) (BitVec.ofNat 16 o.program.val)).desk.pager.routes =
      p.desk.pager.routes := (TickWork.of_trigger ended n _).works.desk.routes
  have notices := Part.ovenChanged_paged ((p.cookEnded n o).trigger (.oven n) (BitVec.ofNat 16 o.program.val)) n
    (p.ovens.get n)
  have silent := notices.quiet stillBusy (fun k mem => by
    rw [routes]
    exact off k (by rintro rfl; simp at mem)) (by rw [oven_isDone, cooks]; rfl)
  rw [Part.programDone_eq, silent, desk, ← same]
  exact sent

end Done

/-! ## A step that ends (R70 to R72) -/

section Completes

variable (p : Part) (n : Fin 6) (before o : Oven)

theorem Part.stepComplete_last (last : (p.programs.get o.program).steps[o.step]? = none) :
    p.stepComplete n before o = p.programDone n before o := by
  simp only [Part.stepComplete, last]

variable {next : Step} (follows : (p.programs.get o.program).steps[o.step]? = some next)
include follows

theorem Part.stepComplete_next : p.stepComplete n before o =
    (p.setOven n { o with step := o.step + 1, elapsed := 0 }).requestSetpoint (ovenLoop n) next.setpoint := by
  simp only [Part.stepComplete, follows]

theorem Part.stepComplete_next_ovens :
    (p.stepComplete n before o).ovens = p.ovens.set n { o with step := o.step + 1, elapsed := 0 } := by
  rw [p.stepComplete_next n before o follows, Part.requestSetpoint_ovens, Part.setOven_ovens]

theorem Part.stepComplete_next_loops : (p.stepComplete n before o).loops =
    p.loops.set (ovenLoop n) ((p.loops.get (ovenLoop n)).asked next.setpoint) := by
  rw [p.stepComplete_next n before o follows, Part.requestSetpoint_loops, Part.setOven_loops]

omit follows in
theorem Part.stepComplete_judged (cooks : (p.ovens.get n).state = .cooking) (same : o.state = .cooking) :
    OvenJudged n p (p.stepComplete n (p.ovens.get n) o) := by
  cases follows : (p.programs.get o.program).steps[o.step]? with
  | none =>
    rw [p.stepComplete_last n _ o follows]
    exact p.programDone_judged n o cooks
  | some next =>
    have ovens := p.stepComplete_next_ovens n (p.ovens.get n) o follows
    have work : TickWork p (p.stepComplete n (p.ovens.get n) o) := by
      rw [p.stepComplete_next n _ o follows]
      exact .of_works ((Part.setOven_works p _ _ _).widen.trans (Part.requestSetpoint_works _ _ _ _).widen)
    refine work.unchanged ?_
    rw [ovens, Table.get_set_self, cooks]
    exact same

end Completes

/-! ## The tick by the state of the oven -/

section Tick

variable (p : Part) (n : Fin 6)

/-- An oven in another state takes no tick (R64). -/
theorem Part.ovenTick_elsewhere (notPreheating : (p.ovens.get n).state ≠ .preheating)
    (notCooking : (p.ovens.get n).state ≠ .cooking) : p.ovenTick n = p := by
  unfold Part.ovenTick
  dsimp only
  split
  · rfl
  · split
    · next preheats => exact absurd preheats notPreheating
    · next cooks => exact absurd cooks notCooking
    all_goals rfl

variable {step : Step} (present : (p.ovens.get n).presentStep (p.programs.get (p.ovens.get n).program) = some step)
include present

theorem Part.ovenTick_preheating (preheats : (p.ovens.get n).state = .preheating) : p.ovenTick n =
    if p.atTemperature n step.setpoint then
      (p.setOven n { p.ovens.get n with state := .loadWait }).ovenChanged n (p.ovens.get n)
    else p := by
  simp only [Part.ovenTick, present, preheats]

theorem Part.ovenTick_cooking (cooks : (p.ovens.get n).state = .cooking) :
    p.ovenTick n = p.cookingTick n (p.ovens.get n) step := by
  simp only [Part.ovenTick, present, cooks]

theorem Part.ovenTick_judged (ticks : (p.ovens.get n).state = .preheating ∨ (p.ovens.get n).state = .cooking) :
    OvenJudged n p (p.ovenTick n) := by
  rcases ticks with preheats | cooks
  · rw [p.ovenTick_preheating n present preheats]
    split
    · refine (TickWork.of_works (Part.setOven_works p _ _ _).widen).changed (by rw [oven_isDone, preheats]; rfl) ?_
      rw [Part.setOven_ovens, Table.get_set_self, preheats]
      simp
    · exact (TickWork.of_works (.refl _ _ p)).unchanged rfl
  · rw [p.ovenTick_cooking n present cooks]
    unfold Part.cookingTick
    dsimp only
    split
    · refine (TickWork.of_works (Part.setOven_works p _ _ _).widen).unchanged ?_
      rw [Part.setOven_ovens, Table.get_set_self]
    · exact p.stepComplete_judged n _ cooks cooks

end Tick

/-- The present step of an oven whose step index is from 1 (section 4.1). -/
theorem Oven.presentStep_of {o : Oven} {g : Program} {step : Step} (listed : g.steps[o.step - 1]? = some step)
    (numbered : 1 ≤ o.step) : o.presentStep g = some step := by
  rw [Oven.presentStep, if_neg (by omega), listed]

/-! ## The records that a tick leaves (R67, R69 to R72) -/

/-- The step elapsed after a tick that counts, or does not (R69). -/
def Oven.counting (counted : Bool) (o : Oven) : Nat := if counted then o.elapsed + 1 else o.elapsed

/-- The record of an oven whose step has ended, ahead of what follows the step (R70, R71). -/
def Oven.stepEnded (counted : Bool) (how : StepEnd) (o : Oven) : Oven :=
  { o with elapsed := o.counting counted, stepEnd := how }

theorem Oven.stepEnded_program (counted : Bool) (how : StepEnd) (o : Oven) :
    (o.stepEnded counted how).program = o.program := rfl

section Records

variable (p : Part) (n : Fin 6) {step : Step}
  (present : (p.ovens.get n).presentStep (p.programs.get (p.ovens.get n).program) = some step)
include present

/-- The preheat that ends leaves the loop (R67). -/
theorem Part.ovenTick_preheated (preheats : (p.ovens.get n).state = .preheating)
    (hot : p.atTemperature n step.setpoint = true) :
    (p.ovenTick n).ovens.get n = { p.ovens.get n with state := .loadWait } ∧
      (p.ovenTick n).loops.get (ovenLoop n) = p.loops.get (ovenLoop n) := by
  rw [p.ovenTick_preheating n present preheats, if_pos hot, Part.ovenChanged_ovens, Part.ovenChanged_loops,
    Part.setOven_ovens, Part.setOven_loops, Table.get_set_self]
  exact ⟨rfl, rfl⟩

variable (cooks : (p.ovens.get n).state = .cooking) {counted : Bool}
  (isCounted : counted = p.atTemperature n step.setpoint)
include cooks isCounted

/-- A step that goes on (R69). -/
theorem Part.ovenTick_goesOn
    (goesOn : stepEndOf step ((p.ovens.get n).counting counted) (p.reading (coreChannel n)) = none) :
    (p.ovenTick n).ovens.get n = { p.ovens.get n with elapsed := (p.ovens.get n).counting counted } ∧
      (p.ovenTick n).loops.get (ovenLoop n) = p.loops.get (ovenLoop n) := by
  subst isCounted
  unfold Oven.counting at goesOn
  have goes : p.ovenTick n =
      p.setOven n { p.ovens.get n with elapsed := (p.ovens.get n).counting (p.atTemperature n step.setpoint) } := by
    simp only [p.ovenTick_cooking n present cooks, Part.cookingTick, goesOn]
    rfl
  rw [goes, Part.setOven_ovens, Part.setOven_loops, Table.get_set_self]
  exact ⟨rfl, rfl⟩

variable {how : StepEnd}
  (ends : stepEndOf step ((p.ovens.get n).counting counted) (p.reading (coreChannel n)) = some how)
include ends

/-- A step that ends (R70, R71). -/
theorem Part.ovenTick_ends :
    p.ovenTick n = p.stepComplete n (p.ovens.get n) ((p.ovens.get n).stepEnded counted how) := by
  subst isCounted
  unfold Oven.counting at ends
  simp only [p.ovenTick_cooking n present cooks, Part.cookingTick, ends]
  rfl

theorem Part.ovenTick_next {next : Step}
    (follows : (p.programs.get (p.ovens.get n).program).steps[(p.ovens.get n).step]? = some next) :
    (p.ovenTick n).ovens.get n =
        { p.ovens.get n with step := (p.ovens.get n).step + 1, elapsed := 0, stepEnd := how } ∧
      (p.ovenTick n).loops.get (ovenLoop n) = (p.loops.get (ovenLoop n)).asked next.setpoint := by
  have ovens := p.stepComplete_next_ovens n (p.ovens.get n) ((p.ovens.get n).stepEnded counted how) follows
  have loops := p.stepComplete_next_loops n (p.ovens.get n) ((p.ovens.get n).stepEnded counted how) follows
  rw [p.ovenTick_ends n present cooks isCounted ends, ovens, loops, Table.get_set_self, Table.get_set_self]
  exact ⟨rfl, rfl⟩

variable (last : (p.programs.get (p.ovens.get n).program).steps[(p.ovens.get n).step]? = none)
include last

theorem Part.ovenTick_last :
    p.ovenTick n = p.programDone n (p.ovens.get n) ((p.ovens.get n).stepEnded counted how) := by
  rw [p.ovenTick_ends n present cooks isCounted ends]
  exact p.stepComplete_last n _ ((p.ovens.get n).stepEnded counted how) last

/-- The cook that is done, by its hold setpoint (R72). -/
theorem Part.ovenTick_done {hold : Nat} (isHold : (p.programs.get (p.ovens.get n).program).hold = hold) :
    (p.ovenTick n).ovens.get n = { (p.ovens.get n).stepEnded counted how with
        state := if 0 < hold then .holding else .finished, outcome := .done } ∧
      (p.ovenTick n).loops.get (ovenLoop n) =
        if 0 < hold then (p.loops.get (ovenLoop n)).asked hold else (p.loops.get (ovenLoop n)).stopped := by
  have ovens := p.programDone_ovens n (p.ovens.get n) ((p.ovens.get n).stepEnded counted how)
  have loops := p.programDone_loops n (p.ovens.get n) ((p.ovens.get n).stepEnded counted how)
  rw [Oven.stepEnded_program, isHold] at ovens loops
  rw [p.ovenTick_last n present cooks isCounted ends last, ovens, loops, Table.get_set_self, Table.get_set_self]
  exact ⟨rfl, rfl⟩

theorem Part.ovenTick_triggered (busy : p.desk.pager.port ≠ .idle)
    (off : ∀ k, k ≠ 13 → (p.desk.pager.routes.get k).enabled = false) :
    triggered p.uptime (.oven n) 13 (BitVec.ofNat 16 (p.ovens.get n).program.val) p.desk.pager
      (p.ovenTick n).desk.pager := by
  rw [p.ovenTick_last n present cooks isCounted ends last]
  exact p.programDone_triggered n ((p.ovens.get n).stepEnded counted how) cooks busy off

end Records

theorem wavesJudged_event {s : State} {q : Part} {concerns : Wave → Prop}
    (h : wavesJudged concerns (ofPart s.part) (ofPart q)) : wavesJudged concerns s (s.event q) :=
  ⟨fun w => noticedAt_event (h.1 w), fun busy off =>
    readyTriggers_between (q := q) rfl _ (fun _ _ => rfl) (fun _ _ => rfl) (h.2 busy off)⟩

/-- Settles O28: what every tick has judged, and the records by the oven's state and by how its step ends. -/
theorem ovenTickCountsAndEndsSteps : Obligations.OvenTickCountsAndEndsSteps := by
  intro s n o l g asked
  refine ⟨fun notPreheating notCooking => ?elsewhere, fun step listed numbered =>
    ⟨fun preheats cold => ?cold, fun ticks => ?taken⟩⟩
  case elsewhere => simp only [exec, execOvenTimingTick, s.part.ovenTick_elsewhere n notPreheating notCooking]
  all_goals
    have present : o.presentStep g = some step := Oven.presentStep_of listed numbered
    have isHot := s.part.atTemperature_iff n step.setpoint
  case cold =>
    have tick := s.part.ovenTick_preheating n present preheats
    rw [if_neg (fun warm => cold (isHot.mp warm))] at tick
    simp only [exec, execOvenTimingTick, tick]
  case taken =>
    have judged := s.part.ovenTick_judged n present ticks
    obtain ⟨_, _, one, -⟩ := s.part.ovenTick_one n
    refine ⟨_, rfl, judged.works.happened, noticed_event judged.table judged.works, wavesJudged_event judged.waves,
      fun m other => ?_, fun m other => ?_, fun preheats warm => ?preheated, fun cooks counted isCounted => ?cooked⟩
    · exact (congrArg (·.get m) one.ovens).trans (Table.get_set_ne _ _ other)
    · exact (congrArg (·.get m) one.loops).trans (Table.get_set_ne _ _ other)
    case preheated => exact s.part.ovenTick_preheated n present preheats (isHot.mpr warm)
    case cooked =>
      have isCounted : counted = s.part.atTemperature n step.setpoint := Bool.eq_iff_iff.mpr (isCounted.trans isHot.symm)
      intro elapsed ended
      have endsBy := stepEndOf_iff step (s.part.reading (coreChannel n)) elapsed
      refine ⟨fun goesOn => ?_, fun how isEnd => ?_⟩
      · have none : stepEndOf step elapsed (s.part.reading (coreChannel n)) = none :=
          Option.eq_none_iff_forall_ne_some.mpr fun how is => goesOn how ((endsBy how).mp is)
        exact s.part.ovenTick_goesOn n present cooks isCounted none
      · have ends := (endsBy how).mpr isEnd
        refine ⟨fun next follows => s.part.ovenTick_next n present cooks isCounted ends follows,
          fun last => s.part.ovenTick_triggered n present cooks isCounted ends last, fun last held => ?_,
          fun last unheld => ?_⟩
        · have done := s.part.ovenTick_done n present cooks isCounted ends last (hold := g.hold) rfl
          rwa [if_pos held, if_pos held] at done
        · exact s.part.ovenTick_done n present cooks isCounted ends last (hold := 0) unheld

end Sys2Proof.Machine
end

section
/-!
Chapters 5 and 7: what the counts of R84 and R87 and the holds of R128 rest on, and the work that leaves both as they
are: modes, judgements and notices.
-/

namespace Sys2Proof.Machine

-- The proofs are taken one after the other, which keeps few threads waiting for one another.
set_option Elab.async false

/-! ## What the two invariants read -/

/-- Of a cabinet, what the plates in it are counted by (R84, R87). -/
def Cabinet.holding (c : Cabinet) : Fin 4 × Nat × List Batch := (c.kind, c.capacity, c.batches)

/-- Of a wave, its number, and what it lists and whether it holds it (R127, R128). -/
def Wave.claim (v : Wave) : Byte × List (Fin 8) × List (Fin 6) × Bool := (v.number, v.cabinets, v.ovens, v.holds)

/-- The plates stand where they stood. -/
structure PlatesSame (p q : Part) : Prop where
  stock : q.stock = p.stock
  racks : ∀ kind, q.dish.plates kind = p.dish.plates kind
  holdings : ∀ n, (q.cabinets.get n).holding = (p.cabinets.get n).holding

/-- The waves claim what they claimed, and the cabinets name the same waves. -/
structure WavesSame (p q : Part) : Prop where
  slots : ∀ n, (q.cabinets.get n).waveSlot = (p.cabinets.get n).waveSlot
  claims : ∀ w, (q.waves.get w).map Wave.claim = (p.waves.get w).map Wave.claim

/-- Work that moves no plate and claims nothing. -/
structure HallSame (p q : Part) : Prop where
  plates : PlatesSame p q
  waves : WavesSame p q

namespace PlatesSame

theorem refl (p : Part) : PlatesSame p p := ⟨rfl, fun _ => rfl, fun _ => rfl⟩

theorem trans {p q r : Part} (h : PlatesSame p q) (k : PlatesSame q r) : PlatesSame p r :=
  ⟨k.stock.trans h.stock, fun kind => (k.racks kind).trans (h.racks kind),
    fun n => (k.holdings n).trans (h.holdings n)⟩

theorem either {c : Prop} [Decidable c] {b p q : Part} (hp : PlatesSame b p) (hq : PlatesSame b q) :
    PlatesSame b (if c then p else q) := by
  split
  · exact hp
  · exact hq

section Work

variable {b p : Part} (h : PlatesSame b p)
include h

theorem touches {f : Footprint} {q : Part} (t : Touches f p q) (cabinets : f.cabinets = false := by rfl)
    (stock : f.stock = false := by rfl) (dish : f.dish = false := by rfl) : PlatesSame b q :=
  h.trans ⟨t.stock stock, fun _ => by rw [t.dish dish], fun _ => by rw [t.cabinets cabinets]⟩

theorem works {f : Footprint} {own : List (Fin 87)} {q : Part} (w : Works f own p q)
    (cabinets : f.cabinets = false := by rfl) (stock : f.stock = false := by rfl) (dish : f.dish = false := by rfl) :
    PlatesSame b q :=
  h.touches w.moves.touches cabinets stock dish

/-- A cabinet's record that holds the same. -/
theorem setCabinet {n : Fin 8} {c : Cabinet} (held : c.holding = (p.cabinets.get n).holding) :
    PlatesSame b (p.setCabinet n c) := by
  refine h.trans ⟨by simp, fun _ => by simp, fun m => ?_⟩
  rw [Part.setCabinet_cabinets, Table.get_set]
  split
  · next same => rw [same, held]
  · rfl

theorem setWave {w : Fin 12} {v : Option Wave} : PlatesSame b (p.setWave w v) := h.works (Part.setWave_works p [] w v)

theorem foldl {α : Type} {act : Part → α → Part} (each : ∀ q a, PlatesSame b q → PlatesSame b (act q a))
    (items : List α) : PlatesSame b (items.foldl act p) := by
  induction items generalizing p with
  | nil => exact h
  | cons a rest ih => exact ih (each p a h)

theorem onWave {w : Fin 12} {act : Wave → Part → Part} (each : ∀ v, PlatesSame b (act v p)) :
    PlatesSame b (p.onWave w act) := by
  unfold Part.onWave
  split
  · exact each _
  · exact h

end Work

end PlatesSame

namespace WavesSame

theorem refl (p : Part) : WavesSame p p := ⟨fun _ => rfl, fun _ => rfl⟩

theorem trans {p q r : Part} (h : WavesSame p q) (k : WavesSame q r) : WavesSame p r :=
  ⟨fun n => (k.slots n).trans (h.slots n), fun w => (k.claims w).trans (h.claims w)⟩

section Work

variable {b p : Part} (h : WavesSame b p)
include h

theorem touches {f : Footprint} {q : Part} (t : Touches f p q) (cabinets : f.cabinets = false := by rfl)
    (waves : f.waves = false := by rfl) : WavesSame b q :=
  h.trans ⟨fun _ => by rw [t.cabinets cabinets], fun _ => by rw [t.waves waves]⟩

theorem works {f : Footprint} {own : List (Fin 87)} {q : Part} (w : Works f own p q)
    (cabinets : f.cabinets = false := by rfl) (waves : f.waves = false := by rfl) : WavesSame b q :=
  h.touches w.moves.touches cabinets waves

/-- A cabinet's record that names the same wave. -/
theorem setCabinet {n : Fin 8} {c : Cabinet} (named : c.waveSlot = (p.cabinets.get n).waveSlot) :
    WavesSame b (p.setCabinet n c) := by
  refine h.trans ⟨fun m => ?_, fun _ => by simp⟩
  rw [Part.setCabinet_cabinets, Table.get_set]
  split
  · next same => rw [same, named]
  · rfl

/-- A wave's record that claims the same. -/
theorem setWave {w : Fin 12} {v u : Wave} (stands : p.waves.get w = some v) (claim : u.claim = v.claim) :
    WavesSame b (p.setWave w (some u)) := by
  refine h.trans ⟨fun _ => by simp, fun x => ?_⟩
  rw [Part.setWave_waves, Table.get_set]
  split
  · next same => rw [same, stands, Option.map_some, Option.map_some, claim]
  · rfl

theorem setStock {kind : Fin 4} {s : Stock} : WavesSame b (p.setStock kind s) :=
  h.works (Part.setStock_works p [] kind s)

theorem setDish {d : Dish} : WavesSame b (p.setDish d) := h.works (Part.setDish_works p [] d)

end Work

end WavesSame

/-! ## Work that leaves both -/

namespace HallSame

theorem refl (p : Part) : HallSame p p := ⟨.refl p, .refl p⟩

theorem trans {p q r : Part} (h : HallSame p q) (k : HallSame q r) : HallSame p r :=
  ⟨h.plates.trans k.plates, h.waves.trans k.waves⟩

theorem either {c : Prop} [Decidable c] {b p q : Part} (hp : HallSame b p) (hq : HallSame b q) :
    HallSame b (if c then p else q) := by
  split
  · exact hp
  · exact hq

section Work

variable {b p : Part} (h : HallSame b p)
include h

theorem touches {f : Footprint} {q : Part} (t : Touches f p q) (cabinets : f.cabinets = false := by rfl)
    (stock : f.stock = false := by rfl) (dish : f.dish = false := by rfl) (waves : f.waves = false := by rfl) :
    HallSame b q :=
  ⟨h.plates.touches t cabinets stock dish, h.waves.touches t cabinets waves⟩

theorem works {f : Footprint} {own : List (Fin 87)} {q : Part} (w : Works f own p q)
    (cabinets : f.cabinets = false := by rfl) (stock : f.stock = false := by rfl) (dish : f.dish = false := by rfl)
    (waves : f.waves = false := by rfl) : HallSame b q :=
  h.touches w.moves.touches cabinets stock dish waves

theorem setCabinet {n : Fin 8} {c : Cabinet} (held : c.holding = (p.cabinets.get n).holding)
    (named : c.waveSlot = (p.cabinets.get n).waveSlot) : HallSame b (p.setCabinet n c) :=
  ⟨h.plates.setCabinet held, h.waves.setCabinet named⟩

theorem setWave {w : Fin 12} {v u : Wave} (stands : p.waves.get w = some v) (claim : u.claim = v.claim) :
    HallSame b (p.setWave w (some u)) :=
  ⟨h.plates.setWave, h.waves.setWave stands claim⟩

theorem foldl {α : Type} {act : Part → α → Part} (each : ∀ q a, HallSame b q → HallSame b (act q a))
    (items : List α) : HallSame b (items.foldl act p) := by
  induction items generalizing p with
  | nil => exact h
  | cons a rest ih => exact ih (each p a h)

theorem onWave {w : Fin 12} {act : Wave → Part → Part}
    (each : ∀ v, p.waves.get w = some v → HallSame b (act v p)) : HallSame b (p.onWave w act) := by
  unfold Part.onWave
  split
  · next stands => exact each _ stands
  · exact h

/-! ### Cabinets -/

theorem changeMode {n : Fin 8} {mode : CabinetMode} {waveSet : Bool} : HallSame b (p.changeMode n mode waveSet) := by
  have set := h.setCabinet (c := { p.cabinets.get n with mode, waveSet }) rfl rfl
  exact either set ((set.works (Part.runCabinetLoop_works _ n mode)).works (Part.classNotice_works _ [] _ _))

theorem serviceNotice {n : Fin 8} : HallSame b (p.serviceNotice n) := by
  unfold Part.serviceNotice
  split
  · exact h.changeMode
  · exact h.changeMode
  · exact h

theorem evaluateLow {n : Fin 8} : HallSame b (p.evaluateLow n) := h.works (Part.evaluateLow_works p [] n)

/-! ### Waves -/

theorem ovenClasses {v : Wave} {c : HeaterClass} : HallSame b (p.ovenClasses v c) :=
  h.works (Part.ovenClasses_works p [] v c)

theorem mark {c : MarkClass} {i : Nat} : HallSame b (p.mark c i) :=
  h.trans ⟨⟨rfl, fun _ => rfl, fun _ => rfl⟩, ⟨fun _ => rfl, fun _ => rfl⟩⟩

theorem raise {slot : Fin 87} {param : Half} : HallSame b (p.raise slot param) := h.works (Part.raise_works p _ _)

theorem ret {slot : Fin 87} : HallSame b (p.ret slot) := h.works (Part.ret_works p _)

theorem plateCheck {w : Fin 12} : HallSame b (p.plateCheck w) :=
  h.onWave fun v stands => either
    (either (h.setWave (u := { v with short := false }) stands rfl).ret h)
    (either (h.setWave (u := { v with short := true }) stands rfl).raise h)

theorem enterPreparing {w : Fin 12} {v : Wave} (stands : p.waves.get w = some v) (planned : v.state = .planned) :
    HallSame b (p.enterPreparing w v) :=
  ((h.setWave (u := { v with state := .preparing }) stands (by simp [Wave.claim, Wave.holds, planned])).foldl
    (fun _ _ k => k.serviceNotice) v.cabinets).ovenClasses.plateCheck

theorem enterReady {w : Fin 12} {v : Wave} (stands : p.waves.get w = some v) (holds : v.holds = true) :
    HallSame b (p.enterReady w v) := by
  have entered := h.setWave (u := v.readied) stands (by simpa [Wave.claim, Wave.readied, Wave.holds] using holds)
  exact (either (c := v.late = true) (entered.ret (slot := waveLateSlot w)) entered).works (Part.trigger_works _ [] _ _)

theorem enterLate {w : Fin 12} {v : Wave} (stands : p.waves.get w = some v) (preparing : v.state = .preparing) :
    HallSame b (p.enterLate w v) :=
  (h.setWave (u := v.overdue) stands (by simp [Wave.claim, Wave.overdue, Wave.holds, preparing])).raise

theorem judgePreparing {w : Fin 12} : HallSame b (p.judgePreparing w) := by
  have awaiting {v : Wave} (stands : p.waves.get w = some v) (holds : v.holds = true) :
      HallSame b ((p.plateCheck w).judgeReadiness w) := by
    have checked := p.plateCheck_wave w stands
    refine h.plateCheck.onWave fun u is => either (h.plateCheck.enterReady is ?_) h.plateCheck
    rw [checked] at is
    cases is
    exact holds
  refine h.onWave fun v stands => ?_
  split
  · next state => exact awaiting stands (by simp [Wave.holds, state])
  · next state => exact awaiting stands (by simp [Wave.holds, state])
  all_goals exact h

theorem judgeDue {w : Fin 12} : HallSame b (p.judgeDue w) := by
  refine h.onWave fun v stands => ?_
  split
  · next due =>
    rw [Bool.and_eq_true, decide_eq_true_eq] at due
    exact h.enterLate stands due.1
  · exact h

theorem judgeStanding {w : Fin 12} : HallSame b (p.judgeStanding w) := by
  refine h.onWave fun _ _ => ?_
  split
  · exact h.plateCheck
  · exact h.plateCheck
  all_goals exact h

/-- The judgement of a wave (R130). -/
theorem judgeWave {w : Fin 12} : HallSame b (p.judgeWave w) := by
  have planned : HallSame b (p.judgePlanned w) := by
    refine h.onWave fun v stands => ?_
    split
    · next due =>
      rw [Bool.and_eq_true, decide_eq_true_eq] at due
      exact h.enterPreparing stands due.1
    · exact h
  exact planned.judgePreparing.judgeDue.judgeStanding

/-- A wave's record that claims the same, judged. -/
theorem setJudged {w : Fin 12} {v u : Wave} (stands : p.waves.get w = some v) (claim : u.claim = v.claim) :
    HallSame b ((p.setWave w (some u)).judgeWave w) :=
  (h.setWave stands claim).judgeWave

theorem plateNotice {kind : Fin 4} : HallSame b (p.plateNotice kind) := by
  refine h.foldl (fun q w k => k.onWave fun v _ => ?_) _
  split
  iterate 4 exact either k.judgeWave k
  all_goals exact k

theorem ovenNotice {n : Fin 6} : HallSame b (p.ovenNotice n) := by
  refine h.foldl (fun q w k => k.onWave fun v _ => ?_) _
  split
  iterate 2 exact either k.judgeWave k
  all_goals exact k

theorem countdownTick {w : Fin 12} : HallSame b (p.countdownTick w) :=
  h.onWave fun _ stands => either (h.setJudged stands rfl) h

theorem cabinetMoved {n : Fin 8} : HallSame b (p.cabinetMoved n) := h.plateNotice.evaluateLow

/-! ### Ovens -/

theorem ovenChanged {n : Fin 6} {before : Oven} : HallSame b (p.ovenChanged n before) :=
  (either (h.works (Part.cancelNotice_works p [] (.oven n))) h).ovenNotice

theorem setOven {n : Fin 6} {o : Oven} : HallSame b (p.setOven n o) := h.works (Part.setOven_works p [] n o)

theorem requestSetpoint {n : Fin 16} {sp : Int} : HallSame b (p.requestSetpoint n sp) :=
  h.works (Part.requestSetpoint_works p [] n sp)

theorem ownerOff {n : Fin 16} : HallSame b (p.ownerOff n) := h.works (Part.ownerOff_works p [] n)

theorem endRun {n : Fin 6} {outcome : OvenOutcome} {askOff : Bool} : HallSame b (p.endRun n outcome askOff) := by
  have idle := h.setOven (n := n) (o := { p.ovens.get n with state := .idle, outcome })
  have off := either (c := askOff = true) (idle.ownerOff (n := ovenLoop n)) idle
  exact (either (off.works (Part.releaseLoop_works _ _)) off).ovenChanged

theorem startOven {n : Fin 6} {g : Fin 16} {first : Step} : HallSame b (p.startOven n g first) := by
  have asked := h.setOven (n := n) (o := { p.ovens.get n with
    program := g, step := 1, elapsed := 0, stepEnd := .none, start := p.uptime }) |>.requestSetpoint
      (n := ovenLoop n) (sp := first.setpoint)
  have inhibited := either (c := (p.ovens.get n).doorOpen = true) (asked.works (Part.inhibitLoop_works _ [] (ovenLoop n)))
    asked
  exact (inhibited.works (Part.ownerAuto_works _ _)).setOven.ovenChanged

theorem ovenDoor {n : Fin 6} {isOpen : Bool} : HallSame b (p.ovenDoor n isOpen) := h.works (Part.ovenDoor_works p n isOpen)

theorem programDone {n : Fin 6} {before o : Oven} : HallSame b (p.programDone n before o) :=
  ((either h.setOven.requestSetpoint h.setOven.ownerOff).works (Part.trigger_works _ [] _ _)).ovenChanged

theorem ovenTick {n : Fin 6} : HallSame b (p.ovenTick n) := by
  unfold Part.ovenTick Part.cookingTick Part.stepComplete
  dsimp only
  split
  · exact h
  · split
    · exact either h.setOven.ovenChanged h
    · split
      · exact h.setOven
      · split
        · exact h.setOven.requestSetpoint
        · exact h.programDone
    all_goals exact h

end Work

end HallSame

end Sys2Proof.Machine
end

section
/-!
Chapters 5 and 6: every move of plates keeps the sums of R84 and R87 (R88 to R93).
-/

namespace Sys2Proof.Machine

-- The proofs are taken one after the other, which keeps few threads waiting for one another.
set_option Elab.async false

/-! ## Sums over the cabinets -/

/-- Two sums that differ at one place. -/
theorem sum_finRange_update {k : Nat} {f g : Fin k → Nat} (n : Fin k) (other : ∀ m, m ≠ n → g m = f m) :
    ((List.finRange k).map g).sum + f n = ((List.finRange k).map f).sum + g n := by
  have rest : ∑ m ∈ Finset.univ.erase n, g m = ∑ m ∈ Finset.univ.erase n, f m :=
    Finset.sum_congr rfl fun m mem => other m (Finset.ne_of_mem_erase mem)
  have whole (e : Fin k → Nat) : ((List.finRange k).map e).sum = e n + ∑ m ∈ Finset.univ.erase n, e m := by
    rw [Finset.add_sum_erase _ _ (Finset.mem_univ n), Fin.sum_univ_def]
  rw [whole f, whole g, rest]
  omega

/-- The plates of a kind in a cabinet. -/
def Cabinet.ofKind (kind : Fin 4) (c : Cabinet) : Nat := if c.kind = kind then c.held else 0

/-- The plates of a kind outside the cabinets. -/
def Stock.placed (s : Stock) : Nat := s.soiled + s.tunnel + s.clean + s.issued

/-- A cabinet within R84: no more than its capacity, and at most 8 batches, none empty. -/
structure Cabinet.Fits (c : Cabinet) : Prop where
  capacity : c.held ≤ c.capacity
  batches : c.batches.length ≤ 8
  nonempty : ∀ b ∈ c.batches, 1 ≤ b.count

theorem Part.heldOfKind_eq (kind : Fin 4) (p : Part) :
    p.heldOfKind kind = ((List.finRange 8).map fun n => (p.cabinets.get n).ofKind kind).sum := by
  rw [Part.heldOfKind, Table.items_eq_map_get, List.map_map]
  rfl

/-- A cabinet replaced moves the sum of a kind by its own plates. -/
theorem Part.heldOfKind_set {p q : Part} {n : Fin 8} {c : Cabinet} (cabinets : q.cabinets = p.cabinets.set n c)
    (kind : Fin 4) :
    q.heldOfKind kind + (p.cabinets.get n).ofKind kind = p.heldOfKind kind + c.ofKind kind := by
  have one := sum_finRange_update (f := fun m => (p.cabinets.get m).ofKind kind)
    (g := fun m => (q.cabinets.get m).ofKind kind) n fun m other => by rw [cabinets, Table.get_set_ne _ _ other]
  rw [q.heldOfKind_eq, p.heldOfKind_eq]
  rwa [show (q.cabinets.get n).ofKind kind = c.ofKind kind by rw [cabinets, Table.get_set_self]] at one

theorem Part.heldOfKind_congr {p q : Part} (holdings : ∀ n, (q.cabinets.get n).holding = (p.cabinets.get n).holding)
    (kind : Fin 4) : q.heldOfKind kind = p.heldOfKind kind := by
  have same (n : Fin 8) : (q.cabinets.get n).ofKind kind = (p.cabinets.get n).ofKind kind :=
    congrArg (fun h : Fin 4 × Nat × List Batch => if h.1 = kind then heldIn h.2.2 else 0) (holdings n)
  simp only [Part.heldOfKind_eq, same]

/-! ## The invariant, by what moves -/

namespace PlatesKept

variable {p q : Part} (h : PlatesKept p)
include h

theorem fits (n : Fin 8) : (p.cabinets.get n).Fits := ⟨h.capacity n, h.batches n, h.nonempty n⟩

theorem same (s : PlatesSame p q) : PlatesKept q := by
  have fits (n : Fin 8) : (q.cabinets.get n).Fits := by
    obtain ⟨-, capacity, batches⟩ : (q.cabinets.get n).kind = (p.cabinets.get n).kind ∧
        (q.cabinets.get n).capacity = (p.cabinets.get n).capacity ∧
        (q.cabinets.get n).batches = (p.cabinets.get n).batches := by
      simpa [Cabinet.holding] using s.holdings n
    refine ⟨?_, ?_, ?_⟩
    · rw [Cabinet.held, capacity, batches]
      exact h.capacity n
    · rw [batches]
      exact h.batches n
    · rw [batches]
      exact h.nonempty n
  exact {
    sum := fun kind => by rw [s.stock, Part.heldOfKind_congr s.holdings]; exact h.sum kind
    tunnel := fun kind => by rw [s.stock, s.racks]; exact h.tunnel kind
    total := fun kind => by rw [s.stock]; exact h.total kind
    capacity := fun n => (fits n).capacity
    batches := fun n => (fits n).batches
    nonempty := fun n => (fits n).nonempty }

/-- A move of plates of one kind, told by what it does to the kind's counts. -/
theorem moved {k : Fin 4} {s : Stock} (stock : q.stock = p.stock.set k s) (fits : ∀ n, (q.cabinets.get n).Fits)
    (held : ∀ kind, kind ≠ k → q.heldOfKind kind = p.heldOfKind kind)
    (racks : ∀ kind, kind ≠ k → q.dish.plates kind = p.dish.plates kind)
    (balance : s.placed + q.heldOfKind k + (p.stock.get k).total = (p.stock.get k).placed + p.heldOfKind k + s.total)
    (total : s.total ≤ 65535) (tunnel : s.tunnel = q.dish.plates k) : PlatesKept q := by
  refine ⟨fun kind => ?_, fun kind => ?_, fun kind => ?_, fun n => (fits n).capacity, fun n => (fits n).batches,
    fun n => (fits n).nonempty⟩
  · rw [stock, Table.get_set]
    split
    · next same =>
      have before := h.sum k
      simp only [Stock.placed] at balance
      rw [same]
      omega
    · next other => rw [held kind other, h.sum]
  · rw [stock, Table.get_set]
    split
    · next same => rw [same, tunnel]
    · next other => rw [racks kind other, h.tunnel]
  · rw [stock, Table.get_set]
    split
    · exact total
    · exact h.total kind

/-- Plates of one kind move among its stock counts and the racks. -/
theorem stocked {k : Fin 4} {s : Stock} (stock : q.stock = p.stock.set k s) (cabinets : q.cabinets = p.cabinets)
    (racks : ∀ kind, kind ≠ k → q.dish.plates kind = p.dish.plates kind)
    (balance : s.placed + (p.stock.get k).total = (p.stock.get k).placed + s.total) (total : s.total ≤ 65535)
    (tunnel : s.tunnel = q.dish.plates k) : PlatesKept q := by
  have held (kind : Fin 4) : q.heldOfKind kind = p.heldOfKind kind :=
    Part.heldOfKind_congr (fun n => by rw [cabinets]) kind
  refine h.moved stock (fun n => by rw [cabinets]; exact h.fits n) (fun kind _ => held kind) racks ?_ total tunnel
  rw [held]
  omega

/-- Plates of one kind move between its stock counts and a cabinet. -/
theorem cabinetStocked {n : Fin 8} {c : Cabinet} {s : Stock} (cabinets : q.cabinets = p.cabinets.set n c)
    (stock : q.stock = p.stock.set (p.cabinets.get n).kind s) (dish : q.dish = p.dish)
    (kind : c.kind = (p.cabinets.get n).kind) (fits : c.Fits)
    (balance : s.placed + c.held + (p.stock.get (p.cabinets.get n).kind).total =
      (p.stock.get (p.cabinets.get n).kind).placed + (p.cabinets.get n).held + s.total)
    (total : s.total ≤ 65535) (tunnel : s.tunnel = (p.stock.get (p.cabinets.get n).kind).tunnel) : PlatesKept q := by
  have held (k : Fin 4) := Part.heldOfKind_set cabinets k
  refine h.moved stock (fun m => ?_) (fun k other => ?_) (fun _ _ => by rw [dish]) ?_ total
    (by rw [tunnel, dish, h.tunnel])
  · rw [cabinets, Table.get_set]
    split
    · exact fits
    · exact h.fits m
  · simpa [Cabinet.ofKind, kind, other.symm] using held k
  · have one := held (p.cabinets.get n).kind
    rw [Cabinet.ofKind, Cabinet.ofKind, kind, if_pos rfl, if_pos rfl] at one
    omega

/-- A cabinet without plates takes any kind and capacity. -/
theorem refitted {n : Fin 8} {c : Cabinet} (cabinets : q.cabinets = p.cabinets.set n c) (stock : q.stock = p.stock)
    (dish : q.dish = p.dish) (none : (p.cabinets.get n).batches = []) (still : c.batches = []) : PlatesKept q := by
  have held (k : Fin 4) : q.heldOfKind k = p.heldOfKind k := by
    have one := Part.heldOfKind_set cabinets k
    simpa [Cabinet.ofKind, Cabinet.held, none, still, heldIn_nil] using one
  have fits (m : Fin 8) : (q.cabinets.get m).Fits := by
    rw [cabinets, Table.get_set]
    split
    · exact ⟨by simp [Cabinet.held, still, heldIn_nil], by simp [still], by simp [still]⟩
    · exact h.fits m
  exact ⟨fun k => by rw [stock, held]; exact h.sum k, fun k => by rw [stock, dish]; exact h.tunnel k,
    fun k => by rw [stock]; exact h.total k, fun m => (fits m).capacity, fun m => (fits m).batches,
    fun m => (fits m).nonempty⟩

/-- No location of a kind holds more than its total. -/
theorem placed_le (kind : Fin 4) : (p.stock.get kind).placed + p.heldOfKind kind = (p.stock.get kind).total :=
  h.sum kind

end PlatesKept

/-! ## The claims of the waves -/

/-- A wave stands in a slot with this claim (R127, R128). -/
def Part.claims (w : Fin 12) (c : Byte × List (Fin 8) × List (Fin 6) × Bool) (p : Part) : Prop :=
  (p.waves.get w).map Wave.claim = some c

theorem Part.holdsCabinet_iff (w : Fin 12) (n : Fin 8) (p : Part) :
    p.holdsCabinet w n ↔ ∃ number cabinets ovens, p.claims w (number, cabinets, ovens, true) ∧ n ∈ cabinets := by
  constructor
  · rintro ⟨v, stands, holds, listed⟩
    exact ⟨v.number, v.cabinets, v.ovens, by simp [Part.claims, stands, Wave.claim, holds], listed⟩
  · rintro ⟨number, cabinets, ovens, claims, listed⟩
    obtain ⟨v, stands, claim⟩ := Option.map_eq_some_iff.mp claims
    simp only [Wave.claim, Prod.mk.injEq] at claim
    obtain ⟨-, same, -, holds⟩ := claim
    exact ⟨v, stands, holds, same ▸ listed⟩

theorem Part.holdsOven_iff (w : Fin 12) (n : Fin 6) (p : Part) :
    p.holdsOven w n ↔ ∃ number cabinets ovens, p.claims w (number, cabinets, ovens, true) ∧ n ∈ ovens := by
  constructor
  · rintro ⟨v, stands, holds, listed⟩
    exact ⟨v.number, v.cabinets, v.ovens, by simp [Part.claims, stands, Wave.claim, holds], listed⟩
  · rintro ⟨number, cabinets, ovens, claims, listed⟩
    obtain ⟨v, stands, claim⟩ := Option.map_eq_some_iff.mp claims
    simp only [Wave.claim, Prod.mk.injEq] at claim
    obtain ⟨-, -, same, holds⟩ := claim
    exact ⟨v, stands, holds, same ▸ listed⟩

section Claims

variable {p q : Part} (s : WavesSame p q)
include s

theorem WavesSame.holdsCabinet (w : Fin 12) (n : Fin 8) : q.holdsCabinet w n ↔ p.holdsCabinet w n := by
  simp only [Part.holdsCabinet_iff, Part.claims, s.claims]

theorem WavesSame.holdsOven (w : Fin 12) (n : Fin 6) : q.holdsOven w n ↔ p.holdsOven w n := by
  simp only [Part.holdsOven_iff, Part.claims, s.claims]

theorem WavesSame.number {w : Fin 12} {u : Wave} (stands : q.waves.get w = some u) :
    ∃ v, p.waves.get w = some v ∧ v.number = u.number := by
  have claims := s.claims w
  rw [stands, Option.map_some] at claims
  obtain ⟨v, is, claim⟩ := Option.map_eq_some_iff.mp claims.symm
  exact ⟨v, is, congrArg Prod.fst claim⟩

end Claims

theorem WavesApart.same {p q : Part} (h : WavesApart p) (s : WavesSame p q) : WavesApart q where
  numbers w x v u isW isX number := by
    obtain ⟨v', wasW, numberW⟩ := s.number isW
    obtain ⟨u', wasX, numberX⟩ := s.number isX
    exact h.numbers w x v' u' wasW wasX (by rw [numberW, numberX, number])
  cabinets w x n := by
    simp only [s.holdsCabinet]
    exact h.cabinets w x n
  ovens w x n := by
    simp only [s.holdsOven]
    exact h.ovens w x n
  slot w n := by
    rw [s.slots, s.holdsCabinet]
    exact h.slot w n

end Sys2Proof.Machine
end

section
/-!
Chapter 7: a wave that is created holds what it lists, and one that ends lets go of it (R83, R128, R129, R138 to R140).
-/

namespace Sys2Proof.Machine

-- The proofs are taken one after the other, which keeps few threads waiting for one another.
set_option Elab.async false

/-! ## Hold and release notices (R83) -/

/-- Notices to a list of cabinets, where a second notice to the same one changes nothing. -/
theorem foldl_cabinets {act : Part → Fin 8 → Part} {f : Cabinet → Cabinet}
    (each : ∀ q n, (act q n).cabinets = q.cabinets.set n (f (q.cabinets.get n))) (again : ∀ c, f (f c) = f c)
    (items : List (Fin 8)) (p : Part) (n : Fin 8) :
    (items.foldl act p).cabinets.get n = if n ∈ items then f (p.cabinets.get n) else p.cabinets.get n := by
  induction items generalizing p with
  | nil => simp
  | cons first rest ih =>
    rw [List.foldl_cons, ih, each, Table.get_set]
    by_cases same : n = first
    · subst same
      simp [again]
    · simp [same]

section Cabinets

variable (p : Part)

theorem Part.holdNotice_cabinets (w : Fin 12) (n : Fin 8) :
    (p.holdNotice w n).cabinets = p.cabinets.set n { p.cabinets.get n with waveSlot := some w } := by
  simp [Part.holdNotice]

theorem Part.releaseNotice_cabinets (n : Fin 8) :
    (p.releaseNotice n).cabinets = p.cabinets.set n (releasedCabinet (p.cabinets.get n)) := by
  unfold Part.releaseNotice releasedCabinet
  dsimp only
  split
  · next held =>
    rw [Bool.and_eq_true, decide_eq_true_eq] at held
    simp [Part.changeMode_cabinets, held]
  · next held =>
    rw [Bool.and_eq_true, decide_eq_true_eq] at held
    simp [held]

theorem releasedCabinet_again (c : Cabinet) : releasedCabinet (releasedCabinet c) = releasedCabinet c := by
  simp [releasedCabinet]

theorem Part.releaseNotices_cabinets (items : List (Fin 8)) (n : Fin 8) :
    (items.foldl (fun q n => q.releaseNotice n) p).cabinets.get n =
      if n ∈ items then releasedCabinet (p.cabinets.get n) else p.cabinets.get n :=
  foldl_cabinets (fun q n => q.releaseNotice_cabinets n) releasedCabinet_again items p n

theorem Part.releaseNotices_waves (items : List (Fin 8)) :
    (items.foldl (fun q n => q.releaseNotice n) p).waves = p.waves :=
  foldl_waves _ (fun q n => (Part.releaseNotice_works q n).moves.touches.waves rfl) items p

theorem Part.holdNotices_cabinets (w : Fin 12) (items : List (Fin 8)) (n : Fin 8) :
    (items.foldl (fun q n => q.holdNotice w n) p).cabinets.get n =
      if n ∈ items then { p.cabinets.get n with waveSlot := some w } else p.cabinets.get n :=
  foldl_cabinets (f := fun c => { c with waveSlot := some w }) (fun q n => q.holdNotice_cabinets w n) (fun _ => rfl)
    items p n

theorem Part.holdNotices_waves (w : Fin 12) (items : List (Fin 8)) :
    (items.foldl (fun q n => q.holdNotice w n) p).waves = p.waves :=
  foldl_waves _ (fun q n => (Part.holdNotice_works q [] w n).moves.touches.waves rfl) items p

end Cabinets

/-! ## A close (R139) -/

/-- A wave as its close leaves it. -/
def Wave.ended (v : Wave) : Wave := { v with state := .closed, short := false, late := false }

/-- The cabinets and ovens of a close, before its conditions return. -/
def Part.letGo (w : Fin 12) (v : Wave) (p : Part) : Part :=
  let released := v.cabinets.foldl (fun q n => q.releaseNotice n) (p.setWave w (some { v with state := .closed }))
  if v.state = .planned then released else released.ovenClasses v .standby

/-- PLATES_SHORT returns where it stood (R139). -/
def Part.unshort (w : Fin 12) (v : Wave) (p : Part) : Part :=
  if v.short then (p.setWave w (some { v with state := .closed, short := false })).ret (platesShortSlot w) else p

/-- So does WAVE_LATE. -/
def Part.unlate (w : Fin 12) (v : Wave) (p : Part) : Part :=
  if v.late then (p.setWave w (some v.ended)).ret (waveLateSlot w) else p

section Close

variable (p : Part) (w : Fin 12) (v : Wave)

theorem Part.closeWave_eq :
    p.closeWave w v = (((p.letGo w v).unshort w v).unlate w v).cancelNotice (.wave w) := rfl

theorem Part.letGo_waves : (p.letGo w v).waves = p.waves.set w (some { v with state := .closed }) := by
  unfold Part.letGo
  dsimp only
  split
  · rw [Part.releaseNotices_waves, Part.setWave_waves]
  · rw [Part.ovenClasses_waves, Part.releaseNotices_waves, Part.setWave_waves]

theorem Part.letGo_cabinets (n : Fin 8) : (p.letGo w v).cabinets.get n =
    if n ∈ v.cabinets then releasedCabinet (p.cabinets.get n) else p.cabinets.get n := by
  have classed (q : Part) : (q.ovenClasses v .standby).cabinets = q.cabinets :=
    (Part.ovenClasses_works q [] v .standby).moves.touches.cabinets rfl
  unfold Part.letGo
  dsimp only
  split
  · rw [Part.releaseNotices_cabinets, Part.setWave_cabinets]
  · rw [classed, Part.releaseNotices_cabinets, Part.setWave_cabinets]

theorem Part.unshort_works : Works noticeFoot [platesShortSlot w] p (p.unshort w v) := by
  unfold Part.unshort
  split
  · exact (Part.setWave_works p _ w _).widen.trans (Part.ret_works _ _).widen
  · exact Works.refl _ _ _

theorem Part.unlate_works : Works noticeFoot [waveLateSlot w] p (p.unlate w v) := by
  unfold Part.unlate
  split
  · exact (Part.setWave_works p _ w _).widen.trans (Part.ret_works _ _).widen
  · exact Works.refl _ _ _

theorem Part.closeWave_cabinets (n : Fin 8) : (p.closeWave w v).cabinets.get n =
    if n ∈ v.cabinets then releasedCabinet (p.cabinets.get n) else p.cabinets.get n := by
  rw [p.closeWave_eq, Part.cancelNotice_cabinets, (Part.unlate_works _ w v).moves.touches.cabinets rfl,
    (Part.unshort_works _ w v).moves.touches.cabinets rfl, p.letGo_cabinets]

theorem Part.closeWave_waves : (p.closeWave w v).waves = p.waves.set w (some v.ended) := by
  rw [p.closeWave_eq, Part.cancelNotice_waves, Part.unlate, Part.unshort]
  cases short : v.short <;> cases late : v.late <;>
    simp [p.letGo_waves, Wave.ended, short, late]

end Close

end Sys2Proof.Machine
end

section
/-!
Chapters 5 and 7: both invariants through the moves of plates and the life of a wave. One rule per operation, in the
order of the chapters.
-/

namespace Sys2Proof.Machine

-- The proofs are taken one after the other, which keeps few threads waiting for one another.
set_option Elab.async false

/-! ## The life of a wave -/

namespace WavesApart

variable {p q : Part} (h : WavesApart p) {w : Fin 12}
include h

/-- A wave lets go of what it held, and keeps its number at most. -/
theorem released (others : ∀ x, x ≠ w → q.waves.get x = p.waves.get x)
    (free : ∀ u, q.waves.get w = some u → u.holds = false ∧ ∃ v, p.waves.get w = some v ∧ v.number = u.number)
    (slots : ∀ n, (p.holdsCabinet w n → (q.cabinets.get n).waveSlot = none) ∧
      (¬ p.holdsCabinet w n → (q.cabinets.get n).waveSlot = (p.cabinets.get n).waveSlot)) : WavesApart q := by
  have was {x : Fin 12} {u : Wave} (stands : q.waves.get x = some u) :
      ∃ v, p.waves.get x = some v ∧ v.number = u.number := by
    by_cases same : x = w
    · subst same
      exact (free u stands).2
    · exact ⟨u, by rwa [← others x same], rfl⟩
  have cabinet (x : Fin 12) (n : Fin 8) : q.holdsCabinet x n ↔ x ≠ w ∧ p.holdsCabinet x n := by
    by_cases same : x = w
    · subst same
      simp only [ne_eq, not_true_eq_false, false_and, iff_false]
      rintro ⟨u, stands, holds, -⟩
      simp [(free u stands).1] at holds
    · simp [Part.holdsCabinet, others x same, same]
  have oven (x : Fin 12) (n : Fin 6) : q.holdsOven x n → p.holdsOven x n := by
    rintro ⟨u, stands, holds, listed⟩
    by_cases same : x = w
    · subst same
      simp [(free u stands).1] at holds
    · exact ⟨u, by rwa [← others x same], holds, listed⟩
  refine ⟨fun x y v u isX isY number => ?_, fun x y n holdX holdY => ?_, fun x y n holdX holdY => ?_, fun x n => ?_⟩
  · obtain ⟨v', wasX, numberX⟩ := was isX
    obtain ⟨u', wasY, numberY⟩ := was isY
    exact h.numbers x y v' u' wasX wasY (by rw [numberX, numberY, number])
  · exact h.cabinets x y n ((cabinet x n).mp holdX).2 ((cabinet y n).mp holdY).2
  · exact h.ovens x y n (oven x n holdX) (oven y n holdY)
  · rw [cabinet]
    by_cases held : p.holdsCabinet w n
    · rw [(slots n).1 held]
      exact ⟨fun none => by simp at none, fun other => absurd (h.cabinets x w n other.2 held) other.1⟩
    · rw [(slots n).2 held, h.slot]
      exact ⟨fun holds => ⟨fun same => held (same ▸ holds), holds⟩, And.right⟩

/-- A wave takes an EMPTY slot, with a number of its own and cabinets and ovens that no other holds. -/
theorem created {v : Wave} (holds : v.holds = true) (waves : q.waves = p.waves.set w (some v))
    (empty : p.waves.get w = none) (number : ∀ x u, p.waves.get x = some u → u.number ≠ v.number)
    (cabinets : ∀ x, ∀ n ∈ v.cabinets, ¬ p.holdsCabinet x n) (ovens : ∀ x, ∀ n ∈ v.ovens, ¬ p.holdsOven x n)
    (slots : ∀ n, (q.cabinets.get n).waveSlot =
      if n ∈ v.cabinets then some w else (p.cabinets.get n).waveSlot) : WavesApart q := by
  have stood {x : Fin 12} {u : Wave} (stands : q.waves.get x = some u) :
      x = w ∧ u = v ∨ x ≠ w ∧ p.waves.get x = some u := by
    rw [waves, Table.get_set] at stands
    by_cases same : x = w
    · rw [if_pos same] at stands
      cases stands
      exact .inl ⟨same, rfl⟩
    · exact .inr ⟨same, by rwa [if_neg same] at stands⟩
  have cabinet (x : Fin 12) (n : Fin 8) : q.holdsCabinet x n ↔ x = w ∧ n ∈ v.cabinets ∨ x ≠ w ∧ p.holdsCabinet x n := by
    by_cases same : x = w
    · subst same
      simp [Part.holdsCabinet, waves, holds]
    · simp [Part.holdsCabinet, waves, Table.get_set_ne _ _ same, same]
  have oven (x : Fin 12) (n : Fin 6) : q.holdsOven x n ↔ x = w ∧ n ∈ v.ovens ∨ x ≠ w ∧ p.holdsOven x n := by
    by_cases same : x = w
    · subst same
      simp [Part.holdsOven, waves, holds]
    · simp [Part.holdsOven, waves, Table.get_set_ne _ _ same, same]
  refine ⟨fun x y a b isX isY same => ?_, fun x y n holdX holdY => ?_, fun x y n holdX holdY => ?_, fun x n => ?_⟩
  · obtain ⟨rfl, rfl⟩ | ⟨-, wasX⟩ := stood isX <;> obtain ⟨rfl, rfl⟩ | ⟨-, wasY⟩ := stood isY
    · rfl
    · exact absurd same.symm (number _ _ wasY)
    · exact absurd same (number _ _ wasX)
    · exact h.numbers x y a b wasX wasY same
  · obtain ⟨rfl, listed⟩ | ⟨-, heldX⟩ := (cabinet x n).mp holdX <;>
      obtain ⟨rfl, listed'⟩ | ⟨-, heldY⟩ := (cabinet y n).mp holdY
    · rfl
    · exact absurd heldY (cabinets _ n listed)
    · exact absurd heldX (cabinets _ n listed')
    · exact h.cabinets x y n heldX heldY
  · obtain ⟨rfl, listed⟩ | ⟨-, heldX⟩ := (oven x n).mp holdX <;>
      obtain ⟨rfl, listed'⟩ | ⟨-, heldY⟩ := (oven y n).mp holdY
    · rfl
    · exact absurd heldY (ovens _ n listed)
    · exact absurd heldX (ovens _ n listed')
    · exact h.ovens x y n heldX heldY
  · rw [slots, cabinet]
    split
    · next listed =>
      rw [Option.some.injEq]
      exact ⟨fun same => .inl ⟨same.symm, listed⟩, fun held => held.elim (fun own => own.1.symm)
        (fun other => absurd other.2 (cabinets _ n listed))⟩
    · next free =>
      rw [h.slot]
      refine ⟨fun held => .inr ⟨fun same => ?_, held⟩, fun held => held.elim (fun own => absurd own.2 free) And.right⟩
      obtain ⟨u, stands, -⟩ := held
      simp [same, empty] at stands

end WavesApart

/-- What a wave that stands in a slot holds. -/
theorem Part.holdsCabinet_of {p : Part} {w : Fin 12} {v : Wave} (stands : p.waves.get w = some v) (n : Fin 8) :
    p.holdsCabinet w n ↔ v.holds = true ∧ n ∈ v.cabinets := by
  simp [Part.holdsCabinet, stands]

/-! ## Both invariants -/

/-- Work after which each invariant holds where it held before. -/
structure HallKept (p q : Part) : Prop where
  plates : PlatesKept p → PlatesKept q
  waves : WavesApart p → WavesApart q

namespace HallKept

theorem refl (p : Part) : HallKept p p := ⟨id, id⟩

theorem trans {p q r : Part} (h : HallKept p q) (k : HallKept q r) : HallKept p r :=
  ⟨fun kept => k.plates (h.plates kept), fun apart => k.waves (h.waves apart)⟩

theorem either {c : Prop} [Decidable c] {b p q : Part} (hp : HallKept b p) (hq : HallKept b q) :
    HallKept b (if c then p else q) := by
  split
  · exact hp
  · exact hq

theorem eitherAnswer {c : Prop} [Decidable c] {b : Part} {x y : Part × Answer} (hx : HallKept b x.1)
    (hy : HallKept b y.1) : HallKept b (if c then x else y).1 := by
  split
  · exact hx
  · exact hy

/-- The part of an answer. -/
theorem answered {b p : Part} {a : Answer} (h : HallKept b p) : HallKept b (p, a).1 := h

section Work

variable {b p : Part} (h : HallKept b p)
include h

theorem follows {q : Part} (s : HallSame p q) : HallKept b q :=
  h.trans ⟨fun kept => kept.same s.plates, fun apart => apart.same s.waves⟩

/-- Work that reaches none of the records. -/
theorem same {q : Part} (cabinets : q.cabinets = p.cabinets := by rfl) (stock : q.stock = p.stock := by rfl)
    (dish : q.dish = p.dish := by rfl) (waves : q.waves = p.waves := by rfl) : HallKept b q :=
  h.follows ⟨⟨stock, fun _ => by rw [dish], fun _ => by rw [cabinets]⟩,
    ⟨fun _ => by rw [cabinets], fun _ => by rw [waves]⟩⟩

theorem works {f : Footprint} {own : List (Fin 87)} {q : Part} (w : Works f own p q)
    (cabinets : f.cabinets = false := by rfl) (stock : f.stock = false := by rfl) (dish : f.dish = false := by rfl)
    (waves : f.waves = false := by rfl) : HallKept b q :=
  have t := w.moves.touches
  h.same (t.cabinets cabinets) (t.stock stock) (t.dish dish) (t.waves waves)

/-- Work in turn. -/
theorem foldl {α : Type} {act : Part → α → Part} (each : ∀ q a, HallKept b q → HallKept b (act q a))
    (items : List α) : HallKept b (items.foldl act p) := by
  induction items generalizing p with
  | nil => exact h
  | cons a rest ih => exact ih (each p a h)

/-- A move of plates, and the notices after it. -/
theorem moved {q r : Part} (waves : WavesSame p q) (plates : PlatesKept p → PlatesKept q) (after : HallSame q r) :
    HallKept b r :=
  (h.trans ⟨plates, fun apart => apart.same waves⟩).follows after

/-! ### Plates (R88 to R91) -/

/-- A kind's stock counts change, the same plates among them. -/
theorem restocked {k : Fin 4} {s : Stock} (tunnel : s.tunnel = (p.stock.get k).tunnel)
    (fair : PlatesKept p →
      s.placed + (p.stock.get k).total = (p.stock.get k).placed + s.total ∧ s.total ≤ 65535) :
    HallKept b ((p.setStock k s).plateNotice k) := by
  refine h.moved (WavesSame.refl p).setStock (fun kept => ?_) (HallSame.refl _).plateNotice
  obtain ⟨balance, total⟩ := fair kept
  exact kept.stocked (Part.setStock_stock p k s) (Part.setStock_cabinets p k s) (fun _ _ => by simp) balance total
    (by rw [tunnel, kept.tunnel]; simp)

/-- A cabinet's batches change, and its kind's stock counts with them. -/
theorem rebatched {q r : Part} {n : Fin 8} {batches : List Batch} {s : Stock}
    (cabinets : q.cabinets = p.cabinets.set n { p.cabinets.get n with batches })
    (stock : q.stock = p.stock.set (p.cabinets.get n).kind s) (dish : q.dish = p.dish) (waves : q.waves = p.waves)
    (tunnel : s.tunnel = (p.stock.get (p.cabinets.get n).kind).tunnel)
    (fair : PlatesKept p → ({ p.cabinets.get n with batches } : Cabinet).Fits ∧
      s.placed + heldIn batches + (p.stock.get (p.cabinets.get n).kind).total =
        (p.stock.get (p.cabinets.get n).kind).placed + (p.cabinets.get n).held + s.total ∧ s.total ≤ 65535)
    (after : HallSame q r) : HallKept b r := by
  refine h.moved ⟨fun m => ?_, fun _ => by rw [waves]⟩ (fun kept => ?_) after
  · rw [cabinets, Table.get_set]
    split
    · next same => rw [same]
    · rfl
  · obtain ⟨fits, balance, total⟩ := fair kept
    exact kept.cabinetStocked cabinets stock dish rfl fits balance total tunnel

end Work

end HallKept

end Sys2Proof.Machine
end

section
/-!
Chapters 5 and 7: the requests to the plate warmers, the stock and the waves keep both invariants (R81 to R91, R127 to
R140).
-/

namespace Sys2Proof.Machine

-- The proofs are taken one after the other, which keeps few threads waiting for one another.
set_option Elab.async false

/-! ## Batches within a cabinet (R84, R85, R88, R89) -/

theorem nonempty_loadBatch (now : Word) {count : Nat} (some_loaded : 1 ≤ count) {batches : List Batch}
    (held : ∀ b ∈ batches, 1 ≤ b.count) : ∀ b ∈ loadBatch now count batches, 1 ≤ b.count := by
  unfold loadBatch
  intro b mem
  split at mem
  · rcases List.mem_append.mp mem with mem | mem
    · exact held b mem
    · rw [List.mem_singleton.mp mem]
      exact some_loaded
  · split at mem
    · exact held b mem
    · rcases List.mem_append.mp mem with mem | mem
      · exact held b (List.mem_of_mem_dropLast mem)
      · rw [List.mem_singleton.mp mem]
        exact some_loaded.trans (Nat.le_add_left _ _)

namespace Cabinet.Fits

variable {c : Cabinet} (h : c.Fits)
include h

theorem taken (count : Nat) : ({ c with batches := takeOldest count c.batches } : Cabinet).Fits where
  capacity := by
    rw [Cabinet.held, heldIn_takeOldest]
    exact (Nat.sub_le _ _).trans h.capacity
  batches := (length_takeOldest count c.batches).trans h.batches
  nonempty := nonempty_takeOldest count c.batches h.nonempty

theorem loaded (now : Word) {count : Nat} (some_loaded : 1 ≤ count) (room : count ≤ c.capacity - c.held) :
    ({ c with batches := loadBatch now count c.batches } : Cabinet).Fits where
  capacity := by
    have held := h.capacity
    rw [Cabinet.held, heldIn_loadBatch]
    simp only [Cabinet.held] at held room ⊢
    omega
  batches := length_loadBatch now count c.batches h.batches
  nonempty := nonempty_loadBatch now some_loaded h.nonempty

theorem dwelt : ({ c with batches := c.batches.map Batch.dwelt } : Cabinet).Fits where
  capacity := by
    rw [Cabinet.held, heldIn_dwelt]
    exact h.capacity
  batches := by simpa using h.batches
  nonempty := by simpa [Batch.dwelt] using h.nonempty

end Cabinet.Fits

namespace HallKept

section Plates

variable {b p : Part} (h : HallKept b p)
include h

/-! ### Moves of plates -/

theorem stockAdd {kind : Byte} {count : Half} : HallKept b (Machine.stockAdd kind count p).1 := by
  unfold Machine.stockAdd
  split
  · exact h
  · dsimp only
    split
    · exact h
    · next room =>
      refine answered (h.restocked ?_ fun _ => ?_)
      · rfl
      · simp only [Stock.placed]
        omega

/-- Plates leave a cabinet for a location of the stock, or the stock (R88, R90, R91). -/
theorem takenOut {n : Fin 8} {count : Nat} {s : Stock} {r : Part}
    (tunnel : s.tunnel = (p.stock.get (p.cabinets.get n).kind).tunnel)
    (fair : PlatesKept p → s.placed + ((p.cabinets.get n).held - count) + (p.stock.get (p.cabinets.get n).kind).total =
      (p.stock.get (p.cabinets.get n).kind).placed + (p.cabinets.get n).held + s.total ∧
      s.total ≤ (p.stock.get (p.cabinets.get n).kind).total)
    (after : HallSame ((p.takeFromCabinet n count).setStock (p.cabinets.get n).kind s) r) : HallKept b r := by
  refine h.rebatched (n := n) (s := s) (batches := takeOldest count (p.cabinets.get n).batches)
    (by simp [Part.takeFromCabinet]) (by simp [Part.takeFromCabinet]) (by simp [Part.takeFromCabinet])
    (by simp [Part.takeFromCabinet]) tunnel (fun kept => ?_) after
  obtain ⟨balance, less⟩ := fair kept
  rw [heldIn_takeOldest]
  exact ⟨(kept.fits n).taken count, balance, less.trans (kept.total _)⟩

theorem writeOffAt {kind : Fin 4} {place : Place} {count : Nat} (held : count ≤ p.heldAt kind place)
    (right : p.wrongCabinet kind place = false) : HallKept b (p.writeOffAt kind place count) := by
  have total (kept : PlatesKept p) : (p.stock.get kind).placed + p.heldOfKind kind = (p.stock.get kind).total :=
    kept.placed_le kind
  cases place with
  | cabinet n =>
    have same : (p.cabinets.get n).kind = kind := by simpa [Part.wrongCabinet] using right
    subst same
    refine h.takenOut (n := n) ?_ (fun kept => ?_) (HallSame.refl _).cabinetMoved
    · rfl
    have inside : (p.cabinets.get n).held ≤ p.heldOfKind (p.cabinets.get n).kind := by
      have one := Part.heldOfKind_set (p := p) (q := { p with cabinets := p.cabinets.set n { p.cabinets.get n with
        batches := [] } }) rfl (p.cabinets.get n).kind
      simp only [Cabinet.ofKind, if_true, Cabinet.held, heldIn_nil] at one ⊢
      omega
    have sum := total kept
    simp only [Part.heldAt] at held
    simp only [Stock.placed] at sum ⊢
    omega
  | soiled | clean | issued =>
    refine h.restocked ?_ fun kept => ?_
    · rfl
    have sum := total kept
    have most := kept.total kind
    simp only [Part.heldAt] at held
    simp only [Stock.placed] at sum ⊢
    omega

theorem writeOff {kind location : Byte} {count : Half} : HallKept b (Machine.writeOff kind location count p).1 := by
  unfold Machine.writeOff
  split
  · dsimp only
    split
    · exact h
    · next taken =>
      rw [not_or, Bool.not_eq_true] at taken
      exact either h (h.writeOffAt (Nat.min_le_right _ _) taken.2)
  · exact h

theorem loadCabinet {n : Fin 8} {count : Nat} (some_loaded : 1 ≤ count)
    (held : count ≤ (p.stock.get (p.cabinets.get n).kind).clean)
    (room : count ≤ (p.cabinets.get n).capacity - (p.cabinets.get n).held) : HallKept b (p.loadCabinet n count) := by
  refine h.rebatched (n := n) (batches := loadBatch p.uptime count (p.cabinets.get n).batches)
    (s := { p.stock.get (p.cabinets.get n).kind with
      clean := (p.stock.get (p.cabinets.get n).kind).clean - count })
    (q := (p.setStock _ _).setCabinet n _) (by simp) (by simp) (by simp) (by simp) rfl (fun kept => ?_)
    (HallSame.refl _).cabinetMoved
  refine ⟨(kept.fits n).loaded p.uptime some_loaded room, ?_, kept.total _⟩
  rw [heldIn_loadBatch]
  simp only [Stock.placed, Cabinet.held]
  omega

theorem load {cabinet : Byte} {count : Half} : HallKept b (Machine.load cabinet count p).1 := by
  unfold Machine.load
  split
  · exact h
  · dsimp only
    split
    · exact h
    · split
      · exact h
      · dsimp only
        split
        · exact h
        · exact h.loadCabinet (by omega) (by omega) (by omega)

theorem unloadPlates {cabinet : Byte} {count : Half} : HallKept b (Machine.unloadPlates cabinet count p).1 := by
  unfold Machine.unloadPlates
  split
  · exact h
  · dsimp only
    split
    · exact h
    · dsimp only
      split
      · exact h
      · refine h.takenOut ?_ (fun _ => ?_) (HallSame.refl _).cabinetMoved
        · rfl
        · simp only [Stock.placed]
          omega

theorem returnPlates {kind : Byte} {count : Half} : HallKept b (Machine.returnPlates kind count p).1 := by
  unfold Machine.returnPlates
  split
  · exact h
  · dsimp only
    split
    · exact h
    · dsimp only
      split
      · exact h
      · refine h.restocked ?_ fun kept => ⟨?_, kept.total _⟩
        · rfl
        · simp only [Stock.placed]
          omega

/-- A second of dwell moves no plate (R85). -/
theorem warmTick {n : Fin 8} : HallKept b (p.warmTick n) := by
  have warmed {r : Part} (after : HallSame (p.setCabinet n { p.cabinets.get n with
      batches := (p.cabinets.get n).batches.map Batch.dwelt }) r) : HallKept b r := by
    refine h.rebatched (n := n) (batches := (p.cabinets.get n).batches.map Batch.dwelt)
      (s := p.stock.get (p.cabinets.get n).kind) (by simp) (by simp) (by simp) (by simp) rfl (fun kept => ?_) after
    refine ⟨(kept.fits n).dwelt, ?_, kept.total _⟩
    rw [heldIn_dwelt]
    simp only [Cabinet.held]
  unfold Part.warmTick
  dsimp only
  split
  · split
    · exact warmed (HallSame.refl _)
    · exact warmed (HallSame.refl _).plateNotice.evaluateLow
  · exact h

/-! ### Cabinets -/

theorem setCabinetMode {cabinet mode : Byte} : HallKept b (Machine.setCabinetMode cabinet mode p).1 := by
  unfold Machine.setCabinetMode
  split
  · exact h.follows (HallSame.refl p).changeMode
  · exact h

end Plates

end HallKept

end Sys2Proof.Machine
end

section
/-!
Chapters 5 and 7: CONFIGURE CABINET, ISSUE and the requests to the wave table keep both invariants (R81, R90, R127 to
R140).
-/

namespace Sys2Proof.Machine

-- The proofs are taken one after the other, which keeps few threads waiting for one another.
set_option Elab.async false

/-! ## Fields of a CREATE (R128) -/

/-- A wave that a CREATE makes is PLANNED. -/
theorem waveOf_planned {f : CreateFields} {v : Wave} (written : waveOf f = some v) : v.state = .planned := by
  unfold waveOf at written
  split at written
  · split at written
    · cases written
      rfl
    · simp at written
  · simp at written

theorem Part.numberHeld_iff (number : Byte) (p : Part) :
    p.numberHeld number = true ↔ ∃ x u, p.waves.get x = some u ∧ u.number = number := by
  unfold Part.numberHeld
  rw [List.any_eq_true]
  constructor
  · rintro ⟨slot, mem, held⟩
    obtain ⟨x, rfl⟩ := (Table.mem_items_iff _ _).mp mem
    cases stands : p.waves.get x with
    | none => simp [stands] at held
    | some u => exact ⟨x, u, stands, by simpa [stands] using held⟩
  · rintro ⟨x, u, stands, number⟩
    exact ⟨some u, (Table.mem_items_iff _ _).mpr ⟨x, stands⟩, by simpa using number⟩

theorem Part.listed_iff (cabinets : List (Fin 8)) (ovens : List (Fin 6)) (p : Part) :
    p.listed cabinets ovens = true ↔
      (∃ x, ∃ n ∈ cabinets, p.holdsCabinet x n) ∨ ∃ x, ∃ n ∈ ovens, p.holdsOven x n := by
  unfold Part.listed
  rw [List.any_eq_true]
  constructor
  · rintro ⟨slot, mem, held⟩
    obtain ⟨x, rfl⟩ := (Table.mem_items_iff _ _).mp mem
    cases stands : p.waves.get x with
    | none => simp [stands] at held
    | some u =>
      simp only [stands, Bool.and_eq_true, Bool.or_eq_true, List.any_eq_true, List.contains_iff_mem] at held
      obtain ⟨holds, ⟨n, own, asked⟩ | ⟨n, own, asked⟩⟩ := held
      · exact .inl ⟨x, n, asked, u, stands, holds, own⟩
      · exact .inr ⟨x, n, asked, u, stands, holds, own⟩
  · rintro (⟨x, n, asked, u, stands, holds, own⟩ | ⟨x, n, asked, u, stands, holds, own⟩)
    · refine ⟨some u, (Table.mem_items_iff _ _).mpr ⟨x, stands⟩, ?_⟩
      simp only [Bool.and_eq_true, Bool.or_eq_true, List.any_eq_true, List.contains_iff_mem]
      exact ⟨holds, .inl ⟨n, own, asked⟩⟩
    · refine ⟨some u, (Table.mem_items_iff _ _).mpr ⟨x, stands⟩, ?_⟩
      simp only [Bool.and_eq_true, Bool.or_eq_true, List.any_eq_true, List.contains_iff_mem]
      exact ⟨holds, .inr ⟨n, own, asked⟩⟩

/-- The lowest EMPTY slot is EMPTY. -/
theorem Part.lowestEmpty_empty {p : Part} {w : Fin 12} (lowest : p.lowestEmpty = some w) : p.waves.get w = none := by
  simpa using List.find?_some lowest

/-- What a slot and a wave number name (R127). -/
theorem Part.named_wave {p : Part} {slot number : Byte} {w : Fin 12} {v : Wave} (named : p.named slot number = .wave w v) :
    p.waves.get w = some v := by
  unfold Part.named at named
  split at named
  · cases named
  · split at named
    · cases named
    · split at named
      · cases named
      · next stands =>
        split at named
        · cases named
          exact stands
        · cases named

/-! ## The life of a wave -/

theorem PlatesSame.of_cabinets {f : Footprint} {p q : Part} (t : Touches f p q)
    (holdings : ∀ n, (q.cabinets.get n).holding = (p.cabinets.get n).holding) (stock : f.stock = false := by rfl)
    (dish : f.dish = false := by rfl) : PlatesSame p q :=
  ⟨t.stock stock, fun _ => by rw [t.dish dish], holdings⟩

/-- A release moves no plate. -/
theorem releasedCabinet_holding (c : Cabinet) : (releasedCabinet c).holding = c.holding := rfl

theorem Part.releaseNotices_plates (p : Part) (items : List (Fin 8)) :
    PlatesSame p (items.foldl (fun q n => q.releaseNotice n) p) := by
  have works := Works.foldl (f := modeFoot) (own := List.finRange 87) (fun q n => q.releaseNotice n)
    (fun q n => (Part.releaseNotice_works q n).mono rfl fun i _ => List.mem_finRange i) items p
  refine .of_cabinets works.moves.touches fun n => ?_
  rw [Part.releaseNotices_cabinets]
  split
  · exact releasedCabinet_holding _
  · rfl

theorem Part.closeWave_plates (p : Part) (w : Fin 12) (v : Wave) : PlatesSame p (p.closeWave w v) := by
  refine .of_cabinets (p.closeWave_works w v).moves.touches fun n => ?_
  rw [Part.closeWave_cabinets]
  split
  · exact releasedCabinet_holding _
  · rfl

/-- An AMEND changes nothing that a wave claims while it is open (R136). -/
theorem Wave.amended_claim (covers due lead : Nat) {v : Wave} (holds : v.holds = true) :
    (v.amended covers due lead).claim = v.claim := by
  have still : (v.amended covers due lead).holds = v.holds := by
    rw [holds]
    simp only [Wave.holds, Wave.amended, decide_eq_true_eq] at holds ⊢
    split
    · decide
    · simpa using holds
  simp only [Wave.claim, still]
  rfl

/-- A configuration leaves the batches of a cabinet and its wave (R81). -/
theorem Cabinet.configured_still {f : CabinetFields} {c after : Cabinet} (configured : c.configured f = some after) :
    after.batches = c.batches ∧ after.waveSlot = c.waveSlot := by
  unfold Cabinet.configured at configured
  split at configured
  · cases configured
  · split at configured
    · cases configured
      exact ⟨rfl, rfl⟩
    · cases configured

namespace HallKept

section Waves

variable {b p : Part} (h : HallKept b p)
include h

/-- A wave that holds its cabinets ends: they are released, and it keeps its number at most. -/
theorem ended {q : Part} {w : Fin 12} {v : Wave} {u : Option Wave} (stands : p.waves.get w = some v)
    (holds : v.holds = true) (plates : PlatesSame p q) (waves : q.waves = p.waves.set w u)
    (free : ∀ u', u = some u' → u'.holds = false ∧ u'.number = v.number)
    (cabinets : ∀ n, q.cabinets.get n =
      if n ∈ v.cabinets then releasedCabinet (p.cabinets.get n) else p.cabinets.get n) : HallKept b q := by
  refine h.trans ⟨fun kept => kept.same plates, fun apart => apart.released (w := w) (fun x other => ?_)
    (fun u' is => ?_) fun n => ?_⟩
  · rw [waves, Table.get_set_ne _ _ other]
  · rw [waves, Table.get_set_self] at is
    obtain ⟨none, number⟩ := free u' is
    exact ⟨none, v, stands, number.symm⟩
  · rw [Part.holdsCabinet_of stands, cabinets]
    by_cases listed : n ∈ v.cabinets
    · simp [holds, listed, releasedCabinet]
    · simp [listed]

/-- The wave closes (R139). -/
theorem closeWave {w : Fin 12} {v : Wave} (stands : p.waves.get w = some v) (holds : v.holds = true) :
    HallKept b (p.closeWave w v) :=
  h.ended stands holds (p.closeWave_plates w v) (p.closeWave_waves w v)
    (fun u is => by cases is; exact ⟨rfl, rfl⟩) (p.closeWave_cabinets w v)

/-- An issue notice counts, judges, and closes a wave whose covers are met (R138). -/
theorem issueNotice {w : Fin 12} {count : Nat} : HallKept b (p.issueNotice w count) := by
  unfold Part.issueNotice Part.onWave
  split
  · next v stands =>
    dsimp only
    split
    · next serving =>
      have same := (HallSame.refl p).setJudged (u := { v with issued := min 65535 (v.issued + count) }) stands rfl
      have judged := h.follows same
      split
      · next u is =>
        have claims := same.waves.claims w
        rw [is, stands, Option.map_some, Option.map_some, Option.some.injEq] at claims
        have holds : u.holds = v.holds := congrArg (fun c => c.2.2.2) claims
        refine either (judged.closeWave is ?_) judged
        rw [holds]
        simp [Wave.holds, serving]
      · exact judged
    · exact h
  · exact h

theorem createWave {w : Fin 12} {v : Wave} (holds : v.holds = true) (empty : p.waves.get w = none)
    (number : p.numberHeld v.number = false) (listed : p.listed v.cabinets v.ovens = false) :
    HallKept b (p.createWave w v) := by
  have cabinets := Part.holdNotices_cabinets (p.setWave w (some v)) w v.cabinets
  have waves := Part.holdNotices_waves (p.setWave w (some v)) w v.cabinets
  have works := Works.foldl (f := { cabinets := true }) (own := []) (fun q n => q.holdNotice w n)
    (fun q n => Part.holdNotice_works q [] w n) v.cabinets (p.setWave w (some v))
  have t := ((Part.setWave_works p [] w (some v)).widen.trans works.widen :
    Works { cabinets := true, waves := true } [] p _).moves.touches
  simp only [Part.setWave_cabinets] at cabinets
  rw [Part.setWave_waves] at waves
  have free := mt (Part.numberHeld_iff v.number p).mpr (by simp [number])
  have unlisted := mt (Part.listed_iff v.cabinets v.ovens p).mpr (by simp [listed])
  push Not at free unlisted
  unfold Part.createWave
  generalize v.cabinets.foldl (fun q n => q.holdNotice w n) (p.setWave w (some v)) = q at *
  refine (h.trans ⟨fun kept => kept.same (.of_cabinets t fun n => ?_), fun apart =>
    apart.created holds waves empty (fun x u stands => free x u stands) (fun x n mem => unlisted.1 x n mem)
      (fun x n mem => unlisted.2 x n mem) fun n => ?_⟩).follows (HallSame.refl q).judgeWave
  · rw [cabinets]
    split <;> rfl
  · rw [cabinets]
    split <;> rfl

theorem create {f : CreateFields} : HallKept b (Machine.create f p).1 := by
  unfold Machine.create
  split
  · exact h
  · next v written =>
    have planned := waveOf_planned written
    split
    · exact h
    · split
      · exact h
      · next number =>
        split
        · exact h
        · next listed =>
          split
          · exact h
          · next w lowest =>
            exact h.createWave (by simp [Wave.holds, planned]) (Part.lowestEmpty_empty lowest) (by simpa using number)
              (by simpa using listed)

theorem amend {slot number : Byte} {covers lead : Half} {due : Word} :
    HallKept b (Machine.amend slot number covers due lead p).1 := by
  unfold Machine.amend
  split
  · exact h
  · next w v named =>
    have taken (holds : v.holds = true) {returned : Bool} :
        HallKept b ((if returned then
          ((p.setWave w (some (v.amended covers.toNat due.toNat lead.toNat))).mark .wave w.val).ret (waveLateSlot w)
          else (p.setWave w (some (v.amended covers.toNat due.toNat lead.toNat))).mark .wave w.val).judgeWave w) := by
      have set := ((HallSame.refl p).setWave (Part.named_wave named)
        (Wave.amended_claim covers.toNat due.toNat lead.toNat holds)).mark (c := .wave) (i := w.val)
      exact h.follows (HallSame.either set.ret set).judgeWave
    refine eitherAnswer ?_ h
    split
    · next state => exact taken (by simp [Wave.holds, state])
    · next state => exact taken (by simp [Wave.holds, state])
    · next state => exact taken (by simp [Wave.holds, state])
    all_goals exact h

theorem release {slot number : Byte} : HallKept b (Machine.release slot number p).1 := by
  unfold Machine.release
  split
  · exact h
  · next w v named =>
    have taken (holds : v.holds = true) : HallKept b ((v.cabinets.foldl (fun q n => q.servingNotice n)
        (p.setWave w (some { v with state := .serving }))).judgeWave w) :=
      h.follows (((HallSame.refl p).setWave (Part.named_wave named) (by simpa [Wave.claim, Wave.holds] using holds)).foldl
        (fun _ _ k => k.evaluateLow) v.cabinets).judgeWave
    split
    · next state => exact taken (by simp [Wave.holds, state])
    · next state => exact taken (by simp [Wave.holds, state])
    all_goals exact h

theorem close {slot number : Byte} : HallKept b (Machine.close slot number p).1 := by
  unfold Machine.close
  split
  · exact h
  · next w v named =>
    have stands := Part.named_wave named
    split
    · next state => exact h.closeWave stands (by simp [Wave.holds, state])
    · next state => exact h.closeWave stands (by simp [Wave.holds, state])
    · next state => exact h.closeWave stands (by simp [Wave.holds, state])
    · next state => exact h.closeWave stands (by simp [Wave.holds, state])
    · next state => exact h.closeWave stands (by simp [Wave.holds, state])
    · exact h

theorem delete {slot number : Byte} : HallKept b (Machine.delete slot number p).1 := by
  unfold Machine.delete
  split
  · exact h
  · next w v named =>
    have stands := Part.named_wave named
    split
    · next state =>
      refine h.ended (u := none) stands (by simp [Wave.holds, state]) ?_ ?_ (fun u is => by cases is) fun n => ?_
      · exact (p.releaseNotices_plates v.cabinets).setWave
      · rw [Part.setWave_waves, Part.releaseNotices_waves]
      · rw [Part.setWave_cabinets, Part.releaseNotices_cabinets]
    · next state =>
      refine h.trans ⟨fun kept => kept.same (PlatesSame.refl p).setWave, fun apart => apart.released (w := w)
        (fun x other => ?_) (fun u is => ?_) fun n => ?_⟩
      · rw [Part.setWave_waves, Table.get_set_ne _ _ other]
      · simp at is
      · rw [Part.holdsCabinet_of stands]
        simp [Wave.holds, state]
    all_goals exact h

end Waves

section Cabinets

variable {b p : Part} (h : HallKept b p)
include h

/-- A new configuration; another kind or capacity is taken by a cabinet without plates alone (R81). -/
theorem configureCabinet {cabinet : Byte} {f : CabinetFields} : HallKept b (Machine.configureCabinet cabinet f p).1 := by
  unfold Machine.configureCabinet
  split
  · exact h
  · next n _ =>
    dsimp only
    split
    · exact h
    · next after configured =>
      have still := Cabinet.configured_still configured
      have noticed {q : Part} : HallSame q ((((q.mark .cabinet n.val).trimCabinetLoop n (p.cabinets.get n) after
          ).readinessNotice (p.cabinets.get n) after).evaluateLow n) := by
        have trimmed := (HallSame.refl q).mark (c := .cabinet) (i := n.val) |>.works
          (Part.trimCabinetLoop_works _ n (p.cabinets.get n) after)
        exact (HallSame.either trimmed trimmed.plateNotice).evaluateLow
      split
      · exact h
      · next fits =>
        refine eitherAnswer h (answered (h.moved ((WavesSame.refl p).setCabinet still.2) (fun kept => ?_) noticed))
        by_cases none : (p.cabinets.get n).batches = []
        · exact kept.refitted (Part.setCabinet_cabinets _ _ _) (Part.setCabinet_stock _ _ _)
            (Part.setCabinet_dish _ _ _) none (still.1.trans none)
        · refine kept.same ((PlatesSame.refl p).setCabinet ?_)
          simp only [not_and_or, not_not, not_or, none, false_or, ne_eq] at fits
          simp [Cabinet.holding, still.1, fits]

theorem issueFrom {n : Fin 8} {count : Nat} (held : count ≤ (p.cabinets.get n).held) : HallKept b (p.issueFrom n count) := by
  have moved : HallKept b ((p.takeFromCabinet n count).setStock (p.cabinets.get n).kind
      { p.stock.get (p.cabinets.get n).kind with
        issued := (p.stock.get (p.cabinets.get n).kind).issued + count }) := by
    refine h.takenOut ?_ (fun _ => ?_) (HallSame.refl _)
    · rfl
    · simp only [Stock.placed]
      omega
  unfold Part.issueFrom
  dsimp only
  split
  · exact (either moved.issueNotice moved).follows (HallSame.refl _).cabinetMoved
  · exact moved.follows (HallSame.refl _).cabinetMoved

theorem issue {cabinet : Byte} {count : Half} : HallKept b (Machine.issue cabinet count p).1 := by
  unfold Machine.issue
  split
  · exact h
  · exact eitherAnswer h (either h (h.issueFrom (Nat.min_le_right _ _)))

end Cabinets

end HallKept

end Sys2Proof.Machine
end

section
/-!
Chapter 6: what the dish tunnel does keeps both invariants: a rack takes its plates into the tunnel and out of it, and
nothing else there moves a plate (R92, R93, R101 to R121).
-/

namespace Sys2Proof.Machine

-- The proofs are taken one after the other, which keeps few threads waiting for one another.
set_option Elab.async false

/-! ## The plates on the racks (R87) -/

theorem Dish.plates_eq (kind : Fin 4) (d : Dish) : d.plates kind = (d.queue.map (Rack.plates kind)).sum := rfl

theorem Dish.plates_of_queue {d e : Dish} (queue : e.queue = d.queue) (kind : Fin 4) : e.plates kind = d.plates kind := by
  rw [Dish.plates, Dish.plates, queue]

theorem Dish.plates_cons {d : Dish} {r : Rack} {rest : List Rack} (queue : d.queue = r :: rest) (kind : Fin 4) :
    d.plates kind = r.plates kind + (rest.map (Rack.plates kind)).sum := by
  rw [Dish.plates_eq, queue, List.map_cons, List.sum_cons]

/-- What becomes of racks without their plates moving. -/
theorem Dish.plates_map {f : Rack → Rack} (plates : ∀ r, (f r).kind = r.kind ∧ (f r).count = r.count) (d : Dish)
    (kind : Fin 4) : ({ d with queue := d.queue.map f } : Dish).plates kind = d.plates kind := by
  have same (r : Rack) : (f r).plates kind = r.plates kind := by
    rw [Rack.plates, Rack.plates, (plates r).1, (plates r).2]
  simp only [Dish.plates_eq, List.map_map, Function.comp_def, same]

namespace HallSame

section Tunnel

variable {b p : Part} (h : HallSame b p)
include h

/-- The tunnel's record with the same plates on its racks. -/
theorem setDish {d : Dish} (plates : ∀ kind, d.plates kind = p.dish.plates kind) : HallSame b (p.setDish d) :=
  h.trans ⟨⟨Part.setDish_stock p d, fun kind => by rw [Part.setDish_dish, plates], fun _ => by rw [Part.setDish_cabinets]⟩,
    (WavesSame.refl p).setDish⟩

/-- The tunnel's record with the same racks. -/
theorem setDishQueue {d : Dish} (queue : d.queue = p.dish.queue := by rfl) : HallSame b (p.setDish d) :=
  h.setDish (Dish.plates_of_queue queue)

theorem setValve {isOpen : Bool} : HallSame b (p.setValve isOpen) := by
  unfold Part.setValve
  split
  · exact h
  · exact h.setDishQueue.works (Part.setHeater_works _ [] _ _)

theorem judgeGate : HallSame b p.judgeGate := h.setDishQueue

theorem judgeValve : HallSame b p.judgeValve := h.setValve

theorem dishLoopsOff : HallSame b p.dishLoopsOff := h.works (Part.dishLoopsOff_works p [])

theorem dishLoopsAuto : HallSame b p.dishLoopsAuto := h.works (Part.dishLoopsAuto_works p)

theorem rinseFailed {number : Half} : HallSame b (p.rinseFailed number) := h.raise.setDishQueue

/-! ### Holds (R107 to R109) -/

theorem stopTunnel {state : DishState} {reasons : HoldReasons} : HallSame b (p.stopTunnel state reasons) :=
  h.setDishQueue.setValve

theorem holdTunnel {join : HoldReasons → HoldReasons} : HallSame b (p.holdTunnel join) := by
  unfold Part.holdTunnel
  split
  · exact h.setDishQueue
  iterate 3 exact h.stopTunnel
  · exact h

theorem lineHold {join : HoldReasons → HoldReasons} : HallSame b (p.lineHold join) := by
  unfold Part.lineHold
  split
  iterate 2 exact h.holdTunnel
  all_goals exact h

theorem endHold {leave : HoldReasons → HoldReasons} : HallSame b (p.endHold leave) := by
  unfold Part.endHold
  split
  · exact either h (either h.setDishQueue.judgeGate.judgeValve h.setDishQueue)
  all_goals exact h

theorem dishDoor {isOpen : Bool} : HallSame b (p.dishDoor isOpen) := either h.lineHold h.endHold

theorem overloadChange {asserted : Bool} : HallSame b (p.overloadChange asserted) := by
  unfold Part.overloadChange Part.dishOverload
  split
  · exact h.raise.lineHold
  · exact h.ret.endHold

theorem ackReport {slot : Fin 87} : HallSame b (p.ackReport slot) :=
  either h.setDishQueue.judgeGate (either h.endHold h)

theorem tripTunnelExit : HallSame b p.tripTunnelExit :=
  either (either h.setDishQueue.dishLoopsAuto.setDishQueue.judgeGate.judgeValve h.setDishQueue.dishLoopsAuto) h

/-! ### Checks and samples (R104, R114, R115, R117) -/

theorem temperatureCheck : HallSame b p.temperatureCheck := h.setDishQueue.judgeGate

theorem judgeWashCold : HallSame b p.judgeWashCold := by
  unfold Part.judgeWashCold
  dsimp only
  split
  · exact either h.setDishQueue.ret h.setDishQueue
  · exact either (either h.setDishQueue.raise h.setDishQueue) h.setDishQueue

theorem sampleNotice {ch : Fin 23} {value : Int} : HallSame b (p.sampleNotice ch value) := by
  unfold Part.sampleNotice Part.washNotice Part.rinseNotice
  dsimp only
  split
  · exact either (h.setDish (Dish.plates_map (fun r => by split <;> exact ⟨rfl, rfl⟩) p.dish)) h
  · exact either (either (h.setDish (Dish.plates_map (fun r => by split <;> exact ⟨rfl, rfl⟩) p.dish)) h) h

theorem sampleChannel {ch : Fin 23} {raw : Half} : HallSame b (p.sampleChannel ch raw) := by
  have set {e : Entry} : HallSame b (p.setEntry ch e) := h.works (Part.setEntry_works p [] ch e)
  unfold Part.sampleChannel
  dsimp only
  split
  · exact either (either set.ret set).sampleNotice set
  · exact either set.raise set
  · exact either set.raise set

theorem scanVisit {raw : Half} : HallSame b (p.scanVisit raw) := by
  have turned (scan : Scanner) : Works { scan := true } [] p { p with scan } :=
    Works.ofTouches _ (by constructor <;> simp) rfl
  exact either (h.works (turned _)).sampleChannel (h.works (turned _))

/-! ### Requests (R100, R105 to R107, R112, R122) -/

theorem configureDish {f : DishFields} : HallSame b (Machine.configureDish f p).1 := by
  unfold Machine.configureDish
  split
  · exact h
  · split
    · exact h
    · exact (h.setDishQueue.mark).works (Part.trimDishLoops_works _ _ _)

theorem dishOn : HallSame b (Machine.dishOn p).1 := by
  unfold Machine.dishOn
  split
  · exact h
  · split
    · exact h.setDishQueue.dishLoopsAuto.judgeGate
    all_goals exact h

theorem runTunnel : HallSame b (Machine.runTunnel p).1 := by
  unfold Machine.runTunnel
  split
  · exact h
  · split
    · exact h.setDishQueue.judgeGate.judgeValve
    · exact h

theorem stop : HallSame b (Machine.stop p).1 := by
  unfold Machine.stop
  split
  · exact h.stopTunnel
  all_goals exact h

theorem declareRack {kind count : Byte} : HallSame b (Machine.declareRack kind count p).1 := by
  unfold Machine.declareRack
  split
  · exact h
  · split
    · exact h
    · split
      · exact h
      · exact h.setDishQueue

theorem takeRacks {maximum : Byte} : HallSame b (Machine.takeRacks maximum p).1 := by
  unfold Machine.takeRacks
  split
  · exact h
  · exact h.setDishQueue

theorem clearRingCount : HallSame b (Machine.clearRingCount p).1 := h.setDishQueue

end Tunnel

end HallSame

/-! ## Racks (R92, R93, R102, R113) -/

namespace HallKept

section Racks

variable {b p : Part} (h : HallKept b p)
include h

/-- A rack that has left the queue takes its plates out of the tunnel (R93, R102). -/
theorem rackLeft {r : Rack} {rest : List Rack} {d : Dish} {outcome : RackOutcome} {notice : Bool}
    (queue : p.dish.queue = r :: rest) (left : d.queue = rest) :
    HallKept b ((p.setDish d).rackExitMove r.kind r.count outcome notice) := by
  have plates (kind : Fin 4) : p.dish.plates kind = r.plates kind + d.plates kind := by
    rw [Dish.plates_cons queue, Dish.plates_eq, left]
  have same (none : ∀ kind, r.plates kind = 0) : HallKept b (p.setDish d) :=
    h.follows ((HallSame.refl p).setDish fun kind => by rw [plates, none, Nat.zero_add])
  unfold Part.rackExitMove
  split
  · next none => exact same fun kind => by simp [Rack.plates, none]
  · next k isKind =>
    split
    · next none => exact same fun kind => by simp [Rack.plates, none]
    · have stored : HallKept b ((p.setDish d).setStock k (((p.setDish d).stock.get k).afterExit outcome r.count)) := by
        rw [Part.setDish_stock]
        refine h.trans ⟨fun kept => ?_, fun apart => apart.same (WavesSame.refl p).setDish.setStock⟩
        have inside := kept.tunnel k
        rw [plates, Rack.plates, if_pos isKind] at inside
        refine kept.stocked (k := k) (s := (p.stock.get k).afterExit outcome r.count)
          (by simp) (by simp) (fun kind other => ?_) ?_ ?_ ?_
        · rw [Part.setStock_dish, Part.setDish_dish, plates, Rack.plates, isKind]
          simp [other.symm]
        · simp only [Stock.placed, Stock.afterExit]
          split <;> dsimp only <;> omega
        · have total := kept.total k
          simp only [Stock.afterExit]
          split <;> exact total
        · rw [Part.setStock_dish, Part.setDish_dish]
          simp only [Stock.afterExit]
          split <;> dsimp only <;> omega
      exact either (stored.follows (HallSame.refl _).plateNotice) stored

/-- The oldest rack removed (R102). -/
theorem removeOldest {outcome : RackOutcome} {notice : Bool} : HallKept b (p.removeOldest outcome notice) := by
  unfold Part.removeOldest
  split
  · exact h
  · next r rest queue =>
    have moved := h.rackLeft (outcome := outcome) (notice := notice) (d := ({ p.dish with queue := rest } : Dish).appendRing
      { r with outcome := some outcome, removal := some p.uptime }) queue (Dish.appendRing_queue _ _)
    exact (either (moved.follows (HallSame.refl _).rinseFailed) moved).follows (HallSame.refl _).judgeGate.judgeValve

theorem removeUnverified {notice : Bool} (n : Nat) : HallKept b (p.removeUnverified notice n) := by
  induction n generalizing p with
  | zero => exact h
  | succ n ih => exact ih h.removeOldest

theorem clearTunnel {notice : Bool} : HallKept b (p.clearTunnel notice) := h.removeUnverified _

/-- An encoder pulse (R101, R119). -/
theorem encoderPulse : HallKept b p.encoderPulse := by
  have travelled := h.same (q := { p with interlock := { p.interlock with travel := p.interlock.travel + 1 } })
  have advanced := travelled.follows ((HallSame.refl _).setDish
    (Dish.plates_map (f := Rack.advanced) (fun _ => ⟨rfl, rfl⟩) p.dish))
  refine HallKept.follows ?_ (HallSame.refl _).judgeValve
  unfold Part.checkLost
  split
  · exact advanced
  · exact either (advanced.removeOldest.follows (HallSame.refl _).raise.holdTunnel) advanced

/-- A rack that joins the queue takes its plates into the tunnel, no more than stand soiled (R92, R113). -/
theorem rackEntered {r : Rack} {d : Dish} (queue : d.queue = p.dish.queue)
    (soiled : ∀ k, r.kind = some k → r.count ≤ (p.stock.get k).soiled) (none : r.kind = none → r.count = 0) :
    HallKept b (((p.setDish d).rackEntryMove r.kind r.count).setDish { d with queue := d.queue ++ [r] }) := by
  have plates (kind : Fin 4) :
      ({ d with queue := d.queue ++ [r] } : Dish).plates kind = p.dish.plates kind + r.plates kind := by
    simp [Dish.plates_eq, queue]
  have same (empty : r.count = 0) : HallKept b ((p.setDish d).setDish { d with queue := d.queue ++ [r] }) := by
    refine h.follows (((HallSame.refl p).setDishQueue queue).setDish fun kind => ?_)
    rw [plates, Part.setDish_dish, Dish.plates_of_queue queue]
    simp [Rack.plates, empty]
  unfold Part.rackEntryMove
  split
  · next isNone => exact same (none isNone)
  · next k isKind =>
    have room := soiled k isKind
    split
    · next empty => exact same empty
    · have noticed (q : Part) := (Part.plateNotice_works q k).moves.touches
      refine h.trans ⟨fun kept => ?_, fun apart => ?_⟩
      · refine kept.stocked (k := k) (s := { p.stock.get k with
          soiled := (p.stock.get k).soiled - r.count, tunnel := (p.stock.get k).tunnel + r.count }) ?_ ?_
          (fun kind other => ?_) ?_ (kept.total k) ?_
        · rw [Part.setDish_stock, (noticed _).stock rfl, Part.setStock_stock, Part.setDish_stock]
        · rw [Part.setDish_cabinets, (noticed _).cabinets rfl, Part.setStock_cabinets, Part.setDish_cabinets]
        · rw [Part.setDish_dish, plates, Rack.plates, isKind]
          simp [other.symm]
        · simp only [Stock.placed]
          omega
        · rw [Part.setDish_dish, plates, Rack.plates, if_pos isKind, kept.tunnel]
      · exact apart.same (((WavesSame.refl p).setDish.setStock.trans (HallSame.refl _).plateNotice.waves).setDish)

theorem trackRack : HallKept b p.trackRack := by
  unfold Part.trackRack
  dsimp only
  refine HallKept.follows ?_ (HallSame.refl _).judgeGate
  have moved (q : Part) (kind : Option (Fin 4)) (count : Nat) : (q.rackEntryMove kind count).dish = q.dish :=
    (Part.rackEntryMove_works q kind count).moves.touches.dish rfl
  rw [moved, Part.setDish_dish]
  refine h.rackEntered (r := { number := _, kind := _, count := _, entry := _, interval := _ }) (d := { p.dish with
    rackCounter := _, lastEntry := _, declared := _ }) rfl (fun k isKind => ?_) fun isNone => ?_
  · dsimp only at isKind
    rw [isKind]
    exact Nat.min_le_right _ _
  · dsimp only at isNone
    rw [isNone]
    rfl

theorem rackEntryEdge : HallKept b p.rackEntryEdge := either h (either h h.trackRack)

theorem rackExitEdge : HallKept b p.rackExitEdge := by
  have raised (param : Half) : HallKept b (p.raise exitUnmatchedSlot param) := h.follows (HallSame.refl p).raise
  unfold Part.rackExitEdge
  split
  · exact h
  · split
    · exact raised _
    · exact either h.removeOldest (raised _)

/-! ### OFF, the trip state and a warm restart (R110, R121, R181) -/

theorem tripTunnel : HallKept b p.tripTunnel :=
  either h (h.clearTunnel.follows (HallSame.refl _).stopTunnel.dishLoopsOff)

theorem switchOff : HallKept b p.switchOff := by
  have off := h.clearTunnel (notice := true) |>.follows
    ((HallSame.refl _).stopTunnel (state := .off) (reasons := {})).dishLoopsOff
  have warm := (HallSame.refl ((((p.clearTunnel true).stopTunnel .off {}).dishLoopsOff))).setDishQueue
    (d := { (((p.clearTunnel true).stopTunnel .off {}).dishLoopsOff).dish with washCold := false })
  exact either (off.follows warm.ret) (off.follows warm)

theorem dishOff : HallKept b (Machine.dishOff p).1 := by
  unfold Machine.dishOff
  split
  · exact h
  all_goals exact h.switchOff

theorem tripOvens : HallKept b p.tripOvens :=
  h.foldl (fun _ _ k => either k (k.follows (HallSame.refl _).endRun)) _

theorem enterTrip : HallKept b p.enterTrip := by
  have tripped := h.same (q := { p with interlock := { p.interlock with trip := true, driveEnable := false } })
  exact (tripped.works (Part.cutGrants_works _ [])).tripOvens.tripTunnel

theorem leaveTrip : HallKept b p.leaveTrip := by
  have left := h.same (q := { p with interlock := { p.interlock with trip := false, driveEnable := true } })
  exact left.follows (HallSame.refl _).ret.tripTunnelExit

end Racks

end HallKept

end Sys2Proof.Machine
end

section
/-!
Chapters 5 and 7: every request keeps both invariants.
-/

namespace Sys2Proof.Machine

-- The proofs are taken one after the other, which keeps few threads waiting for one another.
set_option Elab.async false

namespace HallKept

section Requests

variable {b p : Part} (h : HallKept b p)
include h

/-! ### Channels, loops and the allocator -/

theorem onPager {f : Pager → Pager} : HallKept b (p.onPager f) := h.same

theorem mark {c : MarkClass} {i : Nat} : HallKept b (p.mark c i) := h.same

theorem clearFresh {ch : Fin 23} : HallKept b (p.clearFresh ch) := h.same

theorem readChannel {channel : Byte} : HallKept b (Machine.readChannel channel p).1 := by
  unfold Machine.readChannel
  split
  · exact h
  · exact h.clearFresh

theorem readChannels {first count : Byte} : HallKept b (Machine.readChannels first count p).1 :=
  eitherAnswer h (h.foldl (fun _ _ k => k.clearFresh) _)

theorem configureChannel {channel enable : Byte} {gain offset : Half} :
    HallKept b (Machine.configureChannel channel gain offset enable p).1 := by
  have set {ch : Fin 23} {e : Entry} : HallKept b (p.setEntry ch e) := h.works (Part.setEntry_works p [] ch e)
  unfold Machine.configureChannel
  split
  · exact eitherAnswer h (either (set.mark.works (Part.ret_works _ _)) set.mark)
  · exact h

theorem setLoop {n : Fin 16} {l : Loop} : HallKept b (p.setLoop n l) := h.works (Part.setLoop_works p [] n l)

theorem setLoopMode {loop mode : Byte} : HallKept b (Machine.setLoopMode loop mode p).1 := by
  unfold Machine.setLoopMode
  split
  · exact h
  · dsimp only
    split
    · split
      · exact h
      · exact h.setLoop
      all_goals exact h
    · split
      · split
        · exact h
        · exact h.setLoop
        all_goals exact h
      · exact h

theorem setManualOutput {loop : Byte} {output ramp : Half} :
    HallKept b (Machine.setManualOutput loop output ramp p).1 := by
  unfold Machine.setManualOutput
  split
  · exact h
  · dsimp only
    split
    · split
      · exact h.setLoop.mark
      all_goals exact h
    · exact h

theorem setLoopSetpoint {loop : Byte} {setpoint : Half} : HallKept b (Machine.setLoopSetpoint loop setpoint p).1 := by
  unfold Machine.setLoopSetpoint
  split
  · exact h
  · exact h.works (Part.requestSetpoint_works p [] _ _)

theorem configureLoop {loop : Byte} {f : LoopFields} : HallKept b (Machine.configureLoop loop f p).1 := by
  unfold Machine.configureLoop
  split
  · exact h.setLoop.mark
  · exact h

theorem configureHeater {heater : Byte} {rated : Half} : HallKept b (Machine.configureHeater heater rated p).1 := by
  rcases configureHeater_cases heater rated p with same | ⟨n, taken⟩
  · rwa [same]
  · rw [taken]
    exact h.works (Part.heaterRated_works p n _)

theorem configureFeeder {limit reduced : Word} {starveTime : Half} :
    HallKept b (Machine.configureFeeder limit reduced starveTime p).1 := by
  rcases configureFeeder_cases limit reduced starveTime p with same | taken
  · rwa [same]
  · rw [taken]
    exact h.same

/-! ### Ovens -/

theorem storeProgram {program stepCount : Byte} {hold band : Half} {steps : List WireStep} :
    HallKept b (Machine.storeProgram program stepCount hold band steps p).1 := by
  unfold Machine.storeProgram
  split
  · exact eitherAnswer h h.same
  · exact h

theorem startProgram {oven program : Byte} : HallKept b (Machine.startProgram oven program p).1 := by
  rcases startProgram_cases oven program p with same | ⟨n, g, first, -, taken⟩
  · rwa [same]
  · rw [taken]
    exact h.follows (HallSame.refl p).startOven

theorem foodLoaded {oven : Byte} : HallKept b (Machine.foodLoaded oven p).1 := by
  rcases foodLoaded_cases oven p with same | ⟨n, -, taken⟩
  · rwa [same]
  · rw [taken]
    exact h.follows (HallSame.refl p).setOven.ovenChanged

theorem unload {oven : Byte} : HallKept b (Machine.unload oven p).1 := by
  rcases unload_cases oven p with same | ⟨n, askOff, -, taken⟩
  · rwa [same]
  · rw [taken]
    exact h.follows (HallSame.refl p).endRun

theorem abort {oven : Byte} : HallKept b (Machine.abort oven p).1 := by
  rcases abort_cases oven p with same | ⟨n, taken⟩
  · rwa [same]
  · rw [taken]
    exact h.follows (HallSame.refl p).endRun

/-! ### Conditions, pages and the trip state -/

theorem acknowledge {slot count : Byte} : HallKept b (Machine.acknowledge slot count p).1 := by
  unfold Machine.acknowledge
  split
  · exact h
  · next i _ =>
    have acked : HallKept b
        (({ p with desk := p.desk.setSlot i (p.desk.conds.get i).acknowledged } : Part).cancelNotice (.slot i)) :=
      h.same
    exact eitherAnswer h (eitherAnswer h (acked.follows (HallSame.refl _).ackReport))

theorem setPager {entry groups duty : Byte} {address : Half} :
    HallKept b (Machine.setPager entry address groups duty p).1 := by
  unfold Machine.setPager
  split
  · exact eitherAnswer h (eitherAnswer h h.onPager)
  · exact h

theorem clearPager {entry : Byte} : HallKept b (Machine.clearPager entry p).1 := by
  unfold Machine.clearPager
  split
  · exact h
  · exact eitherAnswer h h.onPager

theorem setGroup {group escalation limit : Byte} {timeout : Half} :
    HallKept b (Machine.setGroup group escalation limit timeout p).1 := by
  unfold Machine.setGroup
  split
  · exact h
  · split
    · exact h
    · exact eitherAnswer h.onPager h

theorem setRoute {route enabled group priority code : Byte} :
    HallKept b (Machine.setRoute route enabled group priority code p).1 := by
  unfold Machine.setRoute
  split
  · exact h.onPager
  · exact h

theorem page {hostTag group priority code : Byte} {param : Half} :
    HallKept b (Machine.page hostTag group priority code param p).1 := by
  unfold Machine.page
  split
  · exact eitherAnswer h h.same
  · exact h

theorem cancelPage {id : Half} : HallKept b (Machine.cancelPage id p).1 := by
  unfold Machine.cancelPage
  split
  · exact h
  · exact answered h.same

theorem configureRadio {backoff : Half} : HallKept b (Machine.configureRadio backoff p).1 := eitherAnswer h.onPager h

theorem takeOutcomes {maximum : Byte} : HallKept b (Machine.takeOutcomes maximum p).1 :=
  eitherAnswer h (either h.onPager h.onPager.mark)

theorem clearTrip : HallKept b (Machine.clearTrip p).1 := by
  rcases clearTrip_cases p with same | ⟨-, taken⟩
  · rwa [same]
  · rw [taken]
    exact h.leaveTrip

/-! ### A warm restart (R99, R126, R143) -/

/-- The racks' plates go into soiled, and no wave and no hold is left. -/
theorem restarted : HallKept b p.restarted := by
  refine h.trans ⟨fun kept => ?_, fun _ => ?_⟩
  · have holdings (n : Fin 8) : (p.restarted.cabinets.get n).holding = (p.cabinets.get n).holding := by
      rw [p.restarted_cabinet]
      rfl
    have racks (kind : Fin 4) : p.restarted.dish.plates kind = 0 := by
      obtain ⟨ring, overwrites, dish, -⟩ := p.restarted_dish
      rw [dish]
      rfl
    have stock := p.restarted_stock
    generalize p.restarted = q at *
    have cabinets := kept.same (q := { p with cabinets := q.cabinets }) ⟨rfl, fun _ => rfl, holdings⟩
    refine ⟨fun kind => ?_, fun kind => ?_, fun kind => ?_, cabinets.capacity, cabinets.batches, cabinets.nonempty⟩
    · have sum := kept.sum kind
      have tunnel := kept.tunnel kind
      rw [stock, Part.heldOfKind_congr holdings]
      simp only [Stock.soil]
      omega
    · rw [stock, racks]
      simp [Stock.soil, kept.tunnel]
    · rw [stock]
      exact kept.total kind
  · have empty := p.restarted_wave
    refine ⟨fun w x v u is => by simp [empty] at is, fun w x n held => ?_, fun w x n held => ?_, fun w n => ?_⟩
    · obtain ⟨v, is, -⟩ := held
      simp [empty] at is
    · obtain ⟨v, is, -⟩ := held
      simp [empty] at is
    · rw [p.restarted_cabinet]
      simp [Part.holdsCabinet, empty]

/-! ### Every request -/

theorem performRequest {i : Instr} : HallKept b (Machine.performRequest i p).1 := by
  have same := HallSame.refl p
  cases i
  case restart tag =>
    rw [performRequest_restart]
    exact h.restarted
  case readChannel => exact h.readChannel
  case readChannels => exact h.readChannels
  case configureChannel => exact h.configureChannel
  case setLoopMode => exact h.setLoopMode
  case setManualOutput => exact h.setManualOutput
  case setLoopSetpoint => exact h.setLoopSetpoint
  case configureLoop => exact h.configureLoop
  case configureHeater => exact h.configureHeater
  case configureFeeder => exact h.configureFeeder
  case storeProgram => exact h.storeProgram
  case startProgram => exact h.startProgram
  case foodLoaded => exact h.foodLoaded
  case unload => exact h.unload
  case abort => exact h.abort
  case configureCabinet => exact h.configureCabinet
  case setCabinetMode => exact h.setCabinetMode
  case stockAdd => exact h.stockAdd
  case writeOff => exact h.writeOff
  case load => exact h.load
  case issue => exact h.issue
  case unloadPlates => exact h.unloadPlates
  case returnPlates => exact h.returnPlates
  case configureDish => exact h.follows same.configureDish
  case dishOn => exact h.follows same.dishOn
  case run => exact h.follows same.runTunnel
  case stop => exact h.follows same.stop
  case dishOff => exact h.dishOff
  case declareRack => exact h.follows same.declareRack
  case takeRacks => exact h.follows same.takeRacks
  case clearRingCount => exact h.follows same.clearRingCount
  case create => exact h.create
  case amend => exact h.amend
  case release => exact h.release
  case close => exact h.close
  case delete => exact h.delete
  case acknowledge => exact h.acknowledge
  case setPager => exact h.setPager
  case clearPager => exact h.clearPager
  case setGroup => exact h.setGroup
  case setRoute => exact h.setRoute
  case page => exact h.page
  case cancelPage => exact h.cancelPage
  case configureRadio => exact h.configureRadio
  case takeOutcomes => exact h.takeOutcomes
  case clearTrip => exact h.clearTrip
  case poll => exact h.same
  -- the reads, and the events, which are no requests
  all_goals simpa [Machine.performRequest, readFeeder, readDish, readTunnel, readWaves, readPending, readPages,
    readRadio, readInterlocks] using h

end Requests

end HallKept

end Sys2Proof.Machine
end

section
/-!
Chapters 5 and 7: every step keeps the plates counted and the waves apart (R83, R84, R87, R127, R128).
-/

namespace Sys2Proof.Machine

-- The proofs are taken one after the other, which keeps few threads waiting for one another.
set_option Elab.async false

namespace HallKept

section Commands

variable {b p : Part} (h : HallKept b p)
include h

/-! ### Frames -/

theorem performFrame (f : Frame) : HallKept b (Machine.performFrame f p).1 := by
  unfold Machine.performFrame
  split
  · exact h
  · exact h
  · exact h.performRequest

theorem takeBuffer (buffer : Buffer) : HallKept b (p.takeBuffer buffer) := by
  have taken := performFrame
    (h.same (q := p.onLink fun k => { k with buffers := takeOldestFrame k.buffers })) buffer.frame
  exact taken.same (q := Part.reply _ _ _ _ _)

theorem takeWaiting (most : Nat) : HallKept b (p.takeWaiting most) := by
  induction most generalizing p with
  | zero => exact h
  | succ most ih =>
    unfold Part.takeWaiting
    split
    · exact h
    · exact ih (h.takeBuffer _)

theorem frameComplete (f : Frame) : HallKept b (p.frameComplete f) := by
  unfold Part.frameComplete
  split
  · exact (h.same (q := p.onLink _)).takeWaiting 2
  · exact h

theorem controlByte (late : Bool) (byte : Byte) : HallKept b (p.controlByte late byte) := by
  have received := h.same (q := p.onLink fun k => { k with rx := (p.desk.link.rx.byte late byte).1 })
  unfold Part.controlByte
  dsimp only
  split
  · exact received.frameComplete _
  · exact received

theorem replySent : HallKept b p.replySent := by
  unfold Part.replySent
  split
  · exact (h.same (q := p.onLink _)).takeWaiting 2
  · exact h

/-! ### Lines -/

theorem setLine {line : Line} {l : LineState} : HallKept b (p.setLine line l) := h.works (Part.setLine_works p [] line l)

theorem handOn {line : Line} {asserted : Bool} : HallKept b (p.handOn line asserted) := by
  have same := HallSame.refl p
  unfold Part.handOn
  split
  · have raised := h.follows (same.raise (slot := hoodTripSlot) (param := 0))
    split
    · exact either raised raised.enterTrip
    · exact h
  · exact h.follows same.ovenDoor
  · exact h.follows same.dishDoor
  · exact h.follows same.overloadChange
  · exact h.works (Part.reduceChange_works p [])
  · exact either h.rackEntryEdge h
  · exact either h.rackExitEdge h

theorem filterExpiry {line : Line} : HallKept b (p.filterExpiry line) :=
  either (either h.setLine h.setLine.handOn) h

end Commands

/-! ### Commands -/

/-- The part as an event leaves it, before what became ready is handed to the transmitter. -/
theorem exec_event {c : Instr} (isEvent : encodeRequest c = none) (notOn : c ≠ .powerOn) (s : State) :
    ∃ after, exec c s = .next (s.event after) ∧ HallKept s.part after := by
  have start := HallKept.refl s.part
  have same := HallSame.refl s.part
  have desk (f : Word → Desk → Desk) : HallKept s.part (s.part.onDesk f) := start.same
  have link (f : Link → Link) : HallKept s.part (s.part.onLink f) := start.same
  cases c
  case powerOn => exact absurd rfl notOn
  case controlFrameComplete kind tag payload => exact ⟨_, rfl, (link _).frameComplete _⟩
  case replySent => exact ⟨_, rfl, start.replySent⟩
  case scanVisit raw => exact ⟨_, rfl, start.follows same.scanVisit⟩
  case loopCycle n => exact ⟨_, rfl, start.works (Part.loopCycle_works _ n)⟩
  case allocationRound => exact ⟨_, rfl, start.works (Part.allocationRound_works _)⟩
  case heaterBurstStep => exact ⟨_, rfl, start.same⟩
  case ovenTimingTick n => exact ⟨_, rfl, start.follows same.ovenTick⟩
  case warmTick n => exact ⟨_, rfl, start.warmTick⟩
  case temperatureCheck => exact ⟨_, rfl, start.follows same.temperatureCheck⟩
  case washColdJudgement => exact ⟨_, rfl, start.follows same.judgeWashCold⟩
  case encoderPulse => exact ⟨_, rfl, start.encoderPulse⟩
  case countdownTick w => exact ⟨_, rfl, start.follows same.countdownTick⟩
  case accepted tag id => exact ⟨_, rfl, desk _⟩
  case backoff tag id => exact ⟨_, rfl, desk _⟩
  case backoffEnd => exact ⟨_, rfl, desk _⟩
  case silenceTimeout => exact ⟨_, rfl, desk _⟩
  case statusTimer => exact ⟨_, rfl, desk _⟩
  case statusReply tag => exact ⟨_, rfl, desk _⟩
  case answerAccept address id => exact ⟨_, rfl, desk _⟩
  case answerDecline address id => exact ⟨_, rfl, desk _⟩
  case pageDeadline id => exact ⟨_, rfl, desk _⟩
  case rawLineChange line asserted => exact ⟨_, rfl, start.setLine⟩
  case filterTimerExpiry line => exact ⟨_, rfl, start.filterExpiry⟩
  case controlLinkByte late byte => exact ⟨_, rfl, start.controlByte late byte⟩
  case pagerLinkByte late byte => exact ⟨_, rfl, desk _⟩
  case attentionSent => exact ⟨_, rfl, link _⟩
  case uptimeSecond => exact ⟨_, rfl, start.same⟩
  -- the requests
  all_goals cases isEvent

theorem exec {c : Instr} {s t : State} (isNext : Machine.exec c s = .next t) : HallKept s.part t.part := by
  cases isRequest : encodeRequest c with
  | some f =>
    rw [exec_of_encodeRequest isRequest] at isNext
    cases isNext
    exact (performRequest (HallKept.refl s.part)).same
  | none =>
    by_cases on : c = .powerOn
    · subst on
      cases isNext
      have on := s.part.poweredOn_atPowerOn
      exact ⟨fun _ => on.platesKept, fun _ => on.wavesApart⟩
    · obtain ⟨after, exec_eq, kept⟩ := exec_event isRequest on s
      rw [exec_eq] at isNext
      cases isNext
      exact kept.same

theorem step {s t : State} (isNext : Machine.step s = .next t) : HallKept s.part t.part := by
  unfold Machine.step at isNext
  split at isNext
  · cases isNext
    exact .refl _
  · next rest _ => exact exec (s := { s with pending := rest }) isNext

end HallKept

/-- Settles O9: each move of plates keeps the three counts, and no other work reads or writes them. -/
theorem stepsKeepThePlates : Obligations.StepsKeepThePlates :=
  fun _ kept _ isNext => (HallKept.step isNext).plates kept

/-- Settles O12: a CREATE checks what the waves hold, a close or a delete lets go of what its own wave held, and no
judgement changes what a wave claims. -/
theorem stepsKeepWavesApart : Obligations.StepsKeepWavesApart :=
  fun _ apart _ isNext => (HallKept.step isNext).waves apart

end Sys2Proof.Machine
end

section
/-!
Chapter 5: what a move of plates comes to beside its records: the waves of the kind judged, and PLATES_LOW evaluated
where a cabinet's batches change (R94, R95, R141); and what the seconds count (R85, R86).
-/

namespace Sys2Proof.Machine

-- The proofs are taken one after the other, which keeps few threads waiting for one another.
set_option Elab.async false

/-! ## A store, then its notices (R94, R95) -/

/-- A move of plates, by the waves that its notices concern; `st` and `cab` say whether the stock and the cabinets
change. -/
structure PlatesMoved (concerns : Wave → Prop) (st cab : Bool) (p q : Part) : Prop where
  works : Works { noticeFoot with stock := st, cabinets := cab } waveSlots p q
  table : NoticedTable p q
  judged : wavesJudged concerns (ofPart p) (ofPart q)

namespace PlatesMoved

variable {concerns concerns' : Wave → Prop} {st cab : Bool} {p p' q' : Part}

/-- Waves told by another predicate that says the same of each. -/
theorem congr {q : Part} (h : PlatesMoved concerns st cab p q) (same : ∀ v, concerns' v ↔ concerns v) :
    PlatesMoved concerns' st cab p q := by
  have eq : concerns' = concerns := funext fun v => propext (same v)
  rwa [eq]

section Noticed

variable (stored : Works { stock := st, cabinets := cab } [] p p') (noticed : PartNoticed concerns p' q')
include stored noticed

/-- Work after the notices that sends pages by no other route than one of its own. -/
theorem followed {own : Fin 16} {r : Part} (notReady : own ≠ 14)
    (after : Works deskFoot [] q' r)
    (quiet : q'.desk.pager.port ≠ .idle → (q'.desk.pager.routes.get own).enabled = false →
      r.desk.pager = q'.desk.pager) : PlatesMoved concerns st cab p r := by
  have pager : p'.desk.pager = p.desk.pager := stored.moves.touches.pager rfl
  have time : p'.uptime = p.uptime := stored.moves.touches.uptime rfl
  refine ⟨?_, noticed.between_table (stored.moves.touches.waves rfl) (after.moves.touches.waves rfl),
    noticed.noticedAt (.of_works stored) time (.of_works after) (.of_works after) (fun _ => Iff.rfl), fun busy off => ?_⟩
  · refine ((stored.mono ?_ (List.nil_subset _)).trans (noticed.works.widen ?_)).trans
      (after.mono ?_ (List.nil_subset _))
    all_goals cases st <;> cases cab <;> rfl
  · have busy' : p'.desk.pager.port ≠ .idle := pager ▸ busy
    have off' (k : Fin 16) (other : k ≠ 14) : (p'.desk.pager.routes.get k).enabled = false := pager ▸ off k other
    have sent := noticed.readyTriggers (.of_works stored) time (.of_works after) busy' (off' 7 (by decide))
      (off' 8 (by decide))
    have last : r.desk.pager = q'.desk.pager :=
      quiet (noticed.busy busy' (off' 7 (by decide)) (off' 8 (by decide)))
        (by rw [noticed.works.desk.routes]; exact off' own notReady)
    rw [pager, ← last] at sent
    exact sent

/-- The notices alone. -/
theorem noticedOnly : PlatesMoved concerns st cab p q' :=
  followed stored noticed (own := 0) (by decide) (Works.refl _ _ _) fun _ _ => rfl

/-- The notices, then PLATES_LOW for a cabinet. -/
theorem lowToo (n : Fin 8) : PlatesMoved concerns st cab p (q'.evaluateLow n) :=
  followed stored noticed (own := 15) (by decide) (Part.evaluateLow_works _ _ n)
    (q'.evaluateLow_quiet n)

/-- PLATES_LOW reads the cabinet as the store left it, and the waves that served before. -/
theorem low (n : Fin 8) : lowEvaluated n (ofPart p) (ofPart (q'.evaluateLow n)) := by
  have after := Part.evaluateLow_works q' [] n
  have pages := q'.evaluateLow_pages n
  generalize q'.evaluateLow n = r at *
  have pager : p'.desk.pager = p.desk.pager := stored.moves.touches.pager rfl
  have waves : p'.waves = p.waves := stored.moves.touches.waves rfl
  have cabinets : r.cabinets = q'.cabinets := after.moves.touches.cabinets rfl
  have time : q'.uptime = p.uptime := (noticed.works.moves.touches.uptime rfl).trans (stored.moves.touches.uptime rfl)
  intro busy off
  have busy' : p'.desk.pager.port ≠ .idle := pager ▸ busy
  have off' (k : Fin 16) (other : k ≠ 15) : (p'.desk.pager.routes.get k).enabled = false := pager ▸ off k other
  have silent : q'.desk.pager = p.desk.pager :=
    (noticed.silent busy' (off' 7 (by decide)) (off' 8 (by decide)) (off' 14 (by decide))).trans pager
  have serves (w : Fin 12) : (∃ v, q'.waves.get w = some v ∧ v.state = .serving) ↔
      ∃ v, p.waves.get w = some v ∧ v.state = .serving := by
    rw [noticed.serving w, waves]
  have due : q'.LowDue n ↔ (r.cabinets.get n).ready < (r.cabinets.get n).lowMark ∧
      ∃ w, (r.cabinets.get n).waveSlot = some w ∧ ∃ v, p.waves.get w = some v ∧ v.state = .serving := by
    simp only [Part.LowDue, serves, cabinets]
  have sent := pages (silent.symm ▸ busy)
  rw [due, silent, time, ← cabinets] at sent
  exact sent

end Noticed

/-- No move. -/
theorem none (never : ∀ v, ¬ concerns v) : PlatesMoved concerns st cab p p :=
  noticedOnly (Works.refl _ _ _) (.none never)

section Command

variable {s : State} {q : Part} (h : PlatesMoved concerns st cab s.part q)
include h

theorem answered (kind tag : Byte) (a : Answer) :
    Answered { noticeFoot with stock := st, cabinets := cab } kind tag a.status a.pieces s (s.answer kind tag (q, a)) ∧
      Noticed [] s (s.answer kind tag (q, a)) ∧ wavesJudged concerns s (s.answer kind tag (q, a)) :=
  ⟨h.works.answered_part kind tag a, noticed_answer h.table h.works, wavesJudged_answer h.judged⟩

theorem happened : Happened { noticeFoot with stock := st, cabinets := cab } s (s.event q) ∧
    Noticed [] s (s.event q) ∧ wavesJudged concerns s (s.event q) :=
  ⟨h.works.happened, noticed_event h.table h.works, wavesJudged_event h.judged⟩

end Command

end PlatesMoved

/-- A notice leaves the stock and the cabinets. -/
theorem Part.plateNotice_records (p : Part) (kind : Fin 4) :
    (p.plateNotice kind).stock = p.stock ∧ (p.plateNotice kind).cabinets = p.cabinets :=
  have t := (p.plateNotice_works kind).moves.touches
  ⟨t.stock rfl, t.cabinets rfl⟩

/-- So do the notices after a move from or to a cabinet. -/
theorem Part.cabinetMoved_records (p : Part) (n : Fin 8) :
    (p.cabinetMoved n).stock = p.stock ∧ (p.cabinetMoved n).cabinets = p.cabinets :=
  have t := (p.cabinetMoved_works n).moves.touches
  ⟨t.stock rfl, t.cabinets rfl⟩

/-! ## The warm tick (R85, R86) -/

theorem Part.readsAtLeast_iff (p : Part) (channel : Fin 23) (floor : Int) :
    p.readsAtLeast channel floor = true ↔ ∃ value, p.reading channel = some value ∧ floor ≤ value := by
  unfold Part.readsAtLeast
  cases p.reading channel <;> simp

section Warm

variable (p : Part) (n : Fin 8)

/-- The cabinet's record with a second more on every dwell. -/
def Part.dwelt : Cabinet := { p.cabinets.get n with batches := (p.cabinets.get n).batches.map Batch.dwelt }

theorem Part.warmTick_cold (cold : (p.cabinets.get n).batches = [] ∨
    ¬ p.readsAtLeast (cabinetChannel n) (p.cabinets.get n).readyTemp = true) : p.warmTick n = p := by
  unfold Part.warmTick
  rw [if_neg (by rwa [not_and_or, not_not])]

theorem Part.warmTick_warm (holds : (p.cabinets.get n).batches ≠ [])
    (warm : p.readsAtLeast (cabinetChannel n) (p.cabinets.get n).readyTemp = true) :
    p.warmTick n =
      if (p.dwelt n).ready = (p.cabinets.get n).ready then p.setCabinet n (p.dwelt n)
      else ((p.setCabinet n (p.dwelt n)).plateNotice (p.cabinets.get n).kind).evaluateLow n := by
  unfold Part.warmTick
  rw [if_pos ⟨holds, warm⟩]
  rfl

variable (holds : (p.cabinets.get n).batches ≠ [])
  (warm : p.readsAtLeast (cabinetChannel n) (p.cabinets.get n).readyTemp = true)
include holds warm

theorem Part.warmTick_cabinets : (p.warmTick n).cabinets = p.cabinets.set n (p.dwelt n) := by
  rw [p.warmTick_warm n holds warm]
  split
  · exact Part.setCabinet_cabinets _ _ _
  · rw [(Part.evaluateLow_works _ [] n).moves.touches.cabinets rfl, (Part.plateNotice_records _ _).2,
      Part.setCabinet_cabinets]

/-- A tick that changes the ready count has its waves judged. -/
theorem Part.warmTick_moved :
    PlatesMoved (fun v => (p.dwelt n).ready ≠ (p.cabinets.get n).ready ∧ ofKind (p.cabinets.get n).kind v) false true p
      (p.warmTick n) := by
  have stored : Works { stock := false, cabinets := true } [] p (p.setCabinet n (p.dwelt n)) :=
    Part.setCabinet_works _ _ _ _
  rw [p.warmTick_warm n holds warm]
  split
  · next same => exact .noticedOnly stored (.none fun v concerned => concerned.1 same)
  · next changed =>
    exact (PlatesMoved.lowToo stored (Part.plateNotice_noticed _ _) n).congr fun v => and_iff_right changed

theorem Part.warmTick_low (changed : (p.dwelt n).ready ≠ (p.cabinets.get n).ready) :
    lowEvaluated n (ofPart p) (ofPart (p.warmTick n)) := by
  have stored : Works { stock := false, cabinets := true } [] p (p.setCabinet n (p.dwelt n)) :=
    Part.setCabinet_works _ _ _ _
  rw [p.warmTick_warm n holds warm, if_neg changed]
  exact PlatesMoved.low stored (Part.plateNotice_noticed _ _) n

theorem Part.warmTick_quiet (same : (p.dwelt n).ready = (p.cabinets.get n).ready) :
    (p.warmTick n).desk.pager = p.desk.pager := by
  rw [p.warmTick_warm n holds warm, if_pos same, Part.setCabinet_pager]

end Warm

/-- Settles O33: a tick that leaves the ready count sends nothing; one that changes it has its notices sent. -/
theorem secondsAreCounted : Obligations.SecondsAreCounted := by
  refine ⟨?ticks, fun s => ⟨_, rfl, rfl, rfl, ?_, fun more => ?_, fun last => ?_⟩⟩
  case ticks =>
    intro s n c warm
    have warms := s.part.readsAtLeast_iff (cabinetChannel n) c.readyTemp
    refine ⟨fun cold => ?_, fun holds isWarm => ?_⟩
    · have still := s.part.warmTick_cold n (cold.imp_right fun not => mt warms.mp not)
      simp only [exec, execWarmTick, still]
    · have isWarm := warms.mpr isWarm
      have cabinets := s.part.warmTick_cabinets n holds isWarm
      have low := s.part.warmTick_low n holds isWarm
      have quiet := s.part.warmTick_quiet n holds isWarm
      have moved := s.part.warmTick_moved n holds isWarm
      refine ⟨_, rfl, ?_⟩
      generalize s.part.warmTick n = q at *
      have found : q.cabinets.get n = s.part.dwelt n := by rw [cabinets, Table.get_set_self]
      have shown : (s.event q).cabinet n = s.part.dwelt n := found
      obtain ⟨happened, noticed, judged⟩ := moved.happened
      rw [shown]
      refine ⟨happened, noticed, judged, low, quiet, fun m other => ?_, rfl⟩
      exact (congrArg (·.get m) cabinets).trans (Table.get_set_ne _ _ other)
  · constructor
    case uptime => exact fun free => absurd free (by decide)
    all_goals exact fun _ => rfl
  · have notLast : s.part.uptime ≠ 0xFFFFFFFF := fun is => by simp [is] at more
    have next : nextUptime s.part.uptime = s.part.uptime + 1 := if_neg notLast
    change (nextUptime s.part.uptime).toNat = _
    rw [next, BitVec.toNat_add]
    simp
    omega
  · have isLast : s.part.uptime = 0xFFFFFFFF := BitVec.eq_of_toNat_eq last
    change nextUptime s.part.uptime = _
    rw [nextUptime, if_pos isLast]

end Sys2Proof.Machine
end

section
/-!
Chapter 5: LOAD, STOCK ADD, WRITE OFF and RETURN (R87 to R89, R91).
-/

namespace Sys2Proof.Machine

-- The proofs are taken one after the other, which keeps few threads waiting for one another.
set_option Elab.async false

/-! ## Replies to a move (R87, R188) -/

theorem moveAnswer_eq (asked moved : Nat) (more : List Byte) :
    moveAnswer asked moved more = { status := moveStatus asked moved, pieces := moveFields asked moved more } := by
  unfold moveAnswer moveStatus moveFields
  split <;> simp

/-- A move of nothing, asked for some plates. -/
theorem moveAnswer_none {asked : Nat} (some_asked : asked ≠ 0) (more : List Byte) :
    moveAnswer asked 0 more = { status := .okTaken, pieces := moveFields asked 0 more } := by
  rw [moveAnswer_eq, moveStatus, if_neg some_asked.symm]

theorem half_eq_zero_iff (count : Half) : count = 0 ↔ count.toNat = 0 := by
  rw [BitVec.toNat_eq]
  rfl

/-! ## A move from or to a cabinet (R94, R95) -/

section Moved

variable {st cab : Bool} {p p' : Part} (stored : Works { stock := st, cabinets := cab } [] p p')
include stored

theorem PlatesMoved.ofNotice (kind : Fin 4) : PlatesMoved (ofKind kind) st cab p (p'.plateNotice kind) :=
  noticedOnly stored (p'.plateNotice_noticed kind)

theorem PlatesMoved.ofCabinet {n : Fin 8} {kind : Fin 4} (ofThis : (p'.cabinets.get n).kind = kind) :
    PlatesMoved (ofKind kind) st cab p (p'.cabinetMoved n) ∧ lowEvaluated n (ofPart p) (ofPart (p'.cabinetMoved n)) := by
  subst ofThis
  exact ⟨lowToo stored (p'.plateNotice_noticed _) n, PlatesMoved.low stored (p'.plateNotice_noticed _) n⟩

end Moved

/-! ## LOAD (R89) -/

section Load

variable (p : Part) {cabinet : Byte} {count : Half}

theorem load_outOfRange (out : 8 ≤ cabinet.toNat ∨ count.toNat = 0) :
    load cabinet count p = (p, { status := .range }) := by
  unfold load
  by_cases inTable : cabinet.toNat < 8
  · rw [index_of_lt inTable]
    exact if_pos ((half_eq_zero_iff count).mpr (out.resolve_left (by omega)))
  · rw [index_of_le (by omega)]

variable (inTable : cabinet.toNat < 8) (asked : count.toNat ≠ 0)

include inTable asked in
theorem load_tripped (trip : p.interlock.trip = true) : load cabinet count p = (p, { status := .tripped }) := by
  unfold load
  rw [index_of_lt inTable]
  dsimp only
  rw [if_neg (mt (half_eq_zero_iff count).mp asked), if_pos trip]

/-- The plates that a LOAD moves. -/
def Part.loads (n : Fin 8) (asked : Nat) (p : Part) : Nat :=
  min asked (min (p.stock.get (p.cabinets.get n).kind).clean
    ((p.cabinets.get n).capacity - (p.cabinets.get n).held))

include asked in
theorem load_clear (clear : p.interlock.trip = false) :
    load cabinet count p =
      (if p.loads ⟨cabinet.toNat, inTable⟩ count.toNat = 0 then p
        else p.loadCabinet ⟨cabinet.toNat, inTable⟩ (p.loads ⟨cabinet.toNat, inTable⟩ count.toNat),
        moveAnswer count.toNat (p.loads ⟨cabinet.toNat, inTable⟩ count.toNat) []) := by
  unfold load
  rw [index_of_lt inTable]
  dsimp only
  rw [if_neg (mt (half_eq_zero_iff count).mp asked), if_neg (by simp [clear])]
  rfl

variable (n : Fin 8) (moved : Nat)

/-- A LOAD's records, before its notices. -/
def Part.loadStored : Part :=
  let c := p.cabinets.get n
  let s := p.stock.get c.kind
  (p.setStock c.kind { s with clean := s.clean - moved }).setCabinet n
    { c with batches := loadBatch p.uptime moved c.batches }

theorem Part.loadStored_works : Works { stock := true, cabinets := true } [] p (p.loadStored n moved) :=
  (Part.setStock_works p _ _ _).widen.trans (Part.setCabinet_works _ _ _ _).widen

theorem Part.loadStored_stock : (p.loadStored n moved).stock = p.stock.set (p.cabinets.get n).kind
    { p.stock.get (p.cabinets.get n).kind with
      clean := (p.stock.get (p.cabinets.get n).kind).clean - moved } := by
  simp [Part.loadStored]

theorem Part.loadStored_cabinets : (p.loadStored n moved).cabinets = p.cabinets.set n
    { p.cabinets.get n with batches := loadBatch p.uptime moved (p.cabinets.get n).batches } := by
  simp [Part.loadStored]

theorem Part.loadCabinet_moved : PlatesMoved (ofKind (p.cabinets.get n).kind) true true p (p.loadCabinet n moved) ∧
    lowEvaluated n (ofPart p) (ofPart (p.loadCabinet n moved)) :=
  PlatesMoved.ofCabinet (p.loadStored_works n moved) (by rw [Part.loadStored_cabinets, Table.get_set_self])

theorem Part.loadCabinet_records : (p.loadCabinet n moved).stock = (p.loadStored n moved).stock ∧
    (p.loadCabinet n moved).cabinets = (p.loadStored n moved).cabinets :=
  Part.cabinetMoved_records _ n

end Load

theorem loadBatch_room (now : Word) (count : Nat) {batches : List Batch} (room : batches.length < 8) :
    loadBatch now count batches = batches ++ [{ count, load := now, dwell := 0 }] := if_pos room

theorem loadBatch_full (now : Word) (count : Nat) {older : List Batch} {newest : Batch}
    (full : 8 ≤ (older ++ [newest]).length) :
    loadBatch now count (older ++ [newest]) = older ++ [{ count := newest.count + count, load := now, dwell := 0 }] := by
  unfold loadBatch
  rw [if_neg (by omega)]
  simp

/-- Settles O31: the records of a LOAD, and its notices. -/
theorem loadFillsTheNewestEnd : Obligations.LoadFillsTheNewestEnd := by
  intro s tag cabinet count i
  refine ⟨fun out => ?range, ?inTable⟩
  case range => simp only [i, exec, execLoad, load_outOfRange s.part out]
  case inTable =>
    intro inTable asked n c old moved
    refine ⟨fun trip => ?tripped, fun clear none => ?none, fun clear some => ?moved⟩
    case tripped => simp only [i, exec, execLoad, load_tripped s.part inTable asked trip]
    all_goals
      have taken := load_clear s.part inTable asked clear
      rw [show s.part.loads ⟨cabinet.toNat, inTable⟩ count.toNat = moved from rfl] at taken
    case none =>
      rw [none, if_pos rfl, moveAnswer_none asked] at taken
      simp only [i, exec, execLoad, taken]
    case moved =>
      rw [if_neg (by omega), moveAnswer_eq] at taken
      obtain ⟨notices, low⟩ := s.part.loadCabinet_moved n moved
      obtain ⟨stock, cabinets⟩ := s.part.loadCabinet_records n moved
      rw [s.part.loadStored_stock] at stock
      rw [s.part.loadStored_cabinets] at cabinets
      refine ⟨_, rfl, ?_⟩
      rw [taken, show s.part.loadCabinet ⟨cabinet.toNat, inTable⟩ moved = s.part.loadCabinet n moved from rfl]
      generalize s.part.loadCabinet n moved = q at *
      obtain ⟨answered, noticed, judged⟩ := notices.answered 0x54 tag
        { status := moveStatus count.toNat moved, pieces := moveFields count.toNat moved [] }
      have found : q.cabinets.get n = { c with batches := loadBatch s.part.uptime moved c.batches } := by
        rw [cabinets, Table.get_set_self]
      refine ⟨answered, noticed, judged, low, fun k other => ?_, ?_, fun m other => ?_, fun room => ?_,
        fun older newest list full => ?_⟩
      · exact (congrArg (·.get k) stock).trans (Table.get_set_ne _ _ other)
      · exact (congrArg (·.get c.kind) stock).trans (Table.get_set_self _ _ _)
      · exact (congrArg (·.get m) cabinets).trans (Table.get_set_ne _ _ other)
      · rw [← loadBatch_room s.part.uptime moved room]
        exact found
      · rw [list] at full
        rw [← loadBatch_full s.part.uptime moved full, ← list]
        exact found

end Sys2Proof.Machine
end

section
/-!
Chapter 5: STOCK ADD, WRITE OFF and RETURN (R87, R88, R91).
-/

namespace Sys2Proof.Machine

-- The proofs are taken one after the other, which keeps few threads waiting for one another.
set_option Elab.async false

/-! ## A move between the counts of a kind -/

/-- The counts of a kind replaced, with the notice, where plates move at all. -/
def Part.recounted (k : Fin 4) (counts : Stock) (moved : Nat) (p : Part) : Part :=
  if moved = 0 then p else (p.setStock k counts).plateNotice k

section Recounted

variable {k : Fin 4} {counts : Stock} {moved : Nat}

theorem Part.recounted_moved (p : Part) :
    PlatesMoved (fun v => 0 < moved ∧ ofKind k v) true false p (p.recounted k counts moved) := by
  unfold Part.recounted
  split
  · next none => exact .none fun v concerned => by omega
  · next some =>
    exact (PlatesMoved.ofNotice (Part.setStock_works p [] k counts) k).congr fun v => and_iff_right (by omega)

theorem Part.recounted_stock (p : Part) (still : moved = 0 → counts = p.stock.get k) :
    (p.recounted k counts moved).stock = p.stock.set k counts := by
  unfold Part.recounted
  split
  · next none => rw [still none, Table.set_get_self]
  · rw [(Part.plateNotice_records _ _).1, Part.setStock_stock]

/-- What a request comes to that moves plates between the counts of a kind. -/
theorem recounted_taken {s : State} {c : Instr} {code tag : Byte} {asked : Nat}
    (still : moved = 0 → counts = s.stockOf k)
    (taken : exec c s = .next (s.answer code tag (s.part.recounted k counts moved, moveAnswer asked moved []))) :
    ∃ t, exec c s = .next t ∧
      Answered { noticeFoot with stock := true } code tag (moveStatus asked moved) (moveFields asked moved []) s t ∧
      Noticed [] s t ∧ wavesJudged (fun v => 0 < moved ∧ ofKind k v) s t ∧
      (∀ x, x ≠ k → t.stockOf x = s.stockOf x) ∧ t.stockOf k = counts := by
  have notices := s.part.recounted_moved (k := k) (counts := counts) (moved := moved)
  have stock := s.part.recounted_stock still
  rw [moveAnswer_eq] at taken
  generalize s.part.recounted k counts moved = q at *
  obtain ⟨answered, noticed, judged⟩ := notices.answered code tag
    { status := moveStatus asked moved, pieces := moveFields asked moved [] }
  refine ⟨_, taken, answered, noticed, judged, fun x other => ?_, ?_⟩
  · exact (congrArg (·.get x) stock).trans (Table.get_set_ne _ _ other)
  · exact (congrArg (·.get k) stock).trans (Table.get_set_self _ _ _)

end Recounted

section Requests

variable (p : Part) {kind location : Byte} {count : Half}

/-! ## STOCK ADD (R88) -/

theorem stockAdd_outOfRange (out : 4 ≤ kind.toNat ∨ count.toNat = 0) :
    stockAdd kind count p = (p, { status := .range }) := by
  unfold stockAdd
  by_cases inTable : kind.toNat < 4
  · rw [index_of_lt inTable]
    exact if_pos (.inl ((half_eq_zero_iff count).mpr (out.resolve_left (by omega))))
  · rw [index_of_le (by omega)]

theorem stockAdd_over (inTable : kind.toNat < 4)
    (tooMany : 65535 < (p.stock.get ⟨kind.toNat, inTable⟩).total + count.toNat) :
    stockAdd kind count p = (p, { status := .range }) := by
  unfold stockAdd
  rw [index_of_lt inTable]
  exact if_pos (.inr tooMany)

/-- The counts after a STOCK ADD. -/
def Stock.added (count : Nat) (s : Stock) : Stock := { s with total := s.total + count, clean := s.clean + count }

theorem stockAdd_taken (inTable : kind.toNat < 4) (asked : count.toNat ≠ 0)
    (room : (p.stock.get ⟨kind.toNat, inTable⟩).total + count.toNat ≤ 65535) :
    stockAdd kind count p =
      (p.recounted ⟨kind.toNat, inTable⟩ ((p.stock.get ⟨kind.toNat, inTable⟩).added count.toNat) count.toNat,
        moveAnswer count.toNat count.toNat []) := by
  unfold stockAdd Part.recounted
  rw [index_of_lt inTable]
  dsimp only
  rw [if_neg (by rw [half_eq_zero_iff]; omega), if_neg asked]
  rfl

/-! ## RETURN (R91) -/

theorem returnPlates_outOfRange (out : 4 ≤ kind.toNat ∨ count.toNat = 0) :
    returnPlates kind count p = (p, { status := .range }) := by
  unfold returnPlates
  by_cases inTable : kind.toNat < 4
  · rw [index_of_lt inTable]
    exact if_pos ((half_eq_zero_iff count).mpr (out.resolve_left (by omega)))
  · rw [index_of_le (by omega)]

theorem returnPlates_taken (inTable : kind.toNat < 4) (asked : count.toNat ≠ 0) {moved : Nat}
    (least : moved = min count.toNat (p.stock.get ⟨kind.toNat, inTable⟩).issued) :
    returnPlates kind count p =
      (p.recounted ⟨kind.toNat, inTable⟩ { p.stock.get ⟨kind.toNat, inTable⟩ with
        issued := (p.stock.get ⟨kind.toNat, inTable⟩).issued - moved
        soiled := (p.stock.get ⟨kind.toNat, inTable⟩).soiled + moved } moved, moveAnswer count.toNat moved []) := by
  subst least
  unfold returnPlates Part.recounted
  rw [index_of_lt inTable]
  dsimp only
  rw [if_neg (mt (half_eq_zero_iff count).mp asked)]

/-! ## WRITE OFF (R88) -/

theorem placeOf_cabinet (inTable : location.toNat < 8) : placeOf location = some (.cabinet ⟨location.toNat, inTable⟩) := by
  unfold placeOf
  rw [index_of_lt inTable]

/-- The three locations beyond the cabinets (R192). -/
theorem placeOf_stock (beyond : 8 ≤ location.toNat) :
    placeOf location = if location.toNat = 8 then some .soiled else if location.toNat = 9 then some .clean
      else if location.toNat = 10 then some .issued else none := by
  have is (k : Byte) : location = k ↔ location.toNat = k.toNat := BitVec.toNat_eq
  unfold placeOf
  rw [index_of_le beyond]
  simp only [is]
  rfl

theorem writeOff_outOfRange (out : 4 ≤ kind.toNat ∨ 11 ≤ location.toNat ∨ count.toNat = 0) :
    writeOff kind location count p = (p, { status := .range }) := by
  unfold writeOff
  split
  · next k place isKind isPlace =>
    refine if_pos (.inl ((half_eq_zero_iff count).mpr ?_))
    have small : kind.toNat < 4 := by
      have named := index_eq_some.mp isKind
      omega
    have inside : location.toNat < 11 := by
      by_contra beyond
      rw [placeOf_stock (by omega), if_neg (by omega), if_neg (by omega), if_neg (by omega)] at isPlace
      cases isPlace
    omega
  · rfl

section Place

variable (inTable : kind.toNat < 4) {place : Place} (isPlace : placeOf location = some place)
include isPlace

theorem writeOff_wrong (wrong : p.wrongCabinet ⟨kind.toNat, inTable⟩ place = true) :
    writeOff kind location count p = (p, { status := .range }) := by
  unfold writeOff
  rw [index_of_lt inTable, isPlace]
  exact if_pos (.inr wrong)

theorem writeOff_taken (asked : count.toNat ≠ 0) (right : p.wrongCabinet ⟨kind.toNat, inTable⟩ place = false) {moved : Nat}
    (least : moved = min count.toNat (p.heldAt ⟨kind.toNat, inTable⟩ place)) :
    writeOff kind location count p =
      (if moved = 0 then p else p.writeOffAt ⟨kind.toNat, inTable⟩ place moved, moveAnswer count.toNat moved []) := by
  subst least
  unfold writeOff
  rw [index_of_lt inTable, isPlace]
  dsimp only
  rw [if_neg (by rw [half_eq_zero_iff, right]; simpa using asked)]

end Place

/-! ### From a cabinet -/

section Cabinet

variable (n : Fin 8) (k : Fin 4) (moved : Nat)

/-- A WRITE OFF's records, before its notices. -/
def Part.offStored : Part :=
  (p.takeFromCabinet n moved).setStock k { p.stock.get k with total := (p.stock.get k).total - moved }

theorem Part.offStored_works : Works { stock := true, cabinets := true } [] p (p.offStored n k moved) :=
  (Part.takeFromCabinet_works p [] n moved).widen.trans (Part.setStock_works _ _ _ _).widen

theorem Part.offStored_stock : (p.offStored n k moved).stock =
    p.stock.set k { p.stock.get k with total := (p.stock.get k).total - moved } := by
  simp [Part.offStored, Part.takeFromCabinet]

theorem Part.offStored_cabinets : (p.offStored n k moved).cabinets = p.cabinets.set n
    { p.cabinets.get n with batches := takeOldest moved (p.cabinets.get n).batches } := by
  simp [Part.offStored, Part.takeFromCabinet]

theorem Part.writeOffAt_cabinet :
    p.writeOffAt k (.cabinet n) moved = (p.offStored n k moved).cabinetMoved n := rfl

end Cabinet

end Requests

/-- A WRITE OFF from a location of the stock counts, by the counts that the number moved leaves. -/
theorem writeOff_counted {s : State} {tag kind location : Byte} {count : Half} (inTable : kind.toNat < 4)
    (asked : count.toNat ≠ 0) {place : Place} (after : Nat → Stock)
    (stored : ∀ moved, s.part.writeOffAt ⟨kind.toNat, inTable⟩ place moved =
      (s.part.setStock ⟨kind.toNat, inTable⟩ (after moved)).plateNotice ⟨kind.toNat, inTable⟩)
    (still : after 0 = s.stockOf ⟨kind.toNat, inTable⟩)
    (right : s.part.wrongCabinet ⟨kind.toNat, inTable⟩ place = false) (isPlace : placeOf location = some place)
    (moved : Nat) (least : moved = min count.toNat (s.part.heldAt ⟨kind.toNat, inTable⟩ place)) :
    (∃ t, exec (.writeOff tag kind location count) s = .next t ∧
      Answered { noticeFoot with stock := true } 0x53 tag (moveStatus count.toNat moved)
        (moveFields count.toNat moved []) s t ∧
      (Noticed [] s t ∧ wavesJudged (fun v => 0 < moved ∧ ofKind ⟨kind.toNat, inTable⟩ v) s t ∧
        ∀ x, x ≠ ⟨kind.toNat, inTable⟩ → t.stockOf x = s.stockOf x) ∧
      t.stockOf ⟨kind.toNat, inTable⟩ = after moved) ∧
    (moved = 0 → exec (.writeOff tag kind location count) s = .next (s.answer 0x53 tag
      (s.part, { status := .okTaken, pieces := moveFields count.toNat 0 [] }))) := by
  have taken := writeOff_taken s.part inTable isPlace asked right least
  refine ⟨?_, fun none => ?_⟩
  · rw [stored] at taken
    obtain ⟨t, run, answered, noticed, judged, rest, own⟩ := recounted_taken (s := s) (tag := tag) (moved := moved)
      (k := ⟨kind.toNat, inTable⟩) (counts := after moved) (code := 0x53) (asked := count.toNat)
      (c := .writeOff tag kind location count) (fun none => by rw [none, still])
      (by simp only [exec, execWriteOff, taken]; rfl)
    exact ⟨t, run, answered, ⟨noticed, judged, rest⟩, own⟩
  · rw [if_pos none, none, moveAnswer_none asked] at taken
    simp only [exec, execWriteOff, taken]

/-- A WRITE OFF from a cabinet. -/
theorem writeOff_fromCabinet {s : State} {tag kind location : Byte} {count : Half} (inTable : kind.toNat < 4)
    (asked : count.toNat ≠ 0) (inCabinets : location.toNat < 8) {moved : Nat}
    (least : moved = min count.toNat (s.cabinet ⟨location.toNat, inCabinets⟩).held) :
    let k : Fin 4 := ⟨kind.toNat, inTable⟩
    let n : Fin 8 := ⟨location.toNat, inCabinets⟩
    let c : Instr := .writeOff tag kind location count
    ((s.cabinet n).kind = k → 0 < moved →
      ∃ t, exec c s = .next t ∧
        Answered { noticeFoot with stock := true, cabinets := true } 0x53 tag (moveStatus count.toNat moved)
          (moveFields count.toNat moved []) s t ∧
        (Noticed [] s t ∧ wavesJudged (fun v => 0 < moved ∧ ofKind k v) s t ∧
          ∀ x, x ≠ k → t.stockOf x = s.stockOf x) ∧
        t.stockOf k = { s.stockOf k with total := (s.stockOf k).total - moved } ∧
        (∀ x, x ≠ n → t.cabinet x = s.cabinet x) ∧ lowEvaluated n s t ∧
        t.cabinet n = { s.cabinet n with batches := takeOldest moved (s.cabinet n).batches }) ∧
    ((s.cabinet n).kind = k → moved = 0 → exec c s = .next (s.answer 0x53 tag
      (s.part, { status := .okTaken, pieces := moveFields count.toNat 0 [] }))) ∧
    ((s.cabinet n).kind ≠ k → exec c s = .next (s.answer 0x53 tag (s.part, { status := .range }))) := by
  intro k n c
  have isPlace := placeOf_cabinet inCabinets
  refine ⟨fun ofThis some => ?moved, fun ofThis none => ?none, fun other => ?wrong⟩
  case wrong =>
    have wrong : s.part.wrongCabinet k (.cabinet n) = true := decide_eq_true other
    simp only [c, exec, execWriteOff, writeOff_wrong s.part inTable isPlace wrong]
  all_goals
    have right : s.part.wrongCabinet k (.cabinet n) = false := by simpa [Part.wrongCabinet] using ofThis
    have taken := writeOff_taken s.part inTable isPlace asked right least
  case none =>
    rw [if_pos none, none, moveAnswer_none asked] at taken
    simp only [c, exec, execWriteOff, taken]
  case moved =>
    rw [if_neg (by omega), moveAnswer_eq] at taken
    have stored := s.part.offStored_cabinets n k moved
    obtain ⟨notices, low⟩ := PlatesMoved.ofCabinet (s.part.offStored_works n k moved) (n := n) (kind := k)
      (by rw [stored, Table.get_set_self]; exact ofThis)
    obtain ⟨stock, cabinets⟩ := (s.part.offStored n k moved).cabinetMoved_records n
    rw [s.part.offStored_stock] at stock
    rw [stored] at cabinets
    refine ⟨_, rfl, ?_⟩
    rw [taken, show s.part.writeOffAt ⟨kind.toNat, inTable⟩ (.cabinet ⟨location.toNat, inCabinets⟩) moved =
      (s.part.offStored n k moved).cabinetMoved n from rfl]
    generalize (s.part.offStored n k moved).cabinetMoved n = q at *
    obtain ⟨answered, noticed, judged⟩ := (notices.congr (concerns' := fun v => 0 < moved ∧ ofKind k v)
      fun v => and_iff_right some).answered 0x53 tag
        { status := moveStatus count.toNat moved, pieces := moveFields count.toNat moved [] }
    refine ⟨answered, ⟨noticed, judged, fun x other => ?_⟩, ?_, fun x other => ?_, low, ?_⟩
    · exact (congrArg (·.get x) stock).trans (Table.get_set_ne _ _ other)
    · exact (congrArg (·.get k) stock).trans (Table.get_set_self _ _ _)
    · exact (congrArg (·.get x) cabinets).trans (Table.get_set_ne _ _ other)
    · exact (congrArg (·.get n) cabinets).trans (Table.get_set_self _ _ _)

/-- Settles O30: the counts that each move replaces, the refusals in their order, and the notices of a move. -/
theorem stockRequestsMovePlates : Obligations.StockRequestsMovePlates := by
  refine ⟨?add, ?refused, ?writeOff, ?outOfRange, ?back⟩
  case add =>
    intro s tag kind count inTable k old asked room
    have taken := stockAdd_taken s.part inTable asked room
    obtain ⟨t, run, answered, noticed, judged, others, own⟩ := recounted_taken (k := k) (asked := count.toNat)
      (c := .stockAdd tag kind count) (code := 0x52) (tag := tag) (s := s) (moved := count.toNat)
      (counts := old.added count.toNat) (fun none => absurd none asked)
      (by simp only [exec, execStockAdd, taken]; rfl)
    have status : moveStatus count.toNat count.toNat = .ok := if_pos rfl
    have concerned : (fun v => 0 < count.toNat ∧ ofKind k v) = ofKind k :=
      funext fun v => propext (and_iff_right (by omega))
    rw [status] at answered
    rw [concerned] at judged
    exact ⟨t, run, answered, noticed, judged, others, own⟩
  case refused =>
    intro s tag kind count
    refine ⟨fun out => ⟨?_, ?_⟩, fun inTable tooMany => ?_⟩
    · simp only [exec, execStockAdd, stockAdd_outOfRange s.part out]
    · simp only [exec, execReturnPlates, returnPlates_outOfRange s.part out]
    · simp only [exec, execStockAdd, stockAdd_over s.part inTable tooMany]
  case writeOff =>
    intro s tag kind location count inTable k old c foot others unmoved asked
    have soiled (isPlace : placeOf location = some .soiled) := writeOff_counted (place := .soiled) (s := s) (tag := tag) inTable
      asked (fun moved => { old with total := old.total - moved, soiled := old.soiled - moved }) (fun _ => rfl)
      (by simp [old, k]) rfl isPlace
    have clean (isPlace : placeOf location = some .clean) := writeOff_counted (place := .clean) (s := s) (tag := tag) inTable
      asked (fun moved => { old with total := old.total - moved, clean := old.clean - moved }) (fun _ => rfl)
      (by simp [old, k]) rfl isPlace
    have issued (isPlace : placeOf location = some .issued) := writeOff_counted (place := .issued) (s := s) (tag := tag) inTable
      asked (fun moved => { old with total := old.total - moved, issued := old.issued - moved }) (fun _ => rfl)
      (by simp [old, k]) rfl isPlace
    have place {at_ : Nat} {place : Place} (beyond : 8 ≤ at_)
        (is : (if at_ = 8 then some .soiled else if at_ = 9 then some .clean
          else if at_ = 10 then some Place.issued else none) = some place) (isAt : location.toNat = at_) :
        placeOf location = some place := by
      rw [placeOf_stock (isAt ▸ beyond), isAt, is]
    have least {held : Nat} (none : held = 0) : 0 = min count.toNat held := by rw [none, Nat.min_zero]
    refine ⟨fun moved least isAt => (soiled (place (by omega) rfl isAt) moved least).1,
      fun none isAt => (soiled (place (by omega) rfl isAt) 0 (least none)).2 rfl,
      fun moved least isAt => (clean (place (by omega) rfl isAt) moved least).1,
      fun none isAt => (clean (place (by omega) rfl isAt) 0 (least none)).2 rfl,
      fun moved least isAt => (issued (place (by omega) rfl isAt) moved least).1,
      fun none isAt => (issued (place (by omega) rfl isAt) 0 (least none)).2 rfl, ?cabinet⟩
    exact fun inCabinets moved least => writeOff_fromCabinet inTable asked inCabinets least
  case outOfRange =>
    intro s tag kind location count out
    simp only [exec, execWriteOff, writeOff_outOfRange s.part out]
  case back =>
    intro s tag kind count inTable moved k old asked least
    have taken := returnPlates_taken s.part inTable asked least
    refine ⟨?_, fun none => ?_⟩
    · exact recounted_taken (fun none => by simp [none]; rfl) (by simp only [exec, execReturnPlates, taken]; rfl)
    · rw [none, moveAnswer_none asked] at taken
      simp only [exec, execReturnPlates, taken]
      rfl

end Sys2Proof.Machine
end

section
/-!
Chapter 6: a rack that enters the tunnel (R113, R92), and work before and after a plate notice (R94, R141).
-/

namespace Sys2Proof.Machine

-- The proofs are taken one after the other, which keeps few threads waiting for one another.
set_option Elab.async false

/-! ## A plate notice within a command -/

/-- Work with a plate notice in it: what it may touch, and what becomes of the waves that the notice concerns. -/
structure Told (f : Footprint) (own : List (Fin 87)) (concerns : Wave → Prop) (p q : Part) : Prop where
  works : Works f (own ++ waveSlots) p q
  table : NoticedTable p q
  waves : ∀ w, noticedAt concerns (ofPart p) (ofPart q) w

section Within

variable {concerns : Wave → Prop} {f a b : Footprint} {own : List (Fin 87)} {p p' q' r : Part}
  (before : Works b [] p p') (noticed : PartNoticed concerns p' q')
include before noticed

theorem PartNoticed.told (after : Works a own q' r) (le : b.le f ∧ noticeFoot.le f ∧ a.le f := by decide)
    (early : b.waves = false ∧ b.uptime = false := by decide)
    (late : a.waves = false ∧ a.ovens = false ∧ a.cabinets = false ∧ a.stock = false := by decide)
    (apart : ∀ i ∈ own, i ∉ waveSlots := by decide) : Told f own concerns p r := by
  have first := before.moves.touches
  have last := after.moves.touches
  refine ⟨?_, noticed.between_table (first.waves early.1) (last.waves late.1), ?_⟩
  · exact ((before.mono le.1 (List.nil_subset _)).trans (noticed.works.mono le.2.1 (List.subset_append_right _ _))).trans
      (after.mono le.2.2 (List.subset_append_left _ _))
  · exact noticed.noticedAt (.of_works before early.1) (first.uptime early.2) (.of_works after late.1 apart)
      (.of_works after late.2) fun _ => Iff.rfl

/-- The waves judged with their pages, where the work about the notice sends none. -/
theorem PartNoticed.judged (after : Works a [] q' r) (early : b.waves = false ∧ b.uptime = false ∧ b.pager = false := by decide)
    (late : a.waves = false ∧ a.ovens = false ∧ a.cabinets = false ∧ a.stock = false := by decide)
    (quiet : a.pager = false := by decide) : wavesJudged concerns (ofPart p) (ofPart r) := by
  have first := before.moves.touches
  have pager : p'.desk.pager = p.desk.pager := first.pager early.2.2
  have lastPager : r.desk.pager = q'.desk.pager := after.moves.touches.pager quiet
  have early' (w : Fin 12) : WaveKept w p p' := .of_works before early.1 (by simp) w
  have late' (w : Fin 12) : WaveKept w q' r := .of_works after late.1 (by simp) w
  refine ⟨noticed.noticedAt early' (first.uptime early.2.1) late' (.of_works after late.2) fun _ => Iff.rfl,
    fun busy off => ?_⟩
  rw [← show (ofPart p).pager = p.desk.pager from rfl] at pager
  have off' (k : Fin 16) (other : k ≠ 14) : (p'.desk.pager.routes.get k).enabled = false := by
    rw [pager]
    exact off k other
  have sent := noticed.readyTriggers early' (first.uptime early.2.1) late' (by rw [pager]; exact busy)
    (off' 7 (by decide)) (off' 8 (by decide))
  rw [pager, ← lastPager] at sent
  exact sent

end Within

namespace Told

variable {concerns concerns' : Wave → Prop} {f : Footprint} {own : List (Fin 87)} {p q : Part}

/-- Waves told by another predicate that says the same of each. -/
theorem congr (h : Told f own concerns p q) (same : ∀ v, concerns' v ↔ concerns v) : Told f own concerns' p q := by
  have eq : concerns' = concerns := funext fun v => propext (same v)
  rwa [eq]

/-- Work ahead of it that leaves the waves and the slots. -/
theorem preceded {b g : Footprint} {p' : Part} (before : Works b [] p p') (h : Told f own concerns p' q)
    (le : b.le g ∧ f.le g := by decide) (early : b.waves = false ∧ b.uptime = false := by decide) :
    Told g own concerns p q := by
  have waves : p'.waves = p.waves := before.moves.touches.waves early.1
  refine ⟨(before.mono le.1 (List.nil_subset _)).trans (h.works.widen le.2), ⟨fun w none => ?_, fun w v stands => ?_⟩,
    fun w => ?_⟩
  · exact h.table.absent w (by rwa [waves])
  · exact h.table.record w v (by rwa [waves])
  · exact noticedAt_between (h.waves w) (.of_works before early.1 (by simp) w) (before.moves.touches.uptime early.2)
      ⟨rfl, rfl, rfl⟩ ⟨rfl, rfl, rfl⟩ fun _ _ => Iff.rfl

theorem event {s : State} (h : Told f own concerns s.part q) : Happened f s (s.event q) ∧ Noticed own s (s.event q) ∧
    ∀ w, noticedAt concerns s (s.event q) w :=
  ⟨h.works.happened, noticed_event h.table h.works, fun w => noticedAt_event (h.waves w)⟩

end Told

/-! ## A rack entry edge (R113) -/

/-- The stock counts after a rack entry move of `count` plates (R92). -/
def Stock.afterEntry (count : Nat) (s : Stock) : Stock :=
  { s with soiled := s.soiled - count, tunnel := s.tunnel + count }

/-- A rack entry move ahead of its notice (R92). -/
def Part.rackPlated (r : Rack) (p : Part) : Part :=
  match r.kind with
  | none => p
  | some k => if r.count = 0 then p else p.setStock k ((p.stock.get k).afterEntry r.count)

section Entry

variable (p : Part) (r : Rack)

theorem Part.rackEntryMove_notice : p.rackEntryMove r.kind r.count = (p.rackPlated r).rackNotice r := by
  unfold Part.rackEntryMove Part.rackPlated Part.rackNotice
  cases r.kind with
  | none => rfl
  | some k =>
    dsimp only
    split <;> rfl

theorem Part.rackPlated_works : Works { stock := true } [] p (p.rackPlated r) := by
  unfold Part.rackPlated
  split
  · exact .refl _ _ _
  · split
    · exact .refl _ _ _
    · exact Part.setStock_works _ _ _ _

theorem Part.rackPlated_stock (kind : Fin 4) : (p.rackPlated r).stock.get kind =
    if r.kind = some kind then (p.stock.get kind).afterEntry r.count else p.stock.get kind := by
  unfold Part.rackPlated
  split
  · next isNone => simp [isNone]
  · next k isKind =>
    rw [isKind]
    by_cases same : k = kind
    · subst same
      split
      · next empty => simp [empty, Stock.afterEntry]
      · simp
    · have other : kind ≠ k := fun h => same h.symm
      split <;> simp [same, Table.get_set_ne _ _ other]

/-- The rack that an entry edge tracks. -/
def Part.enteringRack : Rack :=
  { number := p.dish.rackCounter + 1, kind := p.dish.declared.head?.map Declaration.kind
    count := p.entryCount (p.dish.declared.head?.map Declaration.kind)
      ((p.dish.declared.head?.map Declaration.count).getD 0)
    entry := p.uptime, interval := p.dish.lastEntry.map (p.uptime - ·) }

/-- The tunnel numbers the rack, takes the declaration, and its plates move. -/
def Part.rackArrived : Part :=
  (p.setDish { p.dish with
    rackCounter := p.dish.rackCounter + 1, lastEntry := some p.uptime, declared := p.dish.declared.drop 1 }).rackPlated
    p.enteringRack

/-- The rack joins the queue, and the gate is judged. -/
def Part.rackQueued : Part := (p.setDish { p.dish with queue := p.dish.queue ++ [r] }).judgeGate

theorem Part.trackRack_eq : p.trackRack = (p.rackArrived.rackNotice p.enteringRack).rackQueued p.enteringRack := by
  unfold Part.rackArrived
  rw [← Part.rackEntryMove_notice]
  rfl

theorem Part.rackArrived_works : Works { dish := true, stock := true } [] p p.rackArrived :=
  (Part.setDish_works p _ _).widen.trans (Part.rackPlated_works _ _).widen

theorem Part.rackQueued_works : Works { dish := true } [] p (p.rackQueued r) :=
  (Part.setDish_works p _ _).trans (Part.judgeGate_works _ _)

theorem Part.rackArrived_dish : p.rackArrived.dish = { p.dish with
    rackCounter := p.dish.rackCounter + 1, lastEntry := some p.uptime, declared := p.dish.declared.drop 1 } :=
  ((Part.rackPlated_works _ _).moves.touches.dish rfl).trans (Part.setDish_dish _ _)

theorem Part.trackRack_works : Works { noticeFoot with dish := true, stock := true } waveSlots p p.trackRack := by
  rw [p.trackRack_eq]
  exact ((p.rackArrived_works.mono rfl (List.nil_subset _)).trans (Part.rackNotice_noticed _ _).works.widen).trans
    ((Part.rackQueued_works _ _).mono rfl (List.nil_subset _))

theorem Part.trackRack_dish : p.trackRack.dish = { p.dish with
    rackCounter := p.dish.rackCounter + 1, lastEntry := some p.uptime, declared := p.dish.declared.drop 1
    queue := p.dish.queue ++ [p.enteringRack]
    gateOpen := decide (p.dish.state = .running) && decide (p.dish.queue.length + 1 < 12) && p.dish.tankWarm &&
      p.dish.boosterHot && !p.dish.rinseFail && !p.interlock.trip } := by
  have noticed := (p.rackArrived.rackNotice_noticed p.enteringRack).works.moves.touches
  have trip : (p.rackArrived.rackNotice p.enteringRack).interlock = p.interlock :=
    (noticed.interlock rfl).trans (p.rackArrived_works.moves.touches.interlock rfl)
  have dish := (noticed.dish rfl).trans p.rackArrived_dish
  rw [p.trackRack_eq, Part.rackQueued, Part.judgeGate, Part.gateTerms, Part.setDish_dish, Part.setDish_dish,
    Part.setDish_interlock, trip, dish]
  simp

theorem Part.trackRack_stock (kind : Fin 4) : p.trackRack.stock.get kind =
    if p.enteringRack.kind = some kind then (p.stock.get kind).afterEntry p.enteringRack.count
    else p.stock.get kind := by
  have noticed := (p.rackArrived.rackNotice_noticed p.enteringRack).works.moves.touches
  rw [p.trackRack_eq, (Part.rackQueued_works _ _).moves.touches.stock rfl, noticed.stock rfl, Part.rackArrived,
    Part.rackPlated_stock, Part.setDish_stock]

variable {p}

theorem Part.rackEntryEdge_apart (apart : p.dish.state = .off ∨ 12 ≤ p.dish.queue.length) : p.rackEntryEdge = p := by
  unfold Part.rackEntryEdge
  by_cases off : p.dish.state = .off
  · rw [if_pos off]
  · rw [if_neg off, if_pos (apart.resolve_left off)]

theorem Part.rackEntryEdge_tracks (on : p.dish.state ≠ .off) (room : p.dish.queue.length < 12) :
    p.rackEntryEdge = p.trackRack := by
  rw [Part.rackEntryEdge, if_neg on, if_neg (by omega)]

end Entry

/-- A line that rises settles and hands its edge on. -/
theorem exec_rising {s : State} {line : Line} (rises : rising line s) :
    exec (.filterTimerExpiry line) s =
      .next (s.event ((s.part.setLine line { raw := true, filtered := true, timing := false }).handOn line true)) := by
  rw [exec_filterTimerExpiry, s.part.filterExpiry_of_line line (on := true) rises]

/-- An edge that leaves the lines leaves them filtered. -/
theorem asserted_of_works {f : Footprint} {own : List (Fin 87)} {p q : Part} {line : Line} (works : Works f own p q)
    (asserted : p.asserted line = true) (free : f.interlock = false := by rfl) : q.asserted line = true := by
  rw [← asserted]
  exact congrArg (fun i : Interlock => (i.lines.get (lineIndex line)).filtered) (works.moves.touches.interlock free)

/-- Settles O38: the rack's plates move, its notice is sent, and it joins the queue; or the edge changes nothing. -/
theorem rackEntryTracksTheRack : Obligations.RackEntryTracksTheRack := by
  intro s rises d foot kind count record
  have risen := Part.setLine_works s.part [] .rackEntry { raw := true, filtered := true, timing := false }
  have asserted := s.part.setLine_asserted .rackEntry { raw := true, filtered := true, timing := false }
  have dish := s.part.setLine_dish .rackEntry { raw := true, filtered := true, timing := false }
  have stock := s.part.setLine_stock .rackEntry { raw := true, filtered := true, timing := false }
  have trip := s.part.setLine_trip .rackEntry { raw := true, filtered := true, timing := false }
  have time := s.part.setLine_uptime .rackEntry { raw := true, filtered := true, timing := false }
  refine ⟨_, exec_rising rises, ?_⟩
  have handed (p : Part) : p.handOn .rackEntry true = p.rackEntryEdge := rfl
  rw [handed]
  generalize s.part.setLine .rackEntry { raw := true, filtered := true, timing := false } = p at *
  by_cases apart : p.dish.state = .off ∨ 12 ≤ p.dish.queue.length
  case pos =>
    rw [Part.rackEntryEdge_apart apart]
    rw [dish] at apart
    have none : PartNoticed (fun v => d.state ≠ .off ∧ d.queue.length < 12 ∧ count ≠ 0 ∧
        ∃ k, kind = some k ∧ ofKind k v) p p := by
      refine .none fun v concerned => ?_
      obtain ⟨on, room, -⟩ := concerned
      exact apart.elim on (Nat.not_le.mpr room)
    have told := none.told (f := foot) risen (.refl {} [] p)
    refine ⟨told.event.1, told.event.2.1, wavesJudged_event (none.judged risen (.refl {} [] p)), asserted,
      fun _ => ⟨dish, stock⟩, fun on room => ?_⟩
    exact absurd apart (by rintro (off | full); exacts [on off, Nat.not_le.mpr room full])
  case neg =>
    obtain ⟨on, room⟩ := not_or.mp apart
    have isRecord : p.enteringRack = record := by
      simp only [Part.enteringRack, dish, time, record, kind, count, d, Part.entryCount, State.dish, State.stockOf, stock]
      cases s.part.dish.declared <;> rfl
    have tracked := p.trackRack_dish
    have plates := p.trackRack_stock
    have queued := (p.rackArrived.rackNotice p.enteringRack).rackQueued_works p.enteringRack
    have noticed := p.rackArrived.rackNotice_noticed p.enteringRack
    have before : Works { interlock := true, dish := true, stock := true } [] s.part p.rackArrived :=
      risen.widen.trans p.rackArrived_works.widen
    have isAsserted := asserted_of_works p.trackRack_works asserted
    rw [Part.rackEntryEdge_tracks on (Nat.not_le.mp room)]
    rw [dish] at on room
    rw [← p.trackRack_eq] at queued
    rw [isRecord, dish, time, trip] at tracked
    rw [isRecord, stock] at plates
    rw [isRecord] at queued noticed
    generalize p.trackRack = q at *
    have tells : record.tells = fun v => d.state ≠ .off ∧ d.queue.length < 12 ∧ count ≠ 0 ∧
        ∃ k, kind = some k ∧ ofKind k v := by
      funext v
      exact propext ⟨fun told => ⟨on, Nat.not_le.mp room, told⟩, fun told => told.2.2⟩
    rw [tells] at noticed
    have told := noticed.told (f := foot) before queued
    refine ⟨told.event.1, told.event.2.1, wavesJudged_event (noticed.judged before queued),
      isAsserted, fun apart => ?_, fun _ _ => ⟨tracked, plates⟩⟩
    exact absurd apart (by rintro (off | full); exacts [on off, room full])

end Sys2Proof.Machine
end

section
/-!
Chapter 6: the oldest rack removed with any outcome (R102, R93), the encoder pulse and the rack exit edge (R101, R118,
R119, R180).
-/

namespace Sys2Proof.Machine

-- The proofs are taken one after the other, which keeps few threads waiting for one another.
set_option Elab.async false

/-! ## The oldest rack removed (R102) -/

/-- The record of a rack that leaves the tunnel. -/
def Rack.removed (outcome : RackOutcome) (now : Word) (r : Rack) : Rack :=
  { r with outcome := some outcome, removal := some now }

/-- The ring with the record of a rack, and the rest of the tunnel's record as it was. -/
theorem Dish.appendRing_dequeued (d : Dish) (rest : List Rack) (r : Rack) :
    ({ d with queue := rest } : Dish).appendRing r =
      { d with queue := rest, ring := (d.appendRing r).ring, overwrites := (d.appendRing r).overwrites } := by
  unfold Dish.appendRing
  by_cases room : d.ring.length < 64 <;> simp [room]

/-- Nothing moves with a rack that holds no plates. -/
theorem Stock.afterExit_zero (outcome : RackOutcome) (s : Stock) : s.afterExit outcome 0 = s := by
  cases outcome <;> rfl

section Moved

variable (p : Part) (outcome : RackOutcome)

theorem Part.rackExitMove_afterExit (r : Rack) (kind : Fin 4) :
    (p.rackExitMove r.kind r.count outcome false).stock.get kind =
      (p.stock.get kind).afterExit outcome (r.plates kind) := by
  unfold Part.rackExitMove Rack.plates
  cases r.kind with
  | none => simp [Stock.afterExit_zero]
  | some k =>
    by_cases same : k = kind
    · subst same
      dsimp only
      split
      · next empty => simp [Stock.afterExit_zero, empty]
      · simp
    · have other : kind ≠ k := fun h => same h.symm
      dsimp only
      split <;> simp [same, Stock.afterExit_zero, Table.get_set_ne _ _ other]

variable (r : Rack) (rest : List Rack)

/-- The rack in the ring and its plates moved, ahead of the notice. -/
def Part.rackOut : Part :=
  (p.setDish (({ p.dish with queue := rest } : Dish).appendRing (r.removed outcome p.uptime))).rackExitMove r.kind r.count
    outcome false

/-- RINSE_FAIL raised where the outcome asks for it, and the gate and the valve judged. -/
def Part.rackSettled : Part :=
  (if outcome.failedRinse then p.rinseFailed r.number else p).judgeGate.judgeValve

theorem Part.removeOldest_told {p : Part} {r : Rack} {rest : List Rack} (queue : p.dish.queue = r :: rest) :
    p.removeOldest outcome true = ((p.rackOut outcome r rest).rackNotice r).rackSettled outcome r := by
  unfold Part.removeOldest Part.rackOut
  rw [queue, ← Part.rackExitMove_notice]
  rfl

theorem Part.rackOut_works : Works { dish := true, stock := true } [] p (p.rackOut outcome r rest) :=
  (Part.setDish_works p _ _).widen.trans (Part.rackExitMove_unnoticed_works _ _ _ _ _).widen

theorem Part.rackOut_dish : (p.rackOut outcome r rest).dish = { p.dish with
    queue := rest, ring := (p.dish.appendRing (r.removed outcome p.uptime)).ring
    overwrites := (p.dish.appendRing (r.removed outcome p.uptime)).overwrites } := by
  rw [Part.rackOut, Part.rackExitMove_dish, Part.setDish_dish, Dish.appendRing_dequeued]

theorem Part.rackOut_stock (kind : Fin 4) :
    (p.rackOut outcome r rest).stock.get kind = (p.stock.get kind).afterExit outcome (r.plates kind) := by
  rw [Part.rackOut, Part.rackExitMove_afterExit, Part.setDish_stock]

theorem Part.rinseFailed_works (number : Half) :
    Works { dish := true, conds := true, pager := true } [rinseFailSlot] p (p.rinseFailed number) :=
  (Part.raise_works p _ _).widen.trans (Part.setDish_works _ _ _).widen

/-- The foot of what follows a removal's notice. -/
def settledFoot : Footprint := { dish := true, feeder := true, conds := true, pager := true }

theorem Part.rackSettled_works : Works settledFoot [rinseFailSlot] p (p.rackSettled outcome r) := by
  unfold Part.rackSettled
  refine Works.trans ?_ (((Part.judgeGate_works _ _).widen.trans (Part.judgeValve_works _ _)).widen)
  split
  · exact (Part.rinseFailed_works _ _).widen
  · exact .refl _ _ _

/-- An outcome that fails no rinse leaves the desk alone. -/
theorem Part.rackSettled_still (still : outcome.failedRinse = false) : Works settledFoot [] p (p.rackSettled outcome r) := by
  unfold Part.rackSettled
  rw [still]
  exact ((Part.judgeGate_works _ _).widen.trans (Part.judgeValve_works _ _)).widen

theorem Part.rackSettled_dish : (p.rackSettled outcome r).dish = { p.dish with
    rinseFail := p.dish.rinseFail || outcome.failedRinse
    gateOpen := decide (p.dish.state = .running) && decide (p.dish.queue.length < 12) && p.dish.tankWarm &&
      p.dish.boosterHot && !(p.dish.rinseFail || outcome.failedRinse) && !p.interlock.trip
    valveOpen := decide (p.dish.state = .running) && rinsing p.dish.cfg p.dish.queue } := by
  unfold Part.rackSettled
  cases outcome.failedRinse <;>
    simp [Part.judgeValve, Part.judgeGate, Part.gateTerms, Dish.valveTerms, Part.rinseFailed] <;> rfl

theorem Part.rackSettled_slot : (p.rackSettled outcome r).desk.conds.get rinseFailSlot =
    if outcome.failedRinse then ((p.desk.conds.get rinseFailSlot).raise p.uptime r.number).ret
    else p.desk.conds.get rinseFailSlot := by
  split
  · next failed =>
    have judged := (p.rinseFailed r.number).rackJudged_works
    rw [Part.rackSettled, if_pos failed, judged.desk.slots _ (by simp) (by decide), Part.rinseFailed, Part.setDish_conds,
      Part.raise_desk, Desk.raise_slot _ _ _ _ (by decide), if_pos (by decide)]
  · next passed =>
    exact (p.rackSettled_still outcome r (by simpa using passed)).desk.slots _ (by simp) (by decide)

end Moved

/-- What the removal of the oldest rack comes to in the tunnel and in the stock. -/
structure Removed (outcome : RackOutcome) (r : Rack) (rest : List Rack) (p q : Part) : Prop where
  dish : q.dish = { p.dish with
    queue := rest, ring := (p.dish.appendRing (r.removed outcome p.uptime)).ring
    overwrites := (p.dish.appendRing (r.removed outcome p.uptime)).overwrites
    rinseFail := p.dish.rinseFail || outcome.failedRinse
    gateOpen := decide (p.dish.state = .running) && decide (rest.length < 12) && p.dish.tankWarm &&
      p.dish.boosterHot && !(p.dish.rinseFail || outcome.failedRinse) && !p.interlock.trip
    valveOpen := decide (p.dish.state = .running) && rinsing p.dish.cfg rest }
  stock : ∀ kind, q.stock.get kind = (p.stock.get kind).afterExit outcome (r.plates kind)
  slot : q.desk.conds.get rinseFailSlot =
    if outcome.failedRinse then ((p.desk.conds.get rinseFailSlot).raise p.uptime r.number).ret
    else p.desk.conds.get rinseFailSlot

theorem rinseFailSlot_apart : rinseFailSlot ∉ waveSlots := by decide

theorem Part.removeOldest_removed {p : Part} {outcome : RackOutcome} {r : Rack} {rest : List Rack}
    (queue : p.dish.queue = r :: rest) : Removed outcome r rest p (p.removeOldest outcome true) := by
  have out := (p.rackOut_works outcome r rest).moves.touches
  have outSlot := (p.rackOut_works outcome r rest).desk.slots rinseFailSlot (by simp) (by decide)
  have noticed := ((p.rackOut outcome r rest).rackNotice_noticed r).works
  have outDish := p.rackOut_dish outcome r rest
  have outStock := p.rackOut_stock outcome r rest
  have settled := ((p.rackOut outcome r rest).rackNotice r).rackSettled_works outcome r
  have dish := ((p.rackOut outcome r rest).rackNotice r).rackSettled_dish outcome r
  have slot := ((p.rackOut outcome r rest).rackNotice r).rackSettled_slot outcome r
  rw [Part.removeOldest_told outcome queue]
  generalize ((p.rackOut outcome r rest).rackNotice r).rackSettled outcome r = q at *
  generalize (p.rackOut outcome r rest).rackNotice r = q' at *
  have kept := noticed.moves.touches
  refine ⟨?_, fun kind => ?_, ?_⟩
  · rw [dish, kept.interlock rfl, out.interlock rfl, kept.dish rfl, outDish]
  · rw [settled.moves.touches.stock rfl, kept.stock rfl, outStock]
  · rw [slot, kept.uptime rfl, out.uptime rfl, noticed.desk.slots _ rinseFailSlot_apart (by decide), outSlot]

end Sys2Proof.Machine
end

section
/-!
Chapter 6: the encoder pulse (R101, R119, R180) and the rack exit edge (R118).
-/

namespace Sys2Proof.Machine

-- The proofs are taken one after the other, which keeps few threads waiting for one another.
set_option Elab.async false

/-! ## The encoder pulse (R101, R180) -/

section Pulse

variable (p : Part)

/-- The travel counted and every rack advanced, ahead of the lost check. -/
def Part.racksAdvanced : Part :=
  ({ p with interlock := { p.interlock with travel := p.interlock.travel + 1 } } : Part).setDish
    { p.dish with queue := p.dish.queue.map Rack.advanced }

theorem Part.encoderPulse_eq : p.encoderPulse = p.racksAdvanced.checkLost.judgeValve := rfl

theorem Part.racksAdvanced_works : Works { interlock := true, dish := true } [] p p.racksAdvanced := by
  refine Works.trans (q := { p with interlock := { p.interlock with travel := p.interlock.travel + 1 } }) ?_
    (Part.setDish_works _ _ _).widen
  exact Works.ofTouches _ (by constructor <;> simp) rfl

theorem Part.racksAdvanced_dish : p.racksAdvanced.dish = { p.dish with queue := p.dish.queue.map Rack.advanced } :=
  Part.setDish_dish _ _

theorem Part.racksAdvanced_interlock :
    p.racksAdvanced.interlock = { p.interlock with travel := p.interlock.travel + 1 } := Part.setDish_interlock _ _

theorem Part.judgeValve_dish : p.judgeValve.dish = { p.dish with
    valveOpen := decide (p.dish.state = .running) && rinsing p.dish.cfg p.dish.queue } := Part.setValve_dish _ _

variable {p}

theorem Part.checkLost_within
    (within : ∀ r ∈ p.dish.queue.head?, r.position ≤ p.dish.cfg.tunnelLength + p.dish.cfg.exitTolerance) :
    p.checkLost = p := by
  unfold Part.checkLost
  split
  · rfl
  · next r rest queue =>
    rw [queue] at within
    exact if_neg (Nat.not_lt.mpr (within r rfl))

/-- The oldest rack removed as LOST, RACK_LOST raised, and the tunnel held (R119). -/
def Part.rackLost (r : Rack) (p : Part) : Part :=
  ((p.removeOldest .lost true).raise rackLostSlot r.number).holdTunnel fun h => { h with lost := true }

theorem Part.checkLost_lost {r : Rack} {rest : List Rack} (queue : p.dish.queue = r :: rest)
    (beyond : p.dish.cfg.tunnelLength + p.dish.cfg.exitTolerance < r.position) : p.checkLost = p.rackLost r := by
  unfold Part.checkLost
  rw [queue]
  exact if_pos beyond

/-- A hold enters HELD with its reason alone, or joins those of a HELD tunnel (R108). -/
theorem Part.holdTunnel_dish (join : HoldReasons → HoldReasons) (on : p.dish.state ≠ .off) :
    (p.holdTunnel join).dish = if p.dish.state = .held then { p.dish with reasons := join p.dish.reasons }
      else { p.dish with
        state := .held, reasons := join {}, conveyor := false, gateOpen := false, coldTimer := 0, valveOpen := false } := by
  unfold Part.holdTunnel
  split
  · next held => rw [if_pos held, Part.setDish_dish]
  iterate 3 · next is => rw [if_neg (by simp [is]), Part.stopTunnel_dish]
  · next off => exact absurd off on

/-- What follows the notice when a rack is lost. -/
theorem Part.rackLost_settled (r : Rack) :
    Works settledFoot [rackLostSlot] p
      (((p.rackSettled .lost r).raise rackLostSlot r.number).holdTunnel fun h => { h with lost := true }).judgeValve :=
  ((((p.rackSettled_still .lost r rfl).mono rfl (List.nil_subset _)).trans (Part.raise_works _ _ _).widen).trans
    (Part.holdTunnel_works _ _ _).widen).trans (Part.judgeValve_works _ _).widen

end Pulse

section Lost

variable {p : Part} {r : Rack} {rest : List Rack} (queue : p.dish.queue = r :: rest)
include queue

theorem Part.rackLost_told : Told rackFoot [rackLostSlot] r.tells p (p.rackLost r).judgeValve := by
  rw [Part.rackLost, Part.removeOldest_told .lost queue]
  exact (Part.rackNotice_noticed _ r).told (p.rackOut_works .lost r rest) (Part.rackLost_settled r)

theorem Part.rackLost_stock (kind : Fin 4) :
    (p.rackLost r).judgeValve.stock.get kind = (p.stock.get kind).afterExit .lost (r.plates kind) := by
  rw [Part.judgeValve, Part.setValve_stock, Part.rackLost, (Part.holdTunnel_works _ [] _).moves.touches.stock rfl,
    Part.raise_stock, (Part.removeOldest_removed queue).stock]

theorem Part.rackLost_slot : (p.rackLost r).judgeValve.desk.conds.get rackLostSlot =
    ((p.desk.conds.get rackLostSlot).raise p.uptime r.number).ret := by
  have removed := Part.removeOldest_works p .lost true
  have told := p.rackOut_works .lost r rest
  have kept : (p.removeOldest .lost true).desk.conds.get rackLostSlot = p.desk.conds.get rackLostSlot := by
    rw [Part.removeOldest_told .lost queue, (Part.rackSettled_still _ .lost r rfl).desk.slots _ (by simp) (by decide),
      (Part.rackNotice_noticed _ r).works.desk.slots _ (by decide) (by decide), told.desk.slots _ (by simp) (by decide)]
  rw [(Part.judgeValve_works _ []).desk.slots _ (by simp) (by decide), Part.rackLost,
    (Part.holdTunnel_works _ [] _).desk.slots _ (by simp) (by decide), Part.raise_desk,
    Desk.raise_slot _ _ _ _ (by decide), if_pos (by decide), kept, removed.moves.touches.uptime rfl]

theorem Part.rackLost_dish (on : p.dish.state ≠ .off) : (p.rackLost r).judgeValve.dish = { p.dish with
    state := .held
    reasons := { (if p.dish.state = .held then p.dish.reasons else {}) with lost := true }
    queue := rest, valveOpen := false, gateOpen := false
    conveyor := if p.dish.state = .held then p.dish.conveyor else false
    coldTimer := if p.dish.state = .held then p.dish.coldTimer else 0
    ring := (p.dish.appendRing (r.removed .lost p.uptime)).ring
    overwrites := (p.dish.appendRing (r.removed .lost p.uptime)).overwrites } := by
  have removed := (Part.removeOldest_removed (outcome := .lost) queue).dish
  rw [Part.judgeValve_dish, Part.rackLost, Part.holdTunnel_dish _ (by simpa [removed] using on), Part.raise_dish, removed]
  by_cases held : p.dish.state = .held <;> simp [held, RackOutcome.failedRinse]

end Lost

/-- Settles O37: the racks advance; the oldest stays within the limit, or leaves as LOST and holds the tunnel. -/
theorem encoderPulseAdvancesEveryRack : Obligations.EncoderPulseAdvancesEveryRack := by
  intro s d moved limit
  have advanced := s.part.racksAdvanced_works
  have dish := s.part.racksAdvanced_dish
  have interlock := s.part.racksAdvanced_interlock
  have taken : exec .encoderPulse s = .next (s.event s.part.racksAdvanced.checkLost.judgeValve) := rfl
  have kept := advanced.moves.touches
  generalize s.part.racksAdvanced = p at *
  refine ⟨?within, ?lost⟩
  case within =>
    intro within valve
    have judged := Part.judgeValve_works p []
    have valveDish := p.judgeValve_dish
    have feeder := p.setValve_feeder p.dish.valveTerms
    have stays : p.checkLost = p := Part.checkLost_within (by rw [dish]; exact within)
    rw [stays] at taken
    refine ⟨_, taken, ?_⟩
    change p.judgeValve.feeder = _ at feeder
    rw [dish, kept.feeder rfl] at feeder
    rw [dish] at valveDish
    generalize p.judgeValve = q at *
    have heaters := congrArg Feeder.heaters feeder
    refine ⟨(advanced.widen.trans judged.widen).happened, ?_, valveDish, ?_, fun m other => ?_, ?_⟩
    · exact (judged.moves.touches.interlock rfl).trans interlock
    · exact feeder.trans (congrArg (fun h => { s.part.feeder with heaters := h }) heaters.symm)
    · exact (congrArg (·.get m) heaters).trans (Table.get_set_ne _ _ other)
    · exact (congrArg (·.get 15) heaters).trans (Table.get_set_self _ _ _)
  case lost =>
    intro r rest queue beyond on entering reasons lost
    have held : p.dish.queue = r :: rest := by rw [dish]; exact queue
    have told := Part.rackLost_told held
    have slot := Part.rackLost_slot held
    have plates := Part.rackLost_stock held
    have lostDish := Part.rackLost_dish held (by rw [dish]; exact on)
    rw [Part.checkLost_lost held (by rw [dish]; exact beyond)] at taken
    rw [kept.conds rfl, kept.uptime rfl] at slot
    rw [kept.stock rfl] at plates
    rw [dish, kept.uptime rfl] at lostDish
    generalize (p.rackLost r).judgeValve = q at *
    obtain ⟨happened, noticed, waves⟩ :=
      (Told.preceded (g := { rackFoot with interlock := true }) advanced told).event
    refine ⟨_, taken, happened, (told.works.moves.touches.interlock rfl).trans interlock, lostDish.trans ?_, slot, noticed,
      waves, fun kind is => ?_, fun kind other => ?_⟩
    · rw [Dish.appendRing_dequeued]
      by_cases isHeld : s.part.dish.state = .held
      all_goals
        simp only [entering, reasons, d, State.dish, isHeld, ne_eq, not_true, not_false_eq_true, decide_true, decide_false,
          if_true, if_false, Bool.false_eq_true]
        rfl
    · exact (plates kind).trans (by rw [Rack.plates, if_pos is]; rfl)
    · exact (plates kind).trans (by rw [Rack.plates, if_neg other]; rfl)

end Sys2Proof.Machine
end

section
/-!
Chapter 6: the rack exit edge (R118, R102, R93).
-/

namespace Sys2Proof.Machine

-- The proofs are taken one after the other, which keeps few threads waiting for one another.
set_option Elab.async false

/-! ## The outcome of a rack (R118) -/

section Outcome

variable {d : Dish} {r : Rack}

/-- The rack was washed: its least wash temperature is known and reaches the minimum. -/
def Dish.washed (d : Dish) (r : Rack) : Prop := ∃ low, r.washMin = some low ∧ (d.cfg.washMin : Int) ≤ low

theorem Dish.judgeRack_failedDose (short : r.dose < d.cfg.dose) : d.judgeRack r = .failedDose := if_pos short

theorem Dish.judgeRack_failedWash (dosed : d.cfg.dose ≤ r.dose) (cold : ¬ d.washed r) :
    d.judgeRack r = .failedWash := by
  rw [Dish.judgeRack, if_neg (Nat.not_lt.mpr dosed)]
  split
  · rfl
  · next low is => exact if_pos (not_le.mp fun reaches => cold ⟨low, is, reaches⟩)

theorem Dish.judgeRack_passed (dosed : d.cfg.dose ≤ r.dose) (washed : d.washed r) : d.judgeRack r = .passed := by
  obtain ⟨low, is, reaches⟩ := washed
  simp only [Dish.judgeRack, if_neg (Nat.not_lt.mpr dosed), is, if_neg (not_lt.mpr reaches)]

theorem Dish.judgeRack_failedRinse : (d.judgeRack r).failedRinse = true ↔ d.judgeRack r ≠ .passed := by
  unfold Dish.judgeRack
  split
  · simp [RackOutcome.failedRinse]
  · split
    · simp [RackOutcome.failedRinse]
    · split <;> simp [RackOutcome.failedRinse]

end Outcome

/-- The stock counts after an exit move, by whether the rack passed. -/
theorem Stock.afterExit_plates {outcome : RackOutcome} {r : Rack} {kind : Fin 4} {s : Stock} :
    s.afterExit outcome (r.plates kind) =
      if r.kind ≠ some kind then s
      else if outcome = .passed then { s with tunnel := s.tunnel - r.count, clean := s.clean + r.count }
      else { s with tunnel := s.tunnel - r.count, soiled := s.soiled + r.count } := by
  by_cases of : r.kind = some kind
  · rw [if_neg (by simp [of]), Rack.plates, if_pos of]
    cases outcome <;> rfl
  · rw [if_pos of, Rack.plates, if_neg of, Stock.afterExit_zero]

/-! ## The edge (R118) -/

/-- A rack's position lies in the exit window (R118). -/
def DishConfig.exits (g : DishConfig) (r : Rack) : Prop :=
  g.tunnelLength - g.exitTolerance ≤ r.position ∧ r.position ≤ g.tunnelLength + g.exitTolerance

/-- An exit edge completes a rack whose plates a notice tells of. -/
def Dish.exitTells (d : Dish) (v : Wave) : Prop :=
  d.state ≠ .off ∧ ∃ r, d.queue.head? = some r ∧ d.cfg.exits r ∧ r.tells v

theorem Dish.exitTells_cons {d : Dish} {r : Rack} {rest : List Rack} (queue : d.queue = r :: rest) (v : Wave) :
    d.exitTells v ↔ d.state ≠ .off ∧ d.cfg.exits r ∧ r.tells v := by
  simp [Dish.exitTells, queue]

section Edge

variable {p p₀ : Part} {r : Rack} {rest : List Rack} {concerns : Wave → Prop}

theorem Part.rackExitEdge_off (off : p.dish.state = .off) : p.rackExitEdge = p := if_pos off

theorem Part.rackExitEdge_empty (on : p.dish.state ≠ .off) (empty : p.dish.queue = []) :
    p.rackExitEdge = p.raise exitUnmatchedSlot 65535 := by
  unfold Part.rackExitEdge
  rw [if_neg on, empty]

theorem Part.rackExitEdge_matched (on : p.dish.state ≠ .off) (queue : p.dish.queue = r :: rest)
    (inside : p.dish.cfg.inWindow r.position = true) : p.rackExitEdge = p.removeOldest (p.dish.judgeRack r) true := by
  unfold Part.rackExitEdge
  rw [if_neg on, queue]
  exact if_pos inside

theorem Part.rackExitEdge_apart (on : p.dish.state ≠ .off) (queue : p.dish.queue = r :: rest)
    (outside : ¬ p.dish.cfg.inWindow r.position = true) :
    p.rackExitEdge = p.raise exitUnmatchedSlot (BitVec.ofNat 16 r.position) := by
  unfold Part.rackExitEdge
  rw [if_neg on, queue]
  exact if_neg outside

/-- The slots of an exit edge beside the waves'. -/
def exitSlots : List (Fin 87) := [exitUnmatchedSlot, rinseFailSlot]

/-- An edge that completes no rack has no wave judged. -/
theorem Part.unmatched_told {q : Part} (before : Works { interlock := true } [] p₀ p) (after : Works deskFoot exitSlots p q)
    (never : ∀ v, ¬ concerns v) : Told { rackFoot with interlock := true } exitSlots concerns p₀ q :=
  (PartNoticed.none never).told before after

theorem Part.unmatched_slot (p : Part) (position : Half) : (p.raise exitUnmatchedSlot position).desk.conds.get
    exitUnmatchedSlot = ((p.desk.conds.get exitUnmatchedSlot).raise p.uptime position).ret := by
  rw [Part.raise_desk, Desk.raise_slot _ _ _ _ (by decide), if_pos (by decide)]

theorem Part.removeOldest_exit (before : Works { interlock := true } [] p₀ p) (outcome : RackOutcome)
    (queue : p.dish.queue = r :: rest) :
    Told { rackFoot with interlock := true } exitSlots r.tells p₀ (p.removeOldest outcome true) := by
  rw [Part.removeOldest_told outcome queue]
  exact (Part.rackNotice_noticed _ r).told (before.widen.trans (p.rackOut_works outcome r rest).widen :
    Works { interlock := true, dish := true, stock := true } [] p₀ _)
    ((Part.rackSettled_works _ outcome r).mono (own' := exitSlots) (g := settledFoot) rfl (by simp [exitSlots]))

end Edge

/-- Settles O39: the edge by the tunnel's state and by the position of its oldest rack. -/
theorem rackExitJudgesTheOldestRack : Obligations.RackExitJudgesTheOldestRack := by
  intro s rises d inWindow unmatched
  have risen := Part.setLine_works s.part [] .rackExit { raw := true, filtered := true, timing := false }
  have isAsserted := s.part.setLine_asserted .rackExit { raw := true, filtered := true, timing := false }
  have dish := s.part.setLine_dish .rackExit { raw := true, filtered := true, timing := false }
  have stock := s.part.setLine_stock .rackExit { raw := true, filtered := true, timing := false }
  have kept := risen.moves.touches
  refine ⟨_, exec_rising rises, ?_⟩
  have handed (p : Part) : p.handOn .rackExit true = p.rackExitEdge := rfl
  rw [handed]
  generalize s.part.setLine .rackExit { raw := true, filtered := true, timing := false } = p at *
  have asserted := asserted_of_works p.rackExitEdge_works isAsserted
  have raised (position : Half) : Works deskFoot exitSlots p (p.raise exitUnmatchedSlot position) :=
    (Part.raise_works p _ _).mono rfl (by simp [exitSlots])
  have slot (position : Half) := p.unmatched_slot position
  simp only [kept.conds rfl, kept.uptime rfl] at slot
  have window (r : Rack) : p.dish.cfg.inWindow r.position = true ↔ d.cfg.exits r := by
    rw [dish]
    exact within_iff _ _ _
  by_cases off : p.dish.state = .off
  case pos =>
    rw [Part.rackExitEdge_off off] at asserted ⊢
    rw [dish] at off
    obtain ⟨happened, noticed, waves⟩ :=
      (Part.unmatched_told risen (.refl deskFoot exitSlots p) fun v (tells : d.exitTells v) => tells.1 off).event
    exact ⟨happened, noticed, waves, asserted, fun _ => ⟨dish, stock, kept.conds rfl⟩, fun on => absurd off on,
      fun _ _ _ on => absurd off on⟩
  have on : d.state ≠ .off := by rwa [dish] at off
  cases queue : p.dish.queue with
  | nil =>
    rw [Part.rackExitEdge_empty off queue] at asserted ⊢
    rw [dish] at queue
    obtain ⟨happened, noticed, waves⟩ :=
      (Part.unmatched_told risen (raised 65535) fun v (tells : d.exitTells v) => by
        obtain ⟨-, r, isHead, -⟩ := tells
        simp [d, State.dish, queue] at isHead).event
    exact ⟨happened, noticed, waves, asserted, fun off => absurd off on, fun _ _ => ⟨dish, stock, slot _⟩,
      fun r rest is => absurd (queue.symm.trans is) (by simp)⟩
  | cons r rest =>
    have head (r' : Rack) (rest' : List Rack) (is : d.queue = r' :: rest') : r' = r ∧ rest' = rest := by
      rw [dish] at queue
      exact List.cons.inj (is.symm.trans queue)
    have some : d.queue ≠ [] := by
      rw [dish] at queue
      exact fun empty => absurd (queue.symm.trans empty) (by simp)
    have tells : ∀ v, d.exitTells v ↔ d.state ≠ .off ∧ d.cfg.exits r ∧ r.tells v :=
      Dish.exitTells_cons (by rwa [dish] at queue)
    by_cases inside : p.dish.cfg.inWindow r.position = true
    · have told := Part.removeOldest_exit risen (p.dish.judgeRack r) queue
      have removed := Part.removeOldest_removed (outcome := p.dish.judgeRack r) queue
      rw [Part.rackExitEdge_matched off queue inside] at asserted ⊢
      generalize p.removeOldest (p.dish.judgeRack r) true = q at *
      obtain ⟨happened, noticed, waves⟩ := (told.congr fun v => (tells v).trans (by
        rw [and_iff_right on, and_iff_right ((window r).mp inside)])).event
      refine ⟨happened, noticed, waves, asserted, fun off => absurd off on, fun _ empty => absurd empty some,
        fun r' rest' is _ => ?_⟩
      obtain ⟨rfl, rfl⟩ := head r' rest' is
      refine ⟨fun outside => absurd ((window _).mp inside) outside, ?_⟩
      intro _ washed
      have failedRinse := Dish.judgeRack_failedRinse (d := p.dish) (r := r')
      have failedDose := Dish.judgeRack_failedDose (d := p.dish) (r := r')
      have failedWash := Dish.judgeRack_failedWash (d := p.dish) (r := r')
      have passed := Dish.judgeRack_passed (d := p.dish) (r := r')
      generalize p.dish.judgeRack r' = outcome at *
      obtain ⟨record, plates, rinse⟩ := removed
      rw [kept.conds rfl, kept.uptime rfl] at rinse
      rw [dish, kept.uptime rfl] at record
      rw [dish] at failedDose failedWash passed
      rw [stock] at plates
      have shown : (s.event q).dish = _ := record
      refine ⟨outcome, failedDose, failedWash, passed, ?_⟩
      intro rack failed
      rw [shown]
      refine ⟨rfl, rfl, rfl, rfl, fun fails => ?_, fun passes => ?_, rfl, fun kind => (plates kind).trans Stock.afterExit_plates⟩
      · have fails := failedRinse.mpr fails
        refine ⟨?_, ?_, rinse.trans (if_pos fails)⟩ <;> simp [fails]
      · have passes : outcome.failedRinse = false := by simpa using mt failedRinse.mp passes
        refine ⟨?_, rinse.trans (if_neg (by simp [passes]))⟩
        simp [passes]
        rfl
    · rw [Part.rackExitEdge_apart off queue inside] at asserted ⊢
      obtain ⟨happened, noticed, waves⟩ :=
        (Part.unmatched_told risen (raised (BitVec.ofNat 16 r.position)) fun v (told : d.exitTells v) =>
          inside ((window r).mpr ((tells v).mp told).2.1)).event
      refine ⟨happened, noticed, waves, asserted, fun off => absurd off on, fun _ empty => absurd empty some,
        fun r' rest' is _ => ?_⟩
      obtain ⟨rfl, rfl⟩ := head r' rest' is
      exact ⟨fun _ => ⟨dish, stock, slot _⟩, fun within => absurd ((window _).mpr within) inside⟩

end Sys2Proof.Machine
end

section
/-!
Chapter 7: what a close makes of the heaters, the slots and the pages (R139, R172).
-/

namespace Sys2Proof.Machine

-- The proofs are taken one after the other, which keeps few threads waiting for one another.
set_option Elab.async false

/-! ## Release notices (R83) -/

section Release

variable (p : Part) (n : Fin 8)

/-- A loop that is not OFF is in AUTO or MANUAL already: an AUTO request leaves it (R33). -/
theorem Part.ownerAuto_on {m : Fin 16} (on : (p.loops.get m).base ≠ .off) : p.ownerAuto m = p := by
  unfold Part.ownerAuto
  dsimp only
  split
  iterate 2 · rfl
  · next off => exact absurd off on

theorem Part.runCabinetLoop_pages (m : CabinetMode) : Pages [1] p (p.runCabinetLoop n m) := by
  by_cases off : m = .off
  · subst off
    exact .of_works (Part.ownerOff_works p [] _)
  · rw [p.runCabinetLoop_on n m off]
    exact (Pages.of_works (Part.requestSetpoint_works p [] _ _)).trans (Part.ownerAuto_pages _ _)

theorem Part.changeMode_pages (m : CabinetMode) (waveSet : Bool) : Pages [1] p (p.changeMode n m waveSet) := by
  by_cases same : m = (p.cabinets.get n).mode
  · rw [p.changeMode_same n m waveSet same]
    exact .of_works (Part.setCabinet_works p [] n _)
  · rw [p.changeMode_new n m waveSet same]
    have stored : Pages [1] p (p.setCabinet n { p.cabinets.get n with mode := m, waveSet }) :=
      .of_works (Part.setCabinet_works p [] n _)
    exact (stored.trans (Part.runCabinetLoop_pages _ n m)).trans (.of_works (Part.classNotice_works _ [] _ _))

/-- A mode change of a cabinet whose loop is on leaves the desk, and no loop's mode changes. -/
theorem Part.changeMode_on {m : CabinetMode} (waveSet : Bool) (notOff : m ≠ .off)
    (on : (p.loops.get (cabinetLoop n)).base ≠ .off) :
    Works { cabinets := true, loops := true, feeder := true } [] p (p.changeMode n m waveSet) ∧
      ∀ x, ((p.changeMode n m waveSet).loops.get x).base = (p.loops.get x).base := by
  by_cases same : m = (p.cabinets.get n).mode
  · rw [p.changeMode_same n m waveSet same]
    exact ⟨(Part.setCabinet_works p [] n _).widen, fun x => by rw [Part.setCabinet_loops]⟩
  · have stored := Part.setCabinet_works p [] n { p.cabinets.get n with mode := m, waveSet }
    have loops := Part.setCabinet_loops p n { p.cabinets.get n with mode := m, waveSet }
    rw [p.changeMode_new n m waveSet same, Part.runCabinetLoop_on _ n m notOff]
    generalize p.setCabinet n { p.cabinets.get n with mode := m, waveSet } = q at *
    have base (sp : Int) (x : Fin 16) :
        ((q.requestSetpoint (cabinetLoop n) sp).loops.get x).base = (p.loops.get x).base := by
      rw [Part.requestSetpoint_loops, Table.get_set, loops]
      split
      · next is => rw [is]; rfl
      · rfl
    rw [Part.ownerAuto_on _ (by rw [base]; exact on)]
    refine ⟨(stored.widen.trans (Part.requestSetpoint_works _ [] _ _).widen).trans (Part.classNotice_works _ [] _ _).widen,
      fun x => ?_⟩
    rw [(Part.classNotice_works _ [] _ _).moves.touches.loops rfl, base]

theorem Part.releaseNotice_pages : Pages [1] p (p.releaseNotice n) := by
  have store (q : Part) (c : Cabinet) : Pages [1] q (q.setCabinet n c) := .of_works (Part.setCabinet_works q [] n c)
  unfold Part.releaseNotice
  dsimp only
  split
  · exact (store _ _).trans (Part.changeMode_pages _ n _ _)
  · exact (store _ _).trans (store _ _)

theorem Part.releaseNotice_on (on : (p.loops.get (cabinetLoop n)).base ≠ .off) :
    Works { cabinets := true, loops := true, feeder := true } [] p (p.releaseNotice n) ∧
      ∀ x, ((p.releaseNotice n).loops.get x).base = (p.loops.get x).base := by
  have store (q : Part) (c : Cabinet) :
      Works { cabinets := true, loops := true, feeder := true } [] q (q.setCabinet n c) := (Part.setCabinet_works q [] n c).widen
  unfold Part.releaseNotice
  dsimp only
  split
  · obtain ⟨works, bases⟩ := (p.setCabinet n { p.cabinets.get n with waveSlot := none }).changeMode_on n (m := .standby)
      false (by decide) (by rwa [Part.setCabinet_loops])
    refine ⟨(store _ _).trans works, fun x => ?_⟩
    rw [bases, Part.setCabinet_loops]
  · refine ⟨(store _ _).trans (store _ _), fun x => ?_⟩
    rw [Part.setCabinet_loops, Part.setCabinet_loops]

theorem Part.releaseNotice_heater {m : Fin 16} (other : m ≠ cabinetLoop n) :
    (p.releaseNotice n).feeder.heaters.get m = p.feeder.heaters.get m := by
  unfold Part.releaseNotice
  dsimp only
  split
  · next serves =>
    have new : CabinetMode.standby ≠
        ((p.setCabinet n { p.cabinets.get n with waveSlot := none }).cabinets.get n).mode := by
      rw [Bool.and_eq_true, decide_eq_true_eq] at serves
      simp [serves.2]
    rw [Part.changeMode_heater _ n _ false new, if_neg other, Part.setCabinet_feeder]
  · rw [Part.setCabinet_feeder, Part.setCabinet_feeder]

theorem Part.releaseNotice_slot {i : Fin 87} (apart : i ≠ overtempSlot (cabinetLoop n)) (answered : i ≠ unansweredSlot) :
    (p.releaseNotice n).desk.conds.get i = p.desk.conds.get i :=
  (Part.releaseNotice_works p n).desk.slots i (by simpa using apart) answered

end Release

section Released

variable (items : List (Fin 8)) (p : Part)

/-- Release notices to cabinets whose loops are on leave the desk. -/
theorem Part.releaseNotices_on (on : ∀ n ∈ items, (p.loops.get (cabinetLoop n)).base ≠ .off) :
    Works { cabinets := true, loops := true, feeder := true } [] p (items.foldl (fun q n => q.releaseNotice n) p) := by
  induction items generalizing p with
  | nil => exact .refl _ _ _
  | cons n rest ih =>
    obtain ⟨first, bases⟩ := p.releaseNotice_on n (on n List.mem_cons_self)
    exact first.trans (ih _ fun m mem => by rw [bases]; exact on m (List.mem_cons_of_mem _ mem))

end Released

/-! ## The close (R139) -/

section Close

variable (p : Part) (w : Fin 12) (v : Wave)

/-- Heaters of no listed oven keep their entry. -/
theorem Part.ovenClasses_heater_other (c : HeaterClass) {n : Fin 6} (absent : n ∉ v.ovens) :
    (p.ovenClasses v c).feeder.heaters.get (ovenLoop n) = p.feeder.heaters.get (ovenLoop n) := by
  unfold Part.ovenClasses
  generalize v.ovens = items at absent ⊢
  induction items generalizing p with
  | nil => rfl
  | cons first rest ih =>
    obtain ⟨apart, others⟩ := not_or.mp (mt List.mem_cons.mpr absent)
    have differs : ovenLoop n ≠ ovenLoop first := fun same => apart (ovenLoop_injective same)
    rw [List.foldl_cons, ih _ others, Part.classNotice_heater, if_neg differs]

theorem Part.letGo_heater (n : Fin 6) (absent : v.state = .planned ∨ n ∉ v.ovens) :
    (p.letGo w v).feeder.heaters.get (ovenLoop n) = p.feeder.heaters.get (ovenLoop n) := by
  have released : ((v.cabinets.foldl (fun q n => q.releaseNotice n)
      (p.setWave w (some { v with state := .closed }))).feeder.heaters.get (ovenLoop n)) =
        p.feeder.heaters.get (ovenLoop n) := by
    have kept := foldl_kept (fun q : Part => q.feeder.heaters.get (ovenLoop n)) (fun (q : Part) m => q.releaseNotice m)
      (fun q m => q.releaseNotice_heater m (ovenLoop_ne_cabinetLoop n m)) v.cabinets
      (p.setWave w (some { v with state := .closed }))
    rwa [Part.setWave_feeder] at kept
  unfold Part.letGo
  dsimp only
  split
  · exact released
  · next past => rw [Part.ovenClasses_heater_other _ _ _ (absent.resolve_left past), released]

theorem Part.letGo_cls (past : v.state ≠ .planned) {n : Fin 6} (listed : n ∈ v.ovens) :
    ((p.letGo w v).feeder.heaters.get (ovenLoop n)).cls = .standby := by
  rw [Part.letGo, if_neg past, Part.ovenClasses_cls, if_pos listed]

theorem Part.letGo_slot {i : Fin 87} (apart : ∀ n, i ≠ overtempSlot n) (answered : i ≠ unansweredSlot) :
    (p.letGo w v).desk.conds.get i = p.desk.conds.get i := by
  have released := foldl_kept (fun q : Part => q.desk.conds.get i) (fun (q : Part) m => q.releaseNotice m)
    (fun q m => q.releaseNotice_slot m (apart _) answered) v.cabinets (p.setWave w (some { v with state := .closed }))
  rw [Part.setWave_conds] at released
  unfold Part.letGo
  dsimp only
  split
  · exact released
  · exact ((Part.ovenClasses_works _ [] v .standby).desk.slots i (by simp) answered).trans released

theorem Part.letGo_pages : Pages [1] p (p.letGo w v) := by
  have released : Pages [1] p (v.cabinets.foldl (fun q n => q.releaseNotice n)
      (p.setWave w (some { v with state := .closed }))) :=
    (Pages.of_works (Part.setWave_works p [] w _)).trans (.foldl _ (fun q n => q.releaseNotice_pages n) _ _)
  unfold Part.letGo
  dsimp only
  split
  · exact released
  · exact released.trans (.of_works (Part.ovenClasses_works _ [] v .standby))

/-- No page comes of the cabinets' loops where OVERTEMP has no route or every loop is on. -/
theorem Part.letGo_quiet (busy : p.desk.pager.port ≠ .idle)
    (quiet : (p.desk.pager.routes.get 1).enabled = false ∨
      ∀ n ∈ v.cabinets, (p.loops.get (cabinetLoop n)).base ≠ .off) :
    (p.letGo w v).desk.pager = p.desk.pager := by
  rcases quiet with off | on
  · exact (p.letGo_pages w v).quiet busy (by simpa using off)
  · have released := Part.releaseNotices_on v.cabinets (p.setWave w (some { v with state := .closed }))
      (by rwa [Part.setWave_loops])
    have pager := released.moves.touches.pager rfl
    rw [Part.setWave_pager] at pager
    unfold Part.letGo
    dsimp only
    split
    · exact pager
    · exact ((Part.ovenClasses_works _ [] v .standby).moves.touches.pager rfl).trans pager

theorem Part.unshort_pager : (p.unshort w v).desk.pager = p.desk.pager := by
  unfold Part.unshort
  split <;> simp

theorem Part.unlate_pager : (p.unlate w v).desk.pager = p.desk.pager := by
  unfold Part.unlate
  split <;> simp

theorem Part.unshort_slot : (p.unshort w v).desk.conds.get (platesShortSlot w) =
    if v.short then (p.desk.conds.get (platesShortSlot w)).ret else p.desk.conds.get (platesShortSlot w) := by
  unfold Part.unshort
  split <;> simp

theorem Part.unlate_slot : (p.unlate w v).desk.conds.get (waveLateSlot w) =
    if v.late then (p.desk.conds.get (waveLateSlot w)).ret else p.desk.conds.get (waveLateSlot w) := by
  unfold Part.unlate
  split <;> simp

/-- A close ahead of its cancel notice. -/
def Part.lettingGo : Part := ((p.letGo w v).unshort w v).unlate w v

theorem Part.closeWave_cancels : p.closeWave w v = (p.lettingGo w v).cancelNotice (.wave w) := rfl

theorem Part.lettingGo_pager : (p.lettingGo w v).desk.pager = (p.letGo w v).desk.pager := by
  rw [Part.lettingGo, Part.unlate_pager, Part.unshort_pager]

theorem Part.closeWave_feeder : (p.closeWave w v).feeder = (p.letGo w v).feeder := by
  rw [p.closeWave_eq, Part.cancelNotice_feeder, (Part.unlate_works _ w v).moves.touches.feeder rfl,
    (Part.unshort_works _ w v).moves.touches.feeder rfl]

theorem Part.closeWave_short : (p.closeWave w v).desk.conds.get (platesShortSlot w) =
    if v.short then (p.desk.conds.get (platesShortSlot w)).ret else p.desk.conds.get (platesShortSlot w) := by
  have answered := platesShortSlot_ne_unanswered w
  have apart (n : Fin 16) : platesShortSlot w ≠ overtempSlot n := fun is =>
    overtempSlot_not_wave n (is ▸ platesShortSlot_mem w)
  rw [p.closeWave_cancels, (Part.cancelNotice_works _ [] (.wave w)).desk.slots _ (by simp) answered, Part.lettingGo,
    (Part.unlate_works _ w v).desk.slots _ (by simpa using waveSlots_apart w w) answered, Part.unshort_slot,
    p.letGo_slot w v apart answered]

theorem Part.closeWave_late : (p.closeWave w v).desk.conds.get (waveLateSlot w) =
    if v.late then (p.desk.conds.get (waveLateSlot w)).ret else p.desk.conds.get (waveLateSlot w) := by
  have answered := waveLateSlot_ne_unanswered w
  have apart (n : Fin 16) : waveLateSlot w ≠ overtempSlot n := fun is =>
    overtempSlot_not_wave n (is ▸ waveLateSlot_mem w)
  rw [p.closeWave_cancels, (Part.cancelNotice_works _ [] (.wave w)).desk.slots _ (by simp) answered, Part.lettingGo,
    Part.unlate_slot, (Part.unshort_works _ w v).desk.slots _ (by simpa using (waveSlots_apart w w).symm) answered,
    p.letGo_slot w v apart answered]

/-- The wave's page is cancelled, and no page of another source that the desk had cancelled comes back. -/
theorem Part.closeWave_clears {S : Source → Prop} (slots : ∀ i, ¬ S (.slot i)) (waves : ∀ x, ¬ S (.wave x))
    (clear : p.desk.Clears S) : (p.closeWave w v).desk.Clears fun σ => S σ ∨ σ = .wave w := by
  have gone : (p.lettingGo w v).desk.Clears S :=
    ((p.letGo_pages w v).clears S slots waves clear).of_queue (congrArg Pager.queue (p.lettingGo_pager w v))
  rw [p.closeWave_cancels, Part.cancelNotice_desk]
  exact Desk.Clears.cancelNotice slots _ gone (.wave w) (by simp) (by simp)

theorem Part.closeWave_noPage (kept : PagesKept p.desk.pager) : noPageBut (.wave w) (p.closeWave w v).desk.pager :=
  (p.closeWave_clears w v (S := fun _ => False) (by simp) (by simp) kept.cleared).noPageBut (.inr rfl)

/-- The whole of the pager after a close that sends no OVERTEMP page (R172). -/
theorem Part.closeWave_paged (busy : p.desk.pager.port ≠ .idle)
    (quiet : (p.desk.pager.routes.get 1).enabled = false ∨
      ∀ n ∈ v.cabinets, (p.loops.get (cabinetLoop n)).base ≠ .off) :
    noticeCancels p.uptime (.wave w) p.desk.pager (p.closeWave w v).desk.pager := by
  have same := (p.lettingGo_pager w v).trans (p.letGo_quiet w v busy quiet)
  have time : (p.lettingGo w v).uptime = p.uptime := (Part.closeWave_works p w v).moves.touches.uptime rfl
  have cancels := (p.lettingGo w v).desk.cancelNotice_cancels p.uptime (.wave w) (same ▸ busy)
  rwa [same, ← time, ← Part.cancelNotice_desk, ← p.closeWave_cancels, time] at cancels

end Close

end Sys2Proof.Machine
end

section
/-!
Chapter 7: RELEASE, CLOSE and DELETE (R137, R139, R140), and the wave that the command before has closed (log entry 41).
-/

namespace Sys2Proof.Machine

-- The proofs are taken one after the other, which keeps few threads waiting for one another.
set_option Elab.async false

/-! ## Serving notices (R95, R137) -/

section Serving

variable (p : Part)

theorem Part.evaluateLow_busy (n : Fin 8) (busy : p.desk.pager.port ≠ .idle) :
    (p.evaluateLow n).desk.pager.port ≠ .idle := by
  by_cases due : p.LowDue n
  · rw [p.evaluateLow_due n due, Part.trigger_desk, Desk.trigger_busy _ _ busy, Desk.triggerCore_port]
    exact busy
  · rwa [p.evaluateLow_notDue n due]

/-- The serving notices of a list of cabinets. -/
def Part.servedAll (items : List (Fin 8)) (p : Part) : Part := items.foldl (fun q n => q.servingNotice n) p

theorem Part.servedAll_works (items : List (Fin 8)) (own : List (Fin 87)) : Works deskFoot own p (p.servedAll items) :=
  Works.foldl _ (fun q n => Part.servingNotice_works q own n) items p

theorem Part.servedAll_busy (items : List (Fin 8)) (busy : p.desk.pager.port ≠ .idle) :
    (p.servedAll items).desk.pager.port ≠ .idle := by
  induction items generalizing p with
  | nil => exact busy
  | cons n rest ih => exact ih _ (p.evaluateLow_busy n busy)

/-- A cabinet of a wave that serves is low exactly where fewer plates are ready than its mark. -/
theorem Part.lowDue_of_serving {w : Fin 12} {n : Fin 8} (listed : (p.cabinets.get n).waveSlot = some w)
    (serves : ∃ v, p.waves.get w = some v ∧ v.state = .serving) :
    p.LowDue n ↔ (p.cabinets.get n).ready < (p.cabinets.get n).lowMark := by
  simp [Part.LowDue, listed, serves]

theorem Part.servedAll_low {s : State} {w : Fin 12} (items : List (Fin 8))
    (listed : ∀ n ∈ items, (s.cabinet n).waveSlot = some w) (cabinets : p.cabinets = s.part.cabinets)
    (time : p.uptime = s.part.uptime) (serves : ∃ v, p.waves.get w = some v ∧ v.state = .serving)
    (busy : p.desk.pager.port ≠ .idle) : lowTriggers s items p.desk.pager (p.servedAll items).desk.pager := by
  induction items generalizing p with
  | nil => rfl
  | cons n rest ih =>
    have kept := (Part.evaluateLow_works p [] n).moves.touches
    have later := ih (p.evaluateLow n) (fun m mem => listed m (List.mem_cons_of_mem _ mem)) ((kept.cabinets rfl).trans cabinets)
      ((kept.uptime rfl).trans time) (by rwa [kept.waves rfl]) (p.evaluateLow_busy n busy)
    obtain ⟨sent, still⟩ := p.evaluateLow_pages n busy
    have due := p.lowDue_of_serving (by rw [cabinets]; exact listed n List.mem_cons_self) serves
    rw [due, time] at sent
    rw [due] at still
    rw [cabinets] at sent still
    exact ⟨_, later, fun above => still (Nat.not_lt.mpr above), sent⟩

/-- A plate check that raises nothing, or whose page has no route, leaves the pager. -/
theorem Part.plateCheck_unraised {w : Fin 12} {v : Wave} (held : p.waves.get w = some v) (busy : p.desk.pager.port ≠ .idle)
    (quiet : (v.checked p).short = true → v.short = true ∨ (p.desk.pager.routes.get 7).enabled = false) :
    (p.plateCheck w).desk.pager = p.desk.pager := by
  by_cases off : (p.desk.pager.routes.get 7).enabled = false
  · exact p.plateCheck_pager w held busy off
  · rw [p.plateCheck_eq w held]
    split
    · split <;> simp
    · next flag =>
      exact congrArg (fun q : Part => q.desk.pager)
        (if_neg fun lacks => flag ((quiet (decide_eq_true lacks)).resolve_right off))

end Serving

/-! ## RELEASE (R137) -/

section Release

variable (p : Part) (w : Fin 12) (v : Wave)

/-- A wave in SERVING. -/
def Wave.started (v : Wave) : Wave := { v with state := .serving }

/-- The wave in SERVING with its cabinets told, ahead of its judgement. -/
def Part.serviceBegun : Part := (p.setWave w (some v.started)).servedAll v.cabinets

theorem Part.serviceBegun_works : Works noticeFoot [] p (p.serviceBegun w v) :=
  (Part.setWave_works p _ _ _).widen.trans (Part.servedAll_works _ _ _).widen

theorem Part.serviceBegun_waves : (p.serviceBegun w v).waves = p.waves.set w (some v.started) :=
  ((Part.servedAll_works _ v.cabinets []).moves.touches.waves rfl).trans (Part.setWave_waves _ _ _)

theorem Part.serviceBegun_wave : (p.serviceBegun w v).waves.get w = some v.started := by
  rw [p.serviceBegun_waves, Table.get_set_self]

/-- What a RELEASE that is taken leaves. -/
def Part.released : Part := (p.serviceBegun w v).judgeWave w

theorem Part.released_eq : p.released w v = (p.serviceBegun w v).plateCheck w :=
  Part.judgeWave_standing _ w (p.serviceBegun_wave w v) (.inr rfl)

theorem Part.released_works : Works noticeFoot (waveOwn w) p (p.released w v) := by
  rw [p.released_eq]
  exact ((p.serviceBegun_works w v).mono rfl (List.nil_subset _)).trans (Part.plateCheck_works _ w)

theorem Part.released_others {x : Fin 12} (other : x ≠ w) : (p.released w v).waves.get x = p.waves.get x := by
  rw [p.released_eq, (Part.plateCheck_judges _ w).others x other, p.serviceBegun_waves, Table.get_set_ne _ _ other]

theorem Part.serviceBegun_potential : (p.serviceBegun w v).potential v.started = p.potential v :=
  have kept := (p.serviceBegun_works w v).moves.touches
  Part.potential_congr (kept.cabinets rfl) (kept.stock rfl) v.started

/-- The wave as its judgement leaves it. -/
theorem Wave.started_checked :
    v.started.checked (p.serviceBegun w v) = { v with state := .serving, short := decide (p.potential v < v.need) } := by
  rw [Wave.checked, p.serviceBegun_potential]
  rfl

theorem Part.released_wave : (p.released w v).waves.get w =
    some { v with state := .serving, short := decide (p.potential v < v.need) } := by
  rw [p.released_eq, Part.plateCheck_wave _ w (p.serviceBegun_wave w v), Wave.started_checked]

theorem Part.released_short : (p.released w v).desk.conds.get (platesShortSlot w) =
    shortSlotAfter (ofPart p) w v.short (decide (p.potential v < v.need)) (v.need - p.potential v) := by
  have begun := p.serviceBegun_works w v
  rw [p.released_eq, Part.plateCheck_short _ w (p.serviceBegun_wave w v), Wave.started_checked,
    p.serviceBegun_potential]
  simp only [shortSlotAfter, ofPart, State.slot, begun.moves.touches.uptime rfl,
    begun.desk.slots _ (List.not_mem_nil) (platesShortSlot_ne_unanswered w)]
  rfl

theorem Part.released_late : (p.released w v).desk.conds.get (waveLateSlot w) = p.desk.conds.get (waveLateSlot w) := by
  rw [p.released_eq, Part.plateCheck_late,
    (p.serviceBegun_works w v).desk.slots _ (by simp) (waveLateSlot_ne_unanswered w)]

/-- The pages of a RELEASE: PLATES_LOW for each cabinet, where the plate check sends none (R95, R137). -/
theorem Part.released_low {s : State} (busy : s.pager.port ≠ .idle)
    (listed : ∀ n ∈ v.cabinets, (s.cabinet n).waveSlot = some w)
    (quiet : decide (s.part.potential v < v.need) = true → v.short = true ∨ (s.pager.routes.get 7).enabled = false) :
    lowTriggers s v.cabinets s.pager (s.part.released w v).desk.pager := by
  have begun := s.part.serviceBegun_works w v
  have pager : (s.part.setWave w (some v.started)).desk.pager = s.part.desk.pager := Part.setWave_pager _ _ _
  have low := (s.part.setWave w (some v.started)).servedAll_low v.cabinets listed (Part.setWave_cabinets _ _ _)
    (Part.setWave_uptime _ _ _) ⟨v.started, by rw [Part.setWave_waves, Table.get_set_self], rfl⟩ (pager ▸ busy)
  have still := Part.plateCheck_unraised _ (s.part.serviceBegun_wave w v)
    (Part.servedAll_busy _ v.cabinets (pager ▸ busy)) (by
      rw [Wave.started_checked, begun.desk.routes]
      exact quiet)
  rw [s.part.released_eq, still]
  rw [pager] at low
  exact low

end Release

/-! ## Which of the requests are taken (R127, R137, R139, R140) -/

section Requests

variable {p : Part} {slot number : Byte} {w : Fin 12} {v : Wave} (named : p.named slot number = .wave w v)
include named

theorem release_taken (awaiting : v.state = .ready ∨ v.state = .late) :
    release slot number p = (p.released w v, { status := .ok }) := by
  unfold release
  rw [named]
  rcases awaiting with is | is <;> simp only [is] <;> rfl

theorem release_refused (notReady : v.state ≠ .ready) (notLate : v.state ≠ .late) :
    release slot number p = (p, { status := .state }) := by
  unfold release
  rw [named]
  dsimp only
  split
  · next is => exact absurd is notReady
  · next is => exact absurd is notLate
  all_goals rfl

theorem close_taken (isOpen : v.state ≠ .closed) : close slot number p = (p.closeWave w v, { status := .ok }) := by
  unfold close
  rw [named]
  dsimp only
  split
  iterate 5 rfl
  · next is => exact absurd is isOpen

theorem close_closed (closed : v.state = .closed) :
    close slot number p = (p, { status := if p.justClosed = some w then .ok else .state }) := by
  simp only [close, named, closed]

theorem delete_planned (planned : v.state = .planned) : delete slot number p =
    ((v.cabinets.foldl (fun q n => q.releaseNotice n) p).setWave w none, { status := .ok }) := by
  simp only [delete, named, planned]

theorem delete_closed (closed : v.state = .closed) :
    delete slot number p = (p.setWave w none, { status := .ok }) := by
  simp only [delete, named, closed]

theorem delete_refused (notPlanned : v.state ≠ .planned) (isOpen : v.state ≠ .closed) :
    delete slot number p = (p, { status := .state }) := by
  unfold delete
  rw [named]
  dsimp only
  split
  · next is => exact absurd is notPlanned
  · next is => exact absurd is isOpen
  all_goals rfl

end Requests

/-! ## The wave closed by the command before (log entry 41) -/

theorem event_settles (s : State) (after : Part) :
    (s.event after).part.justClosed = closedByIssue s.part.waves (s.event after).part.waves := rfl

theorem answer_settles (s : State) (kind tag : Byte) (taken : Part × Answer) :
    (s.answer kind tag taken).part.justClosed = closedByIssue s.part.waves (s.answer kind tag taken).part.waves := rfl

/-- Every command leaves the wave that it has closed by an issue notice. -/
theorem exec_justClosed {c : Instr} {s t : State} (taken : exec c s = .next t) :
    t.part.justClosed = closedByIssue s.part.waves t.part.waves := by
  cases c
  case powerOn =>
    cases taken
    refine (List.find?_eq_none.mpr fun w _ => ?_).symm
    simp [Part.poweredOn]
  case controlFrameComplete | replySent | scanVisit | loopCycle | allocationRound | heaterBurstStep | ovenTimingTick |
      warmTick | temperatureCheck | washColdJudgement | encoderPulse | countdownTick | accepted | backoff | backoffEnd |
      silenceTimeout | statusTimer | statusReply | answerAccept | answerDecline | pageDeadline | rawLineChange |
      filterTimerExpiry | controlLinkByte | pagerLinkByte | attentionSent | uptimeSecond =>
    obtain rfl := Host.Outcome.next.inj taken
    exact event_settles _ _
  -- every other command is a request, which is answered
  all_goals
    obtain rfl := Host.Outcome.next.inj taken
    exact answer_settles _ _ _ _

/-- A wave that has closed with its issued count gone up is found. -/
theorem closedByIssue_ne_none {before after : Table (Option Wave) 12} {w : Fin 12} {v u : Wave} (stood : before.get w = some v)
    (ends : after.get w = some u) (served : v.state = .serving) (closed : u.state = .closed)
    (issued : v.issued < u.issued) : closedByIssue before after ≠ none := by
  intro none
  have unfound := List.find?_eq_none.mp none w (List.mem_finRange w)
  simp [stood, ends, served, closed, issued] at unfound

end Sys2Proof.Machine
end

section
/-!
Chapter 7: RELEASE, CLOSE and DELETE as they are answered (R137, R139, R140).
-/

namespace Sys2Proof.Machine

-- The proofs are taken one after the other, which keeps few threads waiting for one another.
set_option Elab.async false

/-! ## DELETE (R140) -/

theorem waveOwn_subset_slotsOfWave (w : Fin 12) (v : Wave) : waveOwn w ⊆ slotsOfWave w v := fun _ mem =>
  List.mem_append_left _ mem

/-- A PLANNED wave deleted: its cabinets let go, and its slot EMPTY (R140). -/
def Part.deletePlanned (w : Fin 12) (v : Wave) (p : Part) : Part :=
  (v.cabinets.foldl (fun q n => q.releaseNotice n) p).setWave w none

theorem Part.deletePlanned_works (p : Part) (w : Fin 12) (v : Wave) :
    Works waveFoot (slotsOfWave w v) p (p.deletePlanned w v) :=
  (cabinets_work p w v _ fun q n => Part.releaseNotice_works q n).trans (Part.setWave_works _ _ _ _).widen

theorem Part.deletePlanned_waves (p : Part) (w : Fin 12) (v : Wave) :
    (p.deletePlanned w v).waves = p.waves.set w none := by
  rw [Part.deletePlanned, Part.setWave_waves, Part.releaseNotices_waves]

theorem Part.deletePlanned_cabinets (p : Part) (w : Fin 12) (v : Wave) (n : Fin 8) :
    (p.deletePlanned w v).cabinets.get n =
      if n ∈ v.cabinets then releasedCabinet (p.cabinets.get n) else p.cabinets.get n := by
  rw [Part.deletePlanned, Part.setWave_cabinets, Part.releaseNotices_cabinets]

/-- Settles O43: each request by the state of its wave, and the close of the command before by the issued counts. -/
theorem releaseCloseAndDeleteEndAWave : Obligations.ReleaseCloseAndDeleteEndAWave := by
  refine ⟨?requests, fun c s t taken => exec_justClosed taken, fun before after w => ⟨closedByIssue_some before after w, ?_⟩⟩
  case requests =>
    intro s tag slot number w is numbered v stands same others released
    have named := Part.named_of_wave is numbered (p := s.part) stands same
    refine ⟨?release, fun notReady notLate => ?_, fun isOpen => ?close, fun closed apart => ?_, fun closed just => ?_,
      ?delete, fun notPlanned isOpen => ?_⟩
    case release =>
      intro awaiting potential need short
      have works := s.part.released_works w v
      have wave := s.part.released_wave w v
      have shortSlot := s.part.released_short w v
      have lateSlot := s.part.released_late w v
      have low := Part.released_low w v (s := s)
      have apart (x : Fin 12) (other : x ≠ w) := s.part.released_others w v other
      have taken : exec (.release tag slot number) s =
          .next (s.answer 0x72 tag (s.part.released w v, { status := .ok })) := by
        simp only [exec, execRelease, release_taken named awaiting]
      generalize s.part.released w v = q at *
      have works' := works.mono (own' := slotsOfWave w v) (g := noticeFoot) rfl (waveOwn_subset_slotsOfWave w v)
      exact ⟨_, taken, works'.answered_part 0x72 tag { status := .ok }, ⟨apart, works'.kept_part 0x72 tag _⟩, wave,
        shortSlot, lateSlot, fun busy listed quiet => low busy listed quiet⟩
    case close =>
      have works := s.part.closeWave_works w v
      have waves := s.part.closeWave_waves w v
      have cabinets := s.part.closeWave_cabinets w v
      have feeder := s.part.closeWave_feeder w v
      have shortSlot := s.part.closeWave_short w v
      have lateSlot := s.part.closeWave_late w v
      have noPage := s.part.closeWave_noPage w v
      have paged := s.part.closeWave_paged w v
      have taken : exec (.close tag slot number) s =
          .next (s.answer 0x73 tag (s.part.closeWave w v, { status := .ok })) := by
        simp only [exec, execClose, close_taken named isOpen]
      generalize s.part.closeWave w v = q at *
      refine ⟨_, taken, works.answered_part 0x73 tag { status := .ok }, ⟨fun x other => ?_, works.kept_part 0x73 tag _⟩, ?_,
        ⟨fun n listed => ?_, fun n absent => ?_⟩, fun past n listed => ?_, fun n absent => ?_, shortSlot, lateSlot, noPage,
        paged⟩
      · exact (congrArg (·.get x) waves).trans (Table.get_set_ne _ _ other)
      · exact (congrArg (·.get w) waves).trans (Table.get_set_self _ _ _)
      · exact (cabinets n).trans (if_pos listed)
      · exact (cabinets n).trans (if_neg absent)
      · exact (congrArg (fun f : Feeder => (f.heaters.get (ovenLoop n)).cls) feeder).trans
          (s.part.letGo_cls w v past listed)
      · exact (congrArg (fun f : Feeder => f.heaters.get (ovenLoop n)) feeder).trans
          (s.part.letGo_heater w v n (.inr absent))
    case delete =>
      intro ends
      by_cases planned : v.state = .planned
      · have works := s.part.deletePlanned_works w v
        have waves := s.part.deletePlanned_waves w v
        have cabinets := s.part.deletePlanned_cabinets w v
        have taken : exec (.delete tag slot number) s =
            .next (s.answer 0x74 tag (s.part.deletePlanned w v, { status := .ok })) := by
          simp only [exec, execDelete, delete_planned named planned]
          rfl
        generalize s.part.deletePlanned w v = q at *
        refine ⟨_, taken, works.answered_part 0x74 tag { status := .ok },
          ⟨fun x other => ?_, works.kept_part 0x74 tag _⟩, ?_, fun _ => ⟨fun n listed => ?_, fun n absent => ?_⟩,
          fun closed => ?_⟩
        · exact (congrArg (·.get x) waves).trans (Table.get_set_ne _ _ other)
        · exact (congrArg (·.get w) waves).trans (Table.get_set_self _ _ _)
        · exact (cabinets n).trans (if_pos listed)
        · exact (cabinets n).trans (if_neg absent)
        · exact absurd (planned.symm.trans closed) (by decide)
      · have closed := ends.resolve_left planned
        have works : Works waveFoot (slotsOfWave w v) s.part (s.part.setWave w none) :=
          (Part.setWave_works _ _ _ _).widen
        have waves := s.part.setWave_waves w none
        have cabinets := s.part.setWave_cabinets w none
        have taken : exec (.delete tag slot number) s =
            .next (s.answer 0x74 tag (s.part.setWave w none, { status := .ok })) := by
          simp only [exec, execDelete, delete_closed named closed]
        generalize s.part.setWave w none = q at *
        refine ⟨_, taken, works.answered_part 0x74 tag { status := .ok },
          ⟨fun x other => ?_, works.kept_part 0x74 tag _⟩, ?_, fun isPlanned => absurd isPlanned planned, fun _ => cabinets⟩
        · exact (congrArg (·.get x) waves).trans (Table.get_set_ne _ _ other)
        · exact (congrArg (·.get w) waves).trans (Table.get_set_self _ _ _)
    · simp only [exec, execRelease, release_refused named notReady notLate]
    · simp only [exec, execClose, close_closed named closed, if_neg apart]
    · simp only [exec, execClose, close_closed named closed, if_pos just]
    · simp only [exec, execDelete, delete_refused named notPlanned isOpen]
  · rintro ⟨v, u, stood, ends, served, closed, issued⟩
    exact closedByIssue_ne_none stood ends served closed issued

end Sys2Proof.Machine
end

section
/-!
Chapter 5: plates taken from the oldest batches, and UNLOAD PLATES (R88, R90, R91).
-/

namespace Sys2Proof.Machine

-- The proofs are taken one after the other, which keeps few threads waiting for one another.
set_option Elab.async false

/-! ## The oldest batches (R88, R90) -/

/-- The plates of batches that are not ready. -/
def coldIn (warmTime : Nat) (batches : List Batch) : Nat :=
  (batches.map fun b => if b.dwell < warmTime then b.count else 0).sum

/-- What a removal of plates from the oldest end of a batch list comes to: some batches are gone, and the next may be
reduced. -/
inductive TakenFrom (n : Nat) (batches : List Batch) : Prop
  | whole (gone left : List Batch) (split : batches = gone ++ left) (rest : takeOldest n batches = left)
      (all : heldIn gone = n) (cold : ∀ warmTime, takenNotReady warmTime n batches = coldIn warmTime gone)
  | partly (gone : List Batch) (b : Batch) (rest : List Batch) (split : batches = gone ++ b :: rest)
      (more : heldIn gone < n) (fewer : n - heldIn gone < b.count)
      (reduced : takeOldest n batches = { b with count := b.count - (n - heldIn gone) } :: rest)
      (cold : ∀ warmTime, takenNotReady warmTime n batches =
        coldIn warmTime gone + if b.dwell < warmTime then n - heldIn gone else 0)

theorem takeOldest_cons (n : Nat) (b : Batch) (rest : List Batch) : takeOldest n (b :: rest) =
    if b.count ≤ n then takeOldest (n - b.count) rest else { b with count := b.count - n } :: rest := rfl

theorem takenNotReady_cons (warmTime n : Nat) (b : Batch) (rest : List Batch) :
    takenNotReady warmTime n (b :: rest) = (if b.dwell < warmTime then min n b.count else 0) +
      if b.count ≤ n then takenNotReady warmTime (n - b.count) rest else 0 := by
  rw [takenNotReady, Batch.isReady]
  by_cases cold : b.dwell < warmTime
  · rw [if_neg (by simpa using cold), if_pos cold]
  · rw [if_pos (by simpa using cold), if_neg cold]

theorem coldIn_cons (warmTime : Nat) (b : Batch) (rest : List Batch) :
    coldIn warmTime (b :: rest) = (if b.dwell < warmTime then b.count else 0) + coldIn warmTime rest := by
  simp [coldIn]

/-- A batch no larger than what is asked for goes whole, and the rest is taken from the batches behind it. -/
theorem TakenFrom.behind {n : Nat} {b : Batch} {rest : List Batch} (fits : b.count ≤ n)
    (taken : TakenFrom (n - b.count) rest) : TakenFrom n (b :: rest) := by
  have least : min n b.count = b.count := Nat.min_eq_right fits
  cases taken with
  | whole gone left split rest all cold =>
    refine .whole (b :: gone) left (by rw [split]; rfl) (by rw [takeOldest_cons, if_pos fits, rest]) ?_ fun warmTime => ?_
    · rw [heldIn_cons, all]
      omega
    · rw [takenNotReady_cons, if_pos fits, cold, coldIn_cons, least]
  | partly gone next rest split more fewer reduced cold =>
    have held : heldIn (b :: gone) = b.count + heldIn gone := heldIn_cons b gone
    have same : n - (b.count + heldIn gone) = n - b.count - heldIn gone := by omega
    refine .partly (b :: gone) next rest (by rw [split]; rfl) (by omega) (by rw [held]; omega) ?_ fun warmTime => ?_
    · rw [takeOldest_cons, if_pos fits, reduced, held, same]
    · rw [takenNotReady_cons, if_pos fits, cold, coldIn_cons, least, held, same, Nat.add_assoc]

theorem takenFrom_oldest {n : Nat} {batches : List Batch} (enough : n ≤ heldIn batches) : TakenFrom n batches := by
  induction batches generalizing n with
  | nil =>
    have none : n = 0 := Nat.le_zero.mp enough
    subst none
    exact .whole [] [] rfl rfl rfl fun _ => rfl
  | cons b rest ih =>
    rw [heldIn_cons] at enough
    by_cases fits : b.count ≤ n
    · exact .behind fits (ih (by omega))
    by_cases none : n = 0
    · subst none
      refine .whole [] (b :: rest) rfl (by rw [takeOldest_cons, if_neg fits]; rfl) rfl fun warmTime => ?_
      rw [takenNotReady_cons, if_neg fits, Nat.zero_min, ite_self]
      rfl
    · refine .partly [] b rest rfl (Nat.pos_of_ne_zero none) (Nat.not_le.mp fits)
        (by rw [takeOldest_cons, if_neg fits]; rfl) fun warmTime => ?_
      rw [takenNotReady_cons, if_neg fits, Nat.min_eq_left (by omega)]
      simp [coldIn, heldIn]

/-! ## The requests that are refused or take nothing (R90, R91) -/

section Refused

variable (p : Part) {cabinet : Byte} {count : Half}

theorem issue_outOfRange (out : 8 ≤ cabinet.toNat ∨ count.toNat = 0) : issue cabinet count p = (p, { status := .range }) := by
  unfold issue
  by_cases inTable : cabinet.toNat < 8
  · rw [index_of_lt inTable]
    exact if_pos ((half_eq_zero_iff count).mpr (out.resolve_left (by omega)))
  · rw [index_of_le (by omega)]

theorem unloadPlates_outOfRange (out : 8 ≤ cabinet.toNat ∨ count.toNat = 0) :
    unloadPlates cabinet count p = (p, { status := .range }) := by
  unfold unloadPlates
  by_cases inTable : cabinet.toNat < 8
  · rw [index_of_lt inTable]
    exact if_pos ((half_eq_zero_iff count).mpr (out.resolve_left (by omega)))
  · rw [index_of_le (by omega)]

variable (inTable : cabinet.toNat < 8) (asked : count.toNat ≠ 0) {moved : Nat}
  (least : moved = min count.toNat (p.cabinets.get ⟨cabinet.toNat, inTable⟩).held)
include asked least

theorem issue_taken : issue cabinet count p =
    (if moved = 0 then p else p.issueFrom ⟨cabinet.toNat, inTable⟩ moved,
      moveAnswer count.toNat moved (u16 (takenNotReady (p.cabinets.get ⟨cabinet.toNat, inTable⟩).warmTime moved
        (p.cabinets.get ⟨cabinet.toNat, inTable⟩).batches))) := by
  subst least
  unfold issue
  rw [index_of_lt inTable]
  dsimp only
  rw [if_neg (mt (half_eq_zero_iff count).mp asked)]

theorem unloadPlates_taken : unloadPlates cabinet count p =
    (if moved = 0 then p else p.unloadFrom ⟨cabinet.toNat, inTable⟩ moved, moveAnswer count.toNat moved []) := by
  subst least
  unfold unloadPlates
  rw [index_of_lt inTable]
  dsimp only
  rw [if_neg (mt (half_eq_zero_iff count).mp asked)]

end Refused

/-! ## Plates out of a cabinet into a count of their kind (R90, R91) -/

section Stored

variable (p : Part) (n : Fin 8) (moved : Nat) (counts : Stock)

/-- Plates taken from a cabinet's oldest batches, with the counts of its kind as they become. -/
def Part.takenTo : Part := (p.takeFromCabinet n moved).setStock (p.cabinets.get n).kind counts

theorem Part.takenTo_works : Works { stock := true, cabinets := true } [] p (p.takenTo n moved counts) :=
  (Part.takeFromCabinet_works p [] n moved).widen.trans (Part.setStock_works _ _ _ _).widen

theorem Part.takenTo_stock : (p.takenTo n moved counts).stock = p.stock.set (p.cabinets.get n).kind counts := by
  simp [Part.takenTo, Part.takeFromCabinet]

theorem Part.takenTo_cabinets : (p.takenTo n moved counts).cabinets = p.cabinets.set n
    { p.cabinets.get n with batches := takeOldest moved (p.cabinets.get n).batches } := by
  simp [Part.takenTo, Part.takeFromCabinet]

theorem Part.takenTo_cabinet : (p.takenTo n moved counts).cabinets.get n =
    { p.cabinets.get n with batches := takeOldest moved (p.cabinets.get n).batches } := by
  rw [Part.takenTo_cabinets, Table.get_set_self]

theorem Part.takenTo_moved : PlatesMoved (ofKind (p.cabinets.get n).kind) true true p
      ((p.takenTo n moved counts).cabinetMoved n) ∧
    lowEvaluated n (ofPart p) (ofPart ((p.takenTo n moved counts).cabinetMoved n)) :=
  PlatesMoved.ofCabinet (p.takenTo_works n moved counts) (by rw [Part.takenTo_cabinet])

/-- The records of a move out of a cabinet, after its notices. -/
theorem Part.takenTo_records :
    ((p.takenTo n moved counts).cabinetMoved n).stock = p.stock.set (p.cabinets.get n).kind counts ∧
      ((p.takenTo n moved counts).cabinetMoved n).cabinets = p.cabinets.set n
        { p.cabinets.get n with batches := takeOldest moved (p.cabinets.get n).batches } := by
  obtain ⟨stock, cabinets⟩ := (p.takenTo n moved counts).cabinetMoved_records n
  exact ⟨stock.trans (p.takenTo_stock n moved counts), cabinets.trans (p.takenTo_cabinets n moved counts)⟩

end Stored

/-- UNLOAD PLATES moves plates into clean (R91). -/
theorem Part.unloadFrom_eq (p : Part) (n : Fin 8) (moved : Nat) : p.unloadFrom n moved =
    (p.takenTo n moved { p.stock.get (p.cabinets.get n).kind with
      clean := (p.stock.get (p.cabinets.get n).kind).clean + moved }).cabinetMoved n := rfl

/-- An UNLOAD PLATES that moves some plates. -/
theorem unloadPlates_moves {s : State} {tag cabinet : Byte} {count : Half} (inTable : cabinet.toNat < 8)
    (asked : count.toNat ≠ 0) {n : Fin 8} (isN : n = ⟨cabinet.toNat, inTable⟩) {moved : Nat}
    (least : moved = min count.toNat (s.cabinet n).held) (some : 0 < moved) :
    ∃ t, exec (.unloadPlates tag cabinet count) s = .next t ∧
      Answered { noticeFoot with stock := true, cabinets := true } 0x56 tag (moveStatus count.toNat moved)
        (moveFields count.toNat moved []) s t ∧ Noticed [] s t ∧
      wavesJudged (ofKind (s.cabinet n).kind) s t ∧ lowEvaluated n s t ∧
      (∀ k, k ≠ (s.cabinet n).kind → t.stockOf k = s.stockOf k) ∧
      t.stockOf (s.cabinet n).kind =
        { s.stockOf (s.cabinet n).kind with clean := (s.stockOf (s.cabinet n).kind).clean + moved } ∧
      (∀ m, m ≠ n → t.cabinet m = s.cabinet m) ∧
      t.cabinet n = { s.cabinet n with batches := takeOldest moved (s.cabinet n).batches } := by
  subst isN
  have taken := unloadPlates_taken s.part inTable asked least
  rw [if_neg (by omega), moveAnswer_eq, Part.unloadFrom_eq] at taken
  obtain ⟨notices, low⟩ := s.part.takenTo_moved ⟨cabinet.toNat, inTable⟩ moved
    { s.part.stock.get (s.part.cabinets.get ⟨cabinet.toNat, inTable⟩).kind with
      clean := (s.part.stock.get (s.part.cabinets.get ⟨cabinet.toNat, inTable⟩).kind).clean + moved }
  obtain ⟨stock, cabinets⟩ := s.part.takenTo_records ⟨cabinet.toNat, inTable⟩ moved
    { s.part.stock.get (s.part.cabinets.get ⟨cabinet.toNat, inTable⟩).kind with
      clean := (s.part.stock.get (s.part.cabinets.get ⟨cabinet.toNat, inTable⟩).kind).clean + moved }
  refine ⟨_, rfl, ?_⟩
  rw [taken]
  generalize Part.cabinetMoved _ _ = q at *
  obtain ⟨answered, noticed, judged⟩ := notices.answered 0x56 tag
    { status := moveStatus count.toNat moved, pieces := moveFields count.toNat moved [] }
  refine ⟨answered, noticed, judged, low, fun k other => ?_, ?_, fun m other => ?_, ?_⟩
  · exact (congrArg (·.get k) stock).trans (Table.get_set_ne _ _ other)
  · exact (congrArg (·.get (s.cabinet ⟨cabinet.toNat, inTable⟩).kind) stock).trans (Table.get_set_self _ _ _)
  · exact (congrArg (·.get m) cabinets).trans (Table.get_set_ne _ _ other)
  · exact (congrArg (·.get ⟨cabinet.toNat, inTable⟩) cabinets).trans (Table.get_set_self _ _ _)

end Sys2Proof.Machine
end

section
/-!
Chapters 5 and 7: the issue notice of a serving wave (R138, R139), and the page of a wave that it closes (R172).
-/

namespace Sys2Proof.Machine

-- The proofs are taken one after the other, which keeps few threads waiting for one another.
set_option Elab.async false

/-! ## Notices and the pages of a CLOSED wave (R172) -/

section Clears

variable {S : Source → Prop} (slots : ∀ i, ¬ S (.slot i)) {p : Part} {w : Fin 12}
include slots

theorem Part.raise_clears (clear : p.desk.Clears S) (slot : Fin 87) (param : Half) : (p.raise slot param).desk.Clears S := by
  rw [Part.raise_desk]
  exact Desk.Clears.raise slots p.uptime clear slot param

theorem Part.trigger_clears (clear : p.desk.Clears S) {source : Source} (free : ¬ S source) (param : Half) :
    (p.trigger source param).desk.Clears S := by
  rw [Part.trigger_desk]
  exact Desk.Clears.trigger slots p.uptime clear free param

omit slots in
theorem Part.clears_of_pager {q : Part} (same : q.desk.pager = p.desk.pager) (clear : p.desk.Clears S) : q.desk.Clears S :=
  clear.of_queue (congrArg Pager.queue same)

theorem Part.plateCheck_clears (clear : p.desk.Clears S) : (p.plateCheck w).desk.Clears S := by
  have set (v : Wave) : (p.setWave w (some v)).desk.Clears S := Part.clears_of_pager (Part.setWave_pager _ _ _) clear
  unfold Part.plateCheck Part.onWave
  split
  · dsimp only
    split
    · split
      · exact Part.clears_of_pager (by simp) clear
      · exact clear
    · split
      · exact Part.raise_clears slots (set _) _ _
      · exact clear
  · exact clear

/-- The judgement of a wave brings no page of another source but of its slots. -/
theorem Part.judgeWave_clears {v : Wave} (held : p.waves.get w = some v)
    (judged : v.state = .preparing ∨ v.state = .late ∨ v.state = .ready ∨ v.state = .serving) (free : ¬ S (.wave w))
    (clear : p.desk.Clears S) : (p.judgeWave w).desk.Clears S := by
  have checked : (p.plateCheck w).desk.Clears S := Part.plateCheck_clears slots clear
  by_cases standing : v.state = .ready ∨ v.state = .serving
  · rwa [p.judgeWave_standing w held standing]
  rw [p.judgeWave_awaiting w held (by
    rcases judged with h | h | h
    · exact .inl h
    · exact .inr h
    · exact absurd h standing)]
  split
  · unfold Part.enterReady
    refine Part.trigger_clears slots (Part.clears_of_pager ?_ checked) free _
    split <;> simp
  · split
    · exact Part.raise_clears slots (Part.clears_of_pager (Part.setWave_pager _ _ _) checked) _ _
    · exact checked

omit slots in
/-- What a plate notice does at the slot of a wave that it concerns. -/
theorem Part.plateNoticeAt_judges {kind : Fin 4} {v : Wave} (held : p.waves.get w = some v) (concerned : ofKind kind v) :
    p.plateNoticeAt kind w = p.judgeWave w := by
  obtain ⟨same, standing⟩ := concerned
  rw [Part.plateNoticeAt, p.onWave_held w held]
  rcases standing with is | is | is | is <;> simp [is, same]

theorem Part.plateNoticeAt_clears (kind : Fin 4) (free : ¬ S (.wave w)) (clear : p.desk.Clears S) :
    (p.plateNoticeAt kind w).desk.Clears S := by
  have one := plateNoticeAt_noticed kind w p
  cases held : p.waves.get w with
  | none => rwa [one.absent held]
  | some v =>
    by_cases concerned : ofKind kind v
    · rw [Part.plateNoticeAt_judges held concerned]
      exact Part.judgeWave_clears slots held concerned.2 free clear
    · rwa [one.left v held concerned]

omit slots in
/-- A plate notice leaves a CLOSED wave, whatever its slot. -/
theorem Part.plateNoticeAt_closed (kind : Fin 4) {x : Fin 12} {v : Wave} (held : p.waves.get x = some v)
    (closed : v.state = .closed) : (p.plateNoticeAt kind w).waves.get x = some v := by
  have one := plateNoticeAt_noticed kind w p
  by_cases same : x = w
  · subst same
    rwa [one.left v held fun concerned => by simp [ofKind, closed] at concerned]
  · rw [one.others x same, held]

/-- A plate notice brings no page of a wave that is CLOSED. -/
theorem Part.plateNotice_clears (kind : Fin 4)
    (closed : ∀ x, S (.wave x) → ∃ v, p.waves.get x = some v ∧ v.state = .closed) (clear : p.desk.Clears S) :
    (p.plateNotice kind).desk.Clears S := by
  rw [p.plateNotice_eq, Part.eachSlot]
  generalize List.finRange 12 = items
  induction items generalizing p with
  | nil => exact clear
  | cons x rest ih =>
    refine ih (fun y listed => ?_) ?_
    · obtain ⟨v, held, isClosed⟩ := closed y listed
      exact ⟨v, Part.plateNoticeAt_closed kind held isClosed, isClosed⟩
    · by_cases listed : S (.wave x)
      · obtain ⟨v, held, isClosed⟩ := closed x listed
        have still := (plateNoticeAt_noticed kind x p).left v held fun concerned => by simp [ofKind, isClosed] at concerned
        change (p.plateNoticeAt kind x).desk.Clears S
        rwa [still]
      · exact Part.plateNoticeAt_clears slots kind listed clear

theorem Part.evaluateLow_clears (n : Fin 8) (free : ¬ S (.cabinet n)) (clear : p.desk.Clears S) :
    (p.evaluateLow n).desk.Clears S := by
  by_cases due : p.LowDue n
  · rw [p.evaluateLow_due n due]
    exact Part.trigger_clears slots clear free _
  · rwa [p.evaluateLow_notDue n due]

theorem Part.cabinetMoved_clears (n : Fin 8) (free : ¬ S (.cabinet n))
    (closed : ∀ x, S (.wave x) → ∃ v, p.waves.get x = some v ∧ v.state = .closed) (clear : p.desk.Clears S) :
    (p.cabinetMoved n).desk.Clears S :=
  Part.evaluateLow_clears slots n free (Part.plateNotice_clears slots _ closed clear)

end Clears

/-! ## What follows a move of a cabinet (R94, R95) -/

section Moved

variable (p : Part) (n : Fin 8)

theorem Part.cabinetMoved_told : Told noticeFoot [] (ofKind (p.cabinets.get n).kind) p (p.cabinetMoved n) := by
  unfold Part.cabinetMoved
  exact (p.plateNotice_noticed _).told (.refl {} [] p)
    (Part.evaluateLow_works (p.plateNotice (p.cabinets.get n).kind) [] n)

/-- The notices after a move send no page but PLATES_LOW where the routes of the others are disabled. -/
theorem Part.cabinetMoved_pages (busy : p.desk.pager.port ≠ .idle)
    (off : ∀ k ∈ [7, 8, 14], (p.desk.pager.routes.get k).enabled = false) :
    (p.LowDue n → triggered p.uptime (.cabinet n) 15 (BitVec.ofNat 16 (p.cabinets.get n).ready) p.desk.pager
      (p.cabinetMoved n).desk.pager) ∧
    (¬ p.LowDue n → (p.cabinetMoved n).desk.pager = p.desk.pager) := by
  have noticed := p.plateNotice_noticed (p.cabinets.get n).kind
  unfold Part.cabinetMoved
  generalize p.plateNotice (p.cabinets.get n).kind = q at *
  have silent := noticed.silent busy (off 7 (by simp)) (off 8 (by simp)) (off 14 (by simp))
  have kept := noticed.works.moves.touches
  have due : q.LowDue n ↔ p.LowDue n := by
    simp only [Part.LowDue, noticed.serving, kept.cabinets rfl]
  have sent := q.evaluateLow_pages n (by rwa [silent])
  rwa [due, silent, kept.uptime rfl, kept.cabinets rfl] at sent

end Moved

end Sys2Proof.Machine
end

section
/-!
Chapters 5 and 7: an ISSUE from a cabinet whose wave serves (R90, R138, R139).
-/

namespace Sys2Proof.Machine

-- The proofs are taken one after the other, which keeps few threads waiting for one another.
set_option Elab.async false

/-- A wave that has been issued plates, with its plate check (R133, R138). -/
def Wave.issuedMore (count : Nat) (p : Part) (v : Wave) : Wave :=
  { v with
    issued := min 65535 (v.issued + count)
    short := decide (p.potential v < v.covers - min 65535 (v.issued + count)) }

theorem Part.closeWave_port (p : Part) (w : Fin 12) (v : Wave) (busy : p.desk.pager.port ≠ .idle)
    (off : (p.desk.pager.routes.get 1).enabled = false) : (p.closeWave w v).desk.pager.port ≠ .idle := by
  have same := (p.lettingGo_pager w v).trans (p.letGo_quiet w v busy (.inl off))
  rw [p.closeWave_cancels, Part.cancelNotice_desk, Desk.cancelNotice_port _ _ _ (by rwa [same]), same]
  exact busy

/-! ## The issue notice (R138) -/

section Notice

variable (p : Part) (w : Fin 12) (count : Nat) (v : Wave)

/-- The plates counted and checked, ahead of a close. -/
def Part.issueCounted : Part := (p.setWave w (some { v with issued := min 65535 (v.issued + count) })).plateCheck w

theorem Part.issueCounted_works : Works noticeFoot (waveOwn w) p (p.issueCounted w count v) :=
  (Part.setWave_works p _ _ _).widen.trans (Part.plateCheck_works _ w)

theorem Part.issueCounted_wave : (p.issueCounted w count v).waves.get w = some (v.issuedMore count p) := by
  rw [Part.issueCounted, Part.plateCheck_wave _ w (v := { v with issued := min 65535 (v.issued + count) })
    (by rw [Part.setWave_waves, Table.get_set_self]), Wave.checked,
    Part.potential_congr (Part.setWave_cabinets _ _ _) (Part.setWave_stock _ _ _)]
  rfl

theorem Part.issueCounted_others {x : Fin 12} (other : x ≠ w) :
    (p.issueCounted w count v).waves.get x = p.waves.get x := by
  rw [Part.issueCounted, (Part.plateCheck_judges _ w).others x other, Part.setWave_waves, Table.get_set_ne _ _ other]

theorem Part.issueCounted_short : (p.issueCounted w count v).desk.conds.get (platesShortSlot w) =
    shortSlotAfter (ofPart p) w v.short (v.issuedMore count p).short
      (v.covers - min 65535 (v.issued + count) - p.potential v) := by
  rw [Part.issueCounted, Part.plateCheck_short _ w (v := { v with issued := min 65535 (v.issued + count) })
    (by rw [Part.setWave_waves, Table.get_set_self]), Wave.checked,
    Part.potential_congr (Part.setWave_cabinets _ _ _) (Part.setWave_stock _ _ _)]
  simp only [shortSlotAfter, ofPart, State.slot, Part.setWave_conds, Part.setWave_uptime]
  rfl

theorem Part.issueCounted_late :
    (p.issueCounted w count v).desk.conds.get (waveLateSlot w) = p.desk.conds.get (waveLateSlot w) := by
  rw [Part.issueCounted, Part.plateCheck_late, Part.setWave_conds]

variable {p w count v} in
theorem Part.issueCounted_clears {S : Source → Prop} (slots : ∀ i, ¬ S (.slot i)) (clear : p.desk.Clears S) :
    (p.issueCounted w count v).desk.Clears S := by
  unfold Part.issueCounted
  exact Part.plateCheck_clears slots (Part.clears_of_pager (Part.setWave_pager _ _ _) clear)

theorem Part.issueCounted_pager (busy : p.desk.pager.port ≠ .idle)
    (off : (p.desk.pager.routes.get 7).enabled = false) : (p.issueCounted w count v).desk.pager = p.desk.pager := by
  have set := Part.setWave_pager p w (some { v with issued := min 65535 (v.issued + count) })
  rw [Part.issueCounted, Part.plateCheck_pager _ w (v := { v with issued := min 65535 (v.issued + count) })
    (by rw [Part.setWave_waves, Table.get_set_self]) (by rwa [set]) (by rwa [set]), set]

variable {p w v} (held : p.waves.get w = some v) (serves : v.state = .serving)
include held serves

theorem Part.issueNotice_counted : p.issueNotice w count =
    if v.covers ≤ min 65535 (v.issued + count) then (p.issueCounted w count v).closeWave w (v.issuedMore count p)
    else p.issueCounted w count v := by
  have judged : (p.setWave w (some { v with issued := min 65535 (v.issued + count) })).judgeWave w =
      p.issueCounted w count v :=
    Part.judgeWave_standing _ w (v := { v with issued := min 65535 (v.issued + count) })
      (by rw [Part.setWave_waves, Table.get_set_self]) (.inr serves)
  rw [Part.issueNotice, p.onWave_held w held, if_pos serves, judged,
    Part.onWave_held _ w (p.issueCounted_wave w count v)]
  rfl

theorem Part.issueNotice_open (more : min 65535 (v.issued + count) < v.covers) :
    p.issueNotice w count = p.issueCounted w count v := by
  rw [Part.issueNotice_counted count held serves, if_neg (by omega)]

theorem Part.issueNotice_closes (reached : v.covers ≤ min 65535 (v.issued + count)) :
    p.issueNotice w count = (p.issueCounted w count v).closeWave w (v.issuedMore count p) := by
  rw [Part.issueNotice_counted count held serves, if_pos reached]

/-- What an issue notice leaves alone: the other waves, the stock, and of the cabinets their kinds and batches. -/
theorem Part.issueNotice_reach : Works waveFoot (waveReach w v) p (p.issueNotice w count) := by
  have counted := (p.issueCounted_works w count v).mono (own' := waveReach w v) (g := waveFoot) rfl
    (waveOwn_subset_slotsOfWave w v)
  rw [Part.issueNotice_counted count held serves]
  split
  · exact counted.trans (Part.closeWave_works _ w (v.issuedMore count p))
  · exact counted

theorem Part.issueNotice_others {x : Fin 12} (other : x ≠ w) :
    (p.issueNotice w count).waves.get x = p.waves.get x := by
  rw [Part.issueNotice_counted count held serves]
  split
  · rw [Part.closeWave_waves, Table.get_set_ne _ _ other, p.issueCounted_others w count v other]
  · exact p.issueCounted_others w count v other

theorem Part.issueNotice_cabinet (n : Fin 8) :
    ((p.issueNotice w count).cabinets.get n).batches = (p.cabinets.get n).batches ∧
      ((p.issueNotice w count).cabinets.get n).kind = (p.cabinets.get n).kind := by
  have cabinets : (p.issueCounted w count v).cabinets = p.cabinets :=
    (p.issueCounted_works w count v).moves.touches.cabinets rfl
  rw [Part.issueNotice_counted count held serves]
  split
  · rw [Part.closeWave_cabinets, cabinets]
    split <;> exact ⟨rfl, rfl⟩
  · rw [cabinets]
    exact ⟨rfl, rfl⟩

theorem Part.issueNotice_stock : (p.issueNotice w count).stock = p.stock :=
  (Part.issueNotice_reach count held serves).moves.touches.stock rfl

end Notice

/-! ## What the later notices leave of the wave that serves (R133) -/

theorem noticedAt_served {concerns : Wave → Prop} {q r : Part} {w : Fin 12} {u : Wave}
    (noticed : noticedAt concerns (ofPart q) (ofPart r) w) (held : q.waves.get w = some u) (serves : u.state = .serving)
    (settled : u.short = decide (r.potential u < u.need)) : WaveKept w q r := by
  have same : judgedOn (ofPart r) u = u := by
    rw [judgedOn_standing r (.inr serves), Wave.checked, ← settled]
  obtain ⟨judged, left⟩ := noticed u held
  by_cases concerned : concerns u
  · obtain ⟨wave, short, late⟩ := judged concerned
    rw [same] at wave short late
    refine ⟨wave.trans held.symm, ?_, ?_⟩
    · rw [shortSlotAfter, if_pos rfl] at short
      exact short
    · rw [if_neg fun becomes => becomes.2 becomes.1, if_neg fun becomes => becomes.2.1 becomes.1] at late
      exact late
  · obtain ⟨wave, short, late⟩ := left concerned
    exact ⟨wave.trans held.symm, short, late⟩

end Sys2Proof.Machine
end

section
/-!
Chapters 5 and 7: ISSUE as it is answered (R90, R94, R95, R138, R139).
-/

namespace Sys2Proof.Machine

-- The proofs are taken one after the other, which keeps few threads waiting for one another.
set_option Elab.async false

/-! ## An ISSUE from a cabinet whose wave serves -/

/-- Plates out of a cabinet, counted by the wave that serves, with the notices (R90, R138, R94, R95). -/
def Part.issueServed (n : Fin 8) (w : Fin 12) (moved : Nat) (counts : Stock) (p : Part) : Part :=
  ((p.takenTo n moved counts).issueNotice w moved).cabinetMoved n

theorem Part.issueFrom_serving {p : Part} {n : Fin 8} {w : Fin 12} {v : Wave} (moved : Nat)
    (slotted : (p.cabinets.get n).waveSlot = some w) (held : p.waves.get w = some v) (serves : v.state = .serving) :
    p.issueFrom n moved = p.issueServed n w moved { p.stock.get (p.cabinets.get n).kind with
      issued := (p.stock.get (p.cabinets.get n).kind).issued + moved } := by
  have isServing : p.isServing w = true := (p.isServing_iff w).mpr ⟨v, held, serves⟩
  simp only [Part.issueFrom, slotted, isServing, if_true]
  rfl

theorem Part.issueFrom_apart {p : Part} {n : Fin 8} (moved : Nat)
    (apart : ∀ w v, (p.cabinets.get n).waveSlot = some w → p.waves.get w = some v → v.state ≠ .serving) :
    p.issueFrom n moved = (p.takenTo n moved { p.stock.get (p.cabinets.get n).kind with
      issued := (p.stock.get (p.cabinets.get n).kind).issued + moved }).cabinetMoved n := by
  have notServing (w : Fin 12) (slotted : (p.cabinets.get n).waveSlot = some w) : ¬ p.isServing w = true := by
    rw [p.isServing_iff w]
    rintro ⟨v, held, serves⟩
    exact apart w v slotted held serves
  unfold Part.issueFrom
  dsimp only
  split
  · next w slotted =>
    rw [if_neg (notServing w slotted)]
    rfl
  · rfl

section Served

variable {p : Part} {n : Fin 8} {w : Fin 12} {v : Wave} {moved : Nat} {counts : Stock}
  (held : p.waves.get w = some v) (serves : v.state = .serving)
include held serves

omit serves in
theorem Part.takenTo_held : (p.takenTo n moved counts).waves.get w = some v := by
  rwa [(p.takenTo_works n moved counts).moves.touches.waves rfl]

/-- The cabinets after the issue notice, but for what a release takes from them. -/
theorem Part.issueServed_cabinet (m : Fin 8) :
    (((p.takenTo n moved counts).issueNotice w moved).cabinets.get m).batches =
        ((p.takenTo n moved counts).cabinets.get m).batches ∧
      (((p.takenTo n moved counts).issueNotice w moved).cabinets.get m).kind =
        ((p.takenTo n moved counts).cabinets.get m).kind :=
  Part.issueNotice_cabinet moved (Part.takenTo_held held) serves m

theorem Part.issueServed_works : Works { waveFoot with stock := true }
    (waveSlots ++ v.cabinets.map fun m => overtempSlot (cabinetLoop m)) p (p.issueServed n w moved counts) := by
  have stored := p.takenTo_works n moved counts
  have told := Part.issueNotice_reach moved (Part.takenTo_held (n := n) (moved := moved) (counts := counts) held)
    serves
  have own : waveReach w v ⊆ waveSlots ++ v.cabinets.map fun m => overtempSlot (cabinetLoop m) :=
    List.append_subset.mpr ⟨List.Subset.trans (waveOwn_subset w) (List.subset_append_left _ _), List.subset_append_right _ _⟩
  exact ((stored.mono rfl (List.nil_subset _)).trans (told.mono rfl own)).trans
    ((Part.cabinetMoved_works _ n).mono rfl (List.subset_append_left _ _))

theorem Part.issueServed_stock :
    (p.issueServed n w moved counts).stock = p.stock.set (p.cabinets.get n).kind counts := by
  rw [Part.issueServed, (Part.cabinetMoved_records _ n).1,
    Part.issueNotice_stock moved (Part.takenTo_held held) serves, Part.takenTo_stock]

theorem Part.issueServed_batches (m : Fin 8) :
    ((p.issueServed n w moved counts).cabinets.get m).batches =
      if m = n then takeOldest moved (p.cabinets.get n).batches else (p.cabinets.get m).batches := by
  rw [Part.issueServed, (Part.cabinetMoved_records _ n).2, (Part.issueServed_cabinet held serves m).1,
    Part.takenTo_cabinets, Table.get_set]
  split <;> rfl

/-- The potential of a wave reads what the notices leave alone. -/
theorem Part.issueServed_potential (u : Wave) :
    (p.issueServed n w moved counts).potential u = (p.takenTo n moved counts).potential u := by
  have batches (m : Fin 8) : ((p.issueServed n w moved counts).cabinets.get m).held =
      ((p.takenTo n moved counts).cabinets.get m).held := by
    rw [Cabinet.held, Cabinet.held, Part.issueServed, (Part.cabinetMoved_records _ n).2,
      (Part.issueServed_cabinet held serves m).1]
  unfold Part.potential
  rw [Part.issueServed_stock held serves, Part.takenTo_stock]
  simp only [batches]

/-- What the plate notice comes to at each slot, on the part that the issue notice leaves. -/
theorem Part.issueServed_told (x : Fin 12) : noticedAt (ofKind (p.cabinets.get n).kind)
    (ofPart ((p.takenTo n moved counts).issueNotice w moved)) (ofPart (p.issueServed n w moved counts)) x := by
  have kind : (((p.takenTo n moved counts).issueNotice w moved).cabinets.get n).kind = (p.cabinets.get n).kind := by
    rw [(Part.issueServed_cabinet held serves n).2, Part.takenTo_cabinet]
  rw [← kind]
  exact (Part.cabinetMoved_told _ n).waves x

/-- The waves but the one that serves: the plate notice judges them. -/
theorem Part.issueServed_others {x : Fin 12} (other : x ≠ w) :
    noticedAt (ofKind (p.cabinets.get n).kind) (ofPart p) (ofPart (p.issueServed n w moved counts)) x := by
  have stored := p.takenTo_works n moved counts
  have holds := Part.takenTo_held (n := n) (moved := moved) (counts := counts) held
  have told := Part.issueNotice_reach moved holds serves
  have apart {i : Fin 87} (wave : i ∈ waveSlots) (free : i ∉ waveOwn w) : i ∉ waveReach w v := by
    refine fun mem => (List.mem_append.mp mem).elim free fun mem => ?_
    obtain ⟨m, -, is⟩ := List.mem_map.mp mem
    exact overtempSlot_not_wave _ (is ▸ wave)
  have own := waveOwn_apart other
  have kept : WaveKept x (p.takenTo n moved counts) ((p.takenTo n moved counts).issueNotice w moved) :=
    ⟨Part.issueNotice_others moved holds serves other,
      told.desk.slots _ (apart (platesShortSlot_mem x) own.1) (platesShortSlot_ne_unanswered x),
      told.desk.slots _ (apart (waveLateSlot_mem x) own.2) (waveLateSlot_ne_unanswered x)⟩
  exact noticedAt_between (Part.issueServed_told held serves x) ((WaveKept.of_works stored rfl (by simp) x).trans kept)
    ((told.moves.touches.uptime rfl).trans (stored.moves.touches.uptime rfl)) ⟨rfl, rfl, rfl⟩ ⟨rfl, rfl, rfl⟩
    fun _ _ => Iff.rfl

/-- The routes as the issue notice leaves them. -/
theorem Part.issueNotice_routes :
    ((p.takenTo n moved counts).issueNotice w moved).desk.pager.routes = p.desk.pager.routes :=
  (Part.issueNotice_reach moved (Part.takenTo_held held) serves).desk.routes.trans
    (p.takenTo_works n moved counts).desk.routes

/-! ### Short of its covers -/

section Open

variable (more : min 65535 (v.issued + moved) < v.covers)
include more

/-- The wave goes on serving with the plates counted; the plate notice finds its short flag right. -/
theorem Part.issueServed_open :
    WaveKept w ((p.takenTo n moved counts).issueCounted w moved v) (p.issueServed n w moved counts) := by
  have holds := Part.takenTo_held (n := n) (moved := moved) (counts := counts) held
  have told := Part.issueServed_told (n := n) (moved := moved) (counts := counts) held serves w
  have potential := Part.issueServed_potential (n := n) (moved := moved) (counts := counts) held serves v
  rw [Part.issueNotice_open moved holds serves more] at told
  refine noticedAt_served told ((p.takenTo n moved counts).issueCounted_wave w moved v) serves ?_
  change _ = decide ((p.issueServed n w moved counts).potential v < _)
  rw [potential]
  rfl

theorem Part.issueServed_wave : (p.issueServed n w moved counts).waves.get w = some { v with
    issued := min 65535 (v.issued + moved)
    short := decide ((p.issueServed n w moved counts).potential v < v.covers - min 65535 (v.issued + moved)) } := by
  rw [(Part.issueServed_open held serves more).wave, Part.issueCounted_wave, Part.issueServed_potential held serves]
  rfl

theorem Part.issueServed_short : (p.issueServed n w moved counts).desk.conds.get (platesShortSlot w) =
    shortSlotAfter (ofPart p) w v.short
      (decide ((p.issueServed n w moved counts).potential v < v.covers - min 65535 (v.issued + moved)))
      (v.covers - min 65535 (v.issued + moved) - (p.issueServed n w moved counts).potential v) := by
  have stored := p.takenTo_works n moved counts
  rw [(Part.issueServed_open held serves more).short, Part.issueCounted_short, Part.issueServed_potential held serves]
  simp only [shortSlotAfter, ofPart, State.slot, stored.moves.touches.uptime rfl,
    stored.desk.slots _ (List.not_mem_nil) (platesShortSlot_ne_unanswered w)]
  rfl

theorem Part.issueServed_late : (p.issueServed n w moved counts).desk.conds.get (waveLateSlot w) =
    p.desk.conds.get (waveLateSlot w) := by
  rw [(Part.issueServed_open held serves more).late, Part.issueCounted_late,
    (p.takenTo_works n moved counts).desk.slots _ (List.not_mem_nil) (waveLateSlot_ne_unanswered w)]

/-- PLATES_LOW of the ISSUE, while no other route is enabled (R95). -/
theorem Part.issueServed_low (slotted : (p.cabinets.get n).waveSlot = some w) (busy : p.desk.pager.port ≠ .idle)
    (off : ∀ k, k ≠ 15 → (p.desk.pager.routes.get k).enabled = false) :
    (((p.issueServed n w moved counts).cabinets.get n).ready < (p.cabinets.get n).lowMark →
      triggered p.uptime (.cabinet n) 15 (BitVec.ofNat 16 ((p.issueServed n w moved counts).cabinets.get n).ready)
        p.desk.pager (p.issueServed n w moved counts).desk.pager) ∧
    ((p.cabinets.get n).lowMark ≤ ((p.issueServed n w moved counts).cabinets.get n).ready →
      (p.issueServed n w moved counts).desk.pager = p.desk.pager) := by
  have stored := p.takenTo_works n moved counts
  have pager : (p.takenTo n moved counts).desk.pager = p.desk.pager := stored.moves.touches.pager rfl
  have still := (p.takenTo n moved counts).issueCounted_pager w moved v (by rwa [pager])
    (by rw [pager]; exact off 7 (by decide))
  have counted := (p.takenTo n moved counts).issueCounted_works w moved v
  have wave := (p.takenTo n moved counts).issueCounted_wave w moved v
  have told := Part.issueNotice_open moved (Part.takenTo_held (n := n) (moved := moved) (counts := counts) held)
    serves more
  have cabinet : ((p.takenTo n moved counts).issueCounted w moved v).cabinets.get n =
      { p.cabinets.get n with batches := takeOldest moved (p.cabinets.get n).batches } := by
    rw [counted.moves.touches.cabinets rfl, Part.takenTo_cabinet]
  have time : ((p.takenTo n moved counts).issueCounted w moved v).uptime = p.uptime :=
    (counted.moves.touches.uptime rfl).trans (stored.moves.touches.uptime rfl)
  rw [Part.issueServed, told, (Part.cabinetMoved_records _ n).2]
  generalize (p.takenTo n moved counts).issueCounted w moved v = q at *
  rw [pager] at still
  have sent := q.cabinetMoved_pages n (by rwa [still]) fun k mem => by
    rw [still]
    exact off k (by rintro rfl; simp at mem)
  rw [q.lowDue_of_serving (w := w) (by rw [cabinet]; exact slotted) ⟨_, wave, serves⟩, time, still, cabinet] at sent
  rw [cabinet]
  exact ⟨sent.1, fun above => sent.2 (Nat.not_lt.mpr above)⟩

end Open

/-! ### At its covers -/

section Closed

variable (reached : v.covers ≤ min 65535 (v.issued + moved))
include reached

theorem Part.issueNotice_closed : ((p.takenTo n moved counts).issueNotice w moved).waves.get w =
    some (v.issuedMore moved (p.takenTo n moved counts)).ended := by
  rw [Part.issueNotice_closes moved (Part.takenTo_held held) serves reached, Part.closeWave_waves,
    Table.get_set_self]

theorem Part.issueServed_closed : (p.issueServed n w moved counts).waves.get w =
    some (v.issuedMore moved (p.takenTo n moved counts)).ended := by
  have closed := Part.issueNotice_closed (n := n) (counts := counts) held serves reached
  obtain ⟨-, left⟩ := Part.issueServed_told (n := n) (moved := moved) (counts := counts) held serves w _ closed
  exact (left fun concerned => by simp [ofKind, Wave.ended] at concerned).1

theorem Part.issueServed_noPage (kept : PagesKept p.desk.pager) :
    noPageBut (.wave w) (p.issueServed n w moved counts).desk.pager := by
  have stored : (p.takenTo n moved counts).desk.Clears fun _ => False :=
    Part.clears_of_pager ((p.takenTo_works n moved counts).moves.touches.pager rfl) kept.cleared
  have counted := Part.issueCounted_clears (w := w) (count := moved) (v := v) (by simp) stored
  have closed := Part.closeWave_clears _ w (v.issuedMore moved (p.takenTo n moved counts)) (by simp) (by simp) counted
  have wave := Part.issueNotice_closed (n := n) (counts := counts) held serves reached
  rw [← Part.issueNotice_closes moved (Part.takenTo_held held) serves reached] at closed
  unfold Part.issueServed
  generalize (p.takenTo n moved counts).issueNotice w moved = q at *
  have moved := Part.cabinetMoved_clears (S := fun σ => False ∨ σ = .wave w) (by simp) n (by simp) (fun x listed => by
    obtain ⟨rfl⟩ : x = w := by simpa using listed
    exact ⟨_, wave, rfl⟩) closed
  exact moved.noPageBut (.inr rfl)

/-- The whole of the pager after an ISSUE that closes its wave, while no route is enabled (R172). -/
theorem Part.issueServed_cancels (busy : p.desk.pager.port ≠ .idle)
    (off : ∀ k, (p.desk.pager.routes.get k).enabled = false) :
    noticeCancels p.uptime (.wave w) p.desk.pager (p.issueServed n w moved counts).desk.pager := by
  have stored := (p.takenTo_works n moved counts).moves.touches
  have pager : (p.takenTo n moved counts).desk.pager = p.desk.pager := stored.pager rfl
  have still := (p.takenTo n moved counts).issueCounted_pager w moved v (by rwa [pager]) (by rw [pager]; exact off 7)
  rw [pager] at still
  have time : ((p.takenTo n moved counts).issueCounted w moved v).uptime = p.uptime :=
    (((p.takenTo n moved counts).issueCounted_works w moved v).moves.touches.uptime rfl).trans (stored.uptime rfl)
  have routes := Part.issueNotice_routes (n := n) (moved := moved) (counts := counts) held serves
  have closes := Part.issueNotice_closes moved
    (Part.takenTo_held (n := n) (moved := moved) (counts := counts) held) serves reached
  have cancels := ((p.takenTo n moved counts).issueCounted w moved v).closeWave_paged w
    (v.issuedMore moved (p.takenTo n moved counts)) (by rwa [still]) (.inl (by rw [still]; exact off 1))
  have port := ((p.takenTo n moved counts).issueCounted w moved v).closeWave_port w
    (v.issuedMore moved (p.takenTo n moved counts)) (by rwa [still]) (by rw [still]; exact off 1)
  rw [← closes] at cancels port
  rw [still, time] at cancels
  rw [Part.issueServed]
  generalize (p.takenTo n moved counts).issueNotice w moved = q at *
  obtain ⟨sent, silent⟩ := q.cabinetMoved_pages n port fun k _ => by rw [routes]; exact off k
  have quiet : (q.cabinetMoved n).desk.pager = q.desk.pager := by
    by_cases due : q.LowDue n
    · exact (sent due).1 (by rw [routes]; exact off 15)
    · exact silent due
  rwa [quiet]

/-- The wave is the one that the command has closed by an issue notice (log entry 41). -/
theorem Part.issueServed_justClosed (short : v.issued < v.covers) :
    closedByIssue p.waves (p.issueServed n w moved counts).waves = some w := by
  have closed := Part.issueServed_closed (n := n) (counts := counts) held serves reached
  have found := closedByIssue_ne_none held closed serves rfl
    (show v.issued < min 65535 (v.issued + moved) from lt_of_lt_of_le short reached)
  obtain ⟨x, is⟩ := Option.ne_none_iff_exists'.mp found
  rw [is]
  obtain ⟨u, u', stood, ends, -, -, issued⟩ := closedByIssue_some _ _ _ is
  by_contra other
  obtain ⟨judged, left⟩ := Part.issueServed_others (n := n) (moved := moved) (counts := counts) held serves
    (x := x) (fun same => other (by rw [same])) u stood
  have same : u'.issued = u.issued := by
    by_cases concerned : ofKind (p.cabinets.get n).kind u
    · rw [Option.some.inj (ends.symm.trans (judged concerned).1)]
      rfl
    · rw [Option.some.inj (ends.symm.trans (left concerned).1)]
  omega

end Closed

end Served

end Sys2Proof.Machine
end

section
/-!
Chapters 5 and 7: ISSUE and UNLOAD PLATES by what they take (R90, R91).
-/

namespace Sys2Proof.Machine

-- The proofs are taken one after the other, which keeps few threads waiting for one another.
set_option Elab.async false

/-- A wave that a notice has or has not judged keeps what an ISSUE looks at. -/
theorem noticedAt_keeps {concerns : Wave → Prop} {s t : State} {x : Fin 12} {v : Wave}
    (noticed : noticedAt concerns s t x) (held : s.wave x = some v) :
    ∃ u, t.wave x = some u ∧ u.issued = v.issued ∧ u.cabinets = v.cabinets ∧ u.ovens = v.ovens := by
  obtain ⟨judged, left⟩ := noticed v held
  by_cases concerned : concerns v
  · exact ⟨_, (judged concerned).1, rfl, rfl, rfl⟩
  · exact ⟨v, (left concerned).1, rfl, rfl, rfl⟩

/-- The counts of a kind after an ISSUE (R90). -/
def Stock.issuedTo (moved : Nat) (counts : Stock) : Stock := { counts with issued := counts.issued + moved }

/-- An ISSUE from a cabinet whose wave does not serve. -/
theorem Part.issueFrom_unserved {p : Part} {n : Fin 8} (moved : Nat)
    (apart : ∀ w v, (p.cabinets.get n).waveSlot = some w → p.waves.get w = some v → v.state ≠ .serving) :
    PlatesMoved (ofKind (p.cabinets.get n).kind) true true p (p.issueFrom n moved) ∧
      (p.issueFrom n moved).stock =
        p.stock.set (p.cabinets.get n).kind ((p.stock.get (p.cabinets.get n).kind).issuedTo moved) ∧
      (p.issueFrom n moved).cabinets = p.cabinets.set n
        { p.cabinets.get n with batches := takeOldest moved (p.cabinets.get n).batches } := by
  rw [Part.issueFrom_apart moved apart]
  exact ⟨(p.takenTo_moved n moved _).1, p.takenTo_records n moved _⟩

/-- What a serving wave becomes: it counts the plates, and at its covers it closes (R90, R138, R139). -/
theorem State.issueServed_counts {s t : State} {n : Fin 8} {w : Fin 12} {v : Wave} (held : s.wave w = some v)
    (serves : v.state = .serving) (tag : Byte) (moved : Nat) (counts : Stock) (a : Answer)
    (answers : t = s.answer 0x55 tag (s.part.issueServed n w moved counts, a)) :
    ∃ u, t.wave w = some u ∧ u.issued = min 65535 (v.issued + moved) ∧
      u.state = (if v.covers ≤ u.issued then .closed else .serving) ∧
      (u.issued < v.covers →
        u = { v with issued := u.issued, short := decide (potentialOf t v < v.covers - u.issued) } ∧
        t.slot (platesShortSlot w) = shortSlotAfter s w v.short u.short (v.covers - u.issued - potentialOf t v) ∧
        t.slot (waveLateSlot w) = s.slot (waveLateSlot w)) ∧
      (v.issued < v.covers → v.covers ≤ u.issued → t.part.justClosed = some w) ∧
      (v.covers ≤ u.issued →
        (PagesKept s.pager → noPageBut (.wave w) t.pager) ∧
        (s.pager.port ≠ .idle → (∀ k, (s.pager.routes.get k).enabled = false) →
          noticeCancels s.part.uptime (.wave w) s.pager t.pager)) := by
  have wave := Part.issueServed_wave (n := n) (moved := moved) (counts := counts) held serves
  have short := Part.issueServed_short (n := n) (moved := moved) (counts := counts) held serves
  have late := Part.issueServed_late (n := n) (moved := moved) (counts := counts) held serves
  have closed := Part.issueServed_closed (n := n) (moved := moved) (counts := counts) held serves
  have noPage := Part.issueServed_noPage (n := n) (moved := moved) (counts := counts) held serves
  have cancels := Part.issueServed_cancels (n := n) (moved := moved) (counts := counts) held serves
  have justClosed := Part.issueServed_justClosed (n := n) (moved := moved) (counts := counts) held serves
  generalize s.part.issueServed n w moved counts = q at *
  subst answers
  by_cases reached : v.covers ≤ min 65535 (v.issued + moved)
  · exact ⟨_, closed reached, rfl, (if_pos reached).symm, fun fewer => absurd reached (Nat.not_le.mpr fewer),
      fun fell _ => justClosed reached fell, fun _ => ⟨noPage reached, cancels reached⟩⟩
  · have more := Nat.not_le.mp reached
    exact ⟨_, wave more, rfl, serves.trans (if_neg reached).symm, fun _ => ⟨rfl, short more, late more⟩,
      fun _ all => absurd all reached, fun all => absurd all reached⟩

/-- Settles O32: the batches that leave, the counts, and an ISSUE by whether the cabinet's wave serves. -/
theorem issueAndUnloadTakeTheOldest : Obligations.IssueAndUnloadTakeTheOldest := by
  refine ⟨fun s tag cabinet count => ⟨fun out => ⟨?_, ?_⟩, ?requests⟩, ?oldest⟩
  case oldest =>
    intro n batches enough
    refine ⟨by rw [heldIn_takeOldest]; omega, ?_⟩
    cases takenFrom_oldest enough with
    | whole gone left split rest all cold => exact ⟨gone, left, split, .inl ⟨rest, all, cold⟩⟩
    | partly gone b rest split more fewer reduced cold =>
      exact ⟨gone, b :: rest, split, .inr ⟨b, rest, rfl, more, fewer, reduced, cold⟩⟩
  · simp only [exec, execIssue, issue_outOfRange s.part out]
  · simp only [exec, execUnloadPlates, unloadPlates_outOfRange s.part out]
  case requests =>
    intro inTable asked n c old moved cold
    have issues := issue_taken s.part inTable asked (moved := moved) rfl
    have unloads := unloadPlates_taken s.part inTable asked (moved := moved) rfl
    refine ⟨fun none => ⟨?_, ?_⟩, fun some => ⟨unloadPlates_moves inTable asked rfl rfl some, ?issue⟩⟩
    · rw [if_pos none, none, moveAnswer_none asked] at issues
      simp only [exec, execIssue, issues, cold, none]
      rfl
    · rw [if_pos none, none, moveAnswer_none asked] at unloads
      simp only [exec, execUnloadPlates, unloads]
    case issue =>
      rw [if_neg (by omega), moveAnswer_eq] at issues
      have taken : exec (.issue tag cabinet count) s = .next (s.answer 0x55 tag (s.part.issueFrom n moved,
          { status := moveStatus count.toNat moved, pieces := moveFields count.toNat moved cold })) := by
        simp only [exec, execIssue, issues]
        rfl
      refine ⟨_, taken, ?_⟩
      by_cases serving : ∃ w v, c.waveSlot = .some w ∧ s.wave w = .some v ∧ v.state = .serving
      · obtain ⟨w, v, slotted, held, serves⟩ := serving
        have isOnly (x : Fin 12) (is : c.waveSlot = .some x) : x = w := Option.some.inj (is.symm.trans slotted)
        have sameWave (u : Wave) (is : s.wave w = .some u) : u = v := Option.some.inj (is.symm.trans held)
        have notServing
            (impossible : ∀ x u, c.waveSlot = .some x → s.wave x = .some u → u.state ≠ .serving) : False :=
          impossible w v slotted held serves
        have apart (x : Fin 12)
            (free : ∀ u, s.wave x = .some u → c.waveSlot ≠ .some x ∨ u.state ≠ .serving) : x ≠ w := by
          rintro rfl
          exact (free v held).elim (· slotted) (· serves)
        rw [Part.issueFrom_serving moved slotted held serves]
        have works := Part.issueServed_works (n := n) (moved := moved) (counts := old.issuedTo moved) held serves
        have stock := Part.issueServed_stock (n := n) (moved := moved) (counts := old.issuedTo moved) held serves
        have batches := Part.issueServed_batches (n := n) (moved := moved) (counts := old.issuedTo moved) held serves
        have others (x : Fin 12) (other : x ≠ w) :=
          Part.issueServed_others (n := n) (moved := moved) (counts := old.issuedTo moved) held serves other
        have low (more) := Part.issueServed_low (n := n) (moved := moved) (counts := old.issuedTo moved) held serves
          more slotted
        have wave := State.issueServed_counts (n := n) held serves tag moved (old.issuedTo moved)
          { status := moveStatus count.toNat moved, pieces := moveFields count.toNat moved cold } rfl
        change ∀ x, x ≠ w → noticedAt (ofKind c.kind) (ofPart s.part) (ofPart (s.part.issueServed n w moved
          (old.issuedTo moved))) x at others
        rw [show s.part.issueServed n w moved { s.part.stock.get (s.part.cabinets.get n).kind with
          issued := (s.part.stock.get (s.part.cabinets.get n).kind).issued + moved } =
            s.part.issueServed n w moved (old.issuedTo moved) from rfl]
        generalize s.part.issueServed n w moved (old.issuedTo moved) = q at *
        refine ⟨works.answered_part 0x55 tag
          { status := moveStatus count.toNat moved, pieces := moveFields count.toNat moved cold },
          fun unserved => (notServing unserved).elim, fun x free => noticedAt_answer (others x (apart x free)),
          fun x u is at_ => ?_, fun k other => ?_, ?_, fun m other => ?_, ?_, fun x u at_ free => ?_,
          fun x u is at_ _ => ?_, fun busy off x u is at_ _ more => ?_, fun unserved => (notServing unserved).elim⟩
        · obtain rfl := isOnly x is
          obtain rfl := sameWave u at_
          exact works.kept_part 0x55 tag
            { status := moveStatus count.toNat moved, pieces := moveFields count.toNat moved cold }
        · exact (congrArg (·.get k) stock).trans (Table.get_set_ne _ _ other)
        · exact (congrArg (·.get c.kind) stock).trans (Table.get_set_self _ _ _)
        · exact (batches m).trans (if_neg other)
        · exact (batches n).trans (if_pos rfl)
        · refine noticedAt_keeps (noticedAt_answer (others x (apart x fun y is => ?_))) at_
          rwa [Option.some.inj (is.symm.trans at_)]
        · obtain rfl := isOnly x is
          obtain rfl := sameWave u at_
          obtain ⟨u', becomes, issued, state, more, just, all⟩ := wave
          exact ⟨u', becomes, issued, state, more, fun short reached _ => just short reached, all⟩
        · obtain rfl := isOnly x is
          obtain rfl := sameWave u at_
          exact low more busy off
      · have apart (w : Fin 12) (v : Wave) (slotted : c.waveSlot = .some w) (held : s.wave w = .some v) :
            v.state ≠ .serving := fun serves => serving ⟨w, v, slotted, held, serves⟩
        obtain ⟨notices, stock, cabinets⟩ := Part.issueFrom_unserved (p := s.part) (n := n) moved apart
        generalize s.part.issueFrom n moved = q at *
        obtain ⟨-, noticed, judged⟩ := notices.answered 0x55 tag
          { status := moveStatus count.toNat moved, pieces := moveFields count.toNat moved cold }
        have works : Works { waveFoot with stock := true } waveSlots s.part q := notices.works.widen
        have kept := notices.works.moves.touches
        have cabinet : q.cabinets.get n = { c with batches := takeOldest moved c.batches } := by
          rw [cabinets, Table.get_set_self]
        have others (m : Fin 8) (other : m ≠ n) : q.cabinets.get m = s.cabinet m := by
          rw [cabinets, Table.get_set_ne _ _ other]
        refine ⟨works.answered_part 0x55 tag
          { status := moveStatus count.toNat moved, pieces := moveFields count.toNat moved cold },
          fun _ => ⟨noticed, judged⟩, fun x _ => judged.1 x, fun w v _ _ => ?_, fun k other => ?_, ?_,
          fun m other => ?_, ?_, fun x v held _ => noticedAt_keeps (judged.1 x) held, ?_, ?_,
          fun _ => ⟨kept.loops rfl, kept.feeder rfl, others, cabinet⟩⟩
        · exact (works.mono (own' := waveSlots ++ v.cabinets.map fun m => overtempSlot (cabinetLoop m)) rfl
            (List.subset_append_left _ _) (g := { waveFoot with stock := true })).kept_part 0x55 tag
              { status := moveStatus count.toNat moved, pieces := moveFields count.toNat moved cold }
        · exact (congrArg (·.get k) stock).trans (Table.get_set_ne _ _ other)
        · exact (congrArg (·.get c.kind) stock).trans (Table.get_set_self _ _ _)
        · exact congrArg Cabinet.batches (others m other)
        · exact congrArg Cabinet.batches cabinet
        · exact fun w v slotted held serves => absurd serves (apart w v slotted held)
        · exact fun _ _ w v slotted held serves => absurd serves (apart w v slotted held)

end Sys2Proof.Machine
end
